-- ==== Sys2Proof/Word.lean ====
section
/-! DEFINITION. The word types of the OPD-2406 model (spec/00_scope.md, Conventions; spec/11_frame_and_record_layouts.md). -/

namespace Sys2Proof

/-- A byte of a frame body, of a REPLY payload or of the configuration image; a cell code of the board. -/
abbrev Byte := BitVec 8

/-- An absolute service day number 0..65,535; the number wraps (00_scope, Service day and clock time). -/
abbrev Day := BitVec 16

/-- A sheet version 0..65,535, where 0 stands for a position that holds no sheet (R42, R43). -/
abbrev Version := BitVec 16

/-- A stop id 0..65,535. -/
abbrev StopId := BitVec 16

/-- A route slot; the value `i` stands for the slot the spec numbers `i + 1` (00_scope, Route slots). -/
abbrev SlotIx := Fin 6

/-- The codes of one line of the board or of one text, first cell first. -/
abbrev Cells := List Byte

end Sys2Proof
end

