-- ==== Sys2Proof/Syntax.lean ====
section
/-! DEFINITION. The commands of the OPD-2406: one constructor for each row of spec/opcode_table.json.
The table gives its rows no operands; the operands here are what the outside world brings to the step. -/

namespace Sys2Proof

/-- Where the table takes a minute boundary's fill pass among its other work of the same second, which R65 leaves
open: before the sight-loss checks of the counted second and the evaluations of the board tick, after the checks only,
after the evaluations only, or after both. -/
inductive PassPlace where
  | first
  | afterChecks
  | afterEvaluations
  | last
  deriving DecidableEq, Repr

/-- The order of the planner's and the engine's work at the sweep time, which R108 and R135 leave open: the planner
first; the engine out of FAULTED first, its test for promotion meeting the withdrawal already made; or the engine
first with its test for promotion made before the withdrawal. -/
inductive SweepOrder where
  | planner
  | engine
  | promotion
  deriving DecidableEq, Repr

/-- What a COUNTED_SECOND leaves open of a sweep time: whether it reaches the planner before the target changes of the
same board tick (R103), and the order of the work it sets off. -/
structure SweepTurn where
  sweepFirst : Bool
  order : SweepOrder
  deriving DecidableEq, Repr

/-- An OFFER_FRAME's time, and whether the request for D+1 of a listing, with its draw, comes before the one for D. -/
structure OfferTurn where
  dt : Nat
  nextFirst : Bool
  deriving DecidableEq, Repr

/-- A REBUILD_COMPLETION's time, and whether the waiting assembly that the cleared flag releases is committed before
the closing fill pass. -/
structure RebuildEnd where
  dt : Nat
  commitFirst : Bool
  deriving DecidableEq, Repr

/-- A change of the comparator's node: its time, and the voltage in mV that the node has come to. -/
structure NodeChange where
  dt : Nat
  node : Nat
  deriving DecidableEq, Repr

/-- The commands. `dt` is the time in milliseconds of the elapsed-time base since the command before;
a timer's expiry has no `dt`, since it comes at the timer's own instant (assumption log 1). -/
inductive Instr where
  /-- NPOR_RELEASE (R167). -/
  | nporRelease
  /-- CONFIGURATION_ABSENT (R167); `node` is the store voltage on VSTO in mV as the blocks start (R141). -/
  | configurationAbsent (dt node : Nat)
  /-- CONFIGURATION_READ_COMPLETE (R171); `image` is the 512 bytes read, `node` as above. -/
  | configurationReadComplete (dt node : Nat) (image : List Byte)
  /-- CHARACTER (R148, R151): the first, second and third sample of each of the eleven bits on CRXD;
  bit 0 is the start bit, bits 1..8 the data least significant first, bit 9 the mark, bit 10 the stop bit. -/
  | character (dt : Nat) (sample1 sample2 sample3 : BitVec 11)
  /-- IDLE (R152). -/
  | idle (dt : Nat)
  /-- CLOCK_FRAME (R67). `offerFirst`: at a first adoption the offer timer is drawn before the beacon
  timer (R162 leaves the order open). `passFirst`: the table's fill pass comes first, at a clock step before its sight-loss
  checks (R24 leaves the order open), at a day jump that cancels a rebuild before the commit of the waiting assembly
  (R22 and R25 leave the order open; assumption log 10). -/
  | clockFrame (dt : Nat) (offerFirst passFirst : Bool)
  /-- OFFER_FRAME (R56). R56 and R162 leave the order of a listing's two requests open (assumption log 10). -/
  | offerFrame (turn : OfferTurn)
  /-- SHEET_FRAME (R46). -/
  | sheetFrame (dt : Nat)
  /-- PASS_FRAME (R14). -/
  | passFrame (dt : Nat)
  /-- SIGHT_FRAME (R9). -/
  | sightFrame (dt : Nat)
  /-- NOTICE_FRAME (R86). -/
  | noticeFrame (dt : Nat)
  /-- QUERY_FRAME (R172). -/
  | queryFrame (dt : Nat)
  /-- REPLY_DISCARDED (R154). -/
  | replyDiscarded (dt : Nat)
  /-- REBUILD_COMPLETION (R21). R21 and R51 leave the order of the commit and the pass open (assumption log 10). -/
  | rebuildCompletion (ending : RebuildEnd)
  /-- COUNTED_SECOND (R64). `pass` places a minute boundary's fill pass, `sweep` the work of a sweep time (assumption
  log 10). -/
  | countedSecond (pass : PassPlace) (sweep : SweepTurn)
  /-- AGING_TIMER_EXPIRY (R73). -/
  | agingTimerExpiry
  /-- BEACON_TIMER_EXPIRY (R74). -/
  | beaconTimerExpiry
  /-- OFFER_TIMER_EXPIRY (R54). -/
  | offerTimerExpiry
  /-- ASSEMBLY_TIMEOUT (R50). -/
  | assemblyTimeout
  /-- HOLDOFF_END (R59). -/
  | holdoffEnd
  /-- SCAN_TIMER_EXPIRY (R139). -/
  | scanTimerExpiry
  /-- SCAN_COMPLETION (R140) of a conversion that gave `counts`. -/
  | scanCompletion (dt : Nat) (counts : BitVec 12)
  /-- STORE_LOW_ACTIVE (R141): the comparator's node has fallen to a voltage. -/
  | storeLowActive (change : NodeChange)
  /-- STORE_LOW_INACTIVE (R141): the comparator's node has risen to a voltage. -/
  | storeLowInactive (change : NodeChange)
  /-- TEMPERATURE_TIMER_EXPIRY (R143). -/
  | temperatureTimerExpiry
  /-- TEMPERATURE_ANSWER (R146): `value` is the answer on PTIN in whole degrees, two's complement. -/
  | temperatureAnswer (dt : Nat) (value : Byte)
  /-- READ_TIMEOUT (R144). -/
  | readTimeout
  /-- LOAD_STEP_END (R125). -/
  | loadStepEnd (dt : Nat)
  /-- READY (R127). `promotionFirst`: at a completion the promotion of a staged job reaches the planner before
  the completion report (R116 leaves the order open). -/
  | ready (dt : Nat) (promotionFirst : Bool)
  /-- READY_TIMEOUT (R134). -/
  | readyTimeout
  /-- STOP_SENT (R134). -/
  | stopSent (dt : Nat)
  /-- SUSPEND_LIMIT_EXPIRY (R133). -/
  | suspendLimitExpiry
  /-- QUIET_TIMER_EXPIRY (R155). -/
  | quietTimerExpiry
  /-- SNIFF_TIMER_EXPIRY (R158). -/
  | sniffTimerExpiry
  /-- WINDOW_CLOSE (R158). -/
  | windowClose
  /-- CARRIER_DETECT_RISE (R163). -/
  | carrierDetectRise (dt : Nat)
  /-- CARRIER_QUIET (R163). -/
  | carrierQuiet (dt : Nat)
  /-- BACKOFF_SLOT (R163). -/
  | backoffSlot (dt : Nat)
  /-- FRAME_SENT (R165). -/
  | frameSent (dt : Nat)
  /-- FRAME_ABANDONED (R164). -/
  | frameAbandoned
  /-- NPOR_ASSERTED (R167). -/
  | nporAsserted
  deriving DecidableEq, Repr

end Sys2Proof
end

