-- ==== Sys2Proof/Machine/Bits.lean ====
section
/-! DEFINITION. Byte order, bit fields, the frame check of R149, the LFSR of R162 and small list helpers. -/

namespace Sys2Proof.Machine

open Sys2Proof

/-! ### Byte order (11: multi-byte fields most significant byte first) -/

/-- The `n` bytes of `v`, most significant first; bits of `v` above the field are lost. -/
def bytesOf : Nat → Nat → List Byte
  | 0, _ => []
  | n + 1, v => BitVec.ofNat 8 (v / 256 ^ n) :: bytesOf n v

/-- The `n` bytes of a signed value in two's complement, most significant first (R175). -/
def bytesOfInt (n : Nat) (v : Int) : List Byte :=
  bytesOf n (v % (256 ^ n : Nat)).toNat

/-- The value of bytes, most significant first. -/
def valueOf (bs : List Byte) : Nat :=
  bs.foldl (fun acc b => acc * 256 + b.toNat) 0

/-- The `len` bytes of a body or image from offset `off`. -/
def slice (bs : List Byte) (off len : Nat) : List Byte :=
  (bs.drop off).take len

/-- The unsigned field of `len` bytes at offset `off`. -/
def field (bs : List Byte) (off len : Nat) : Nat :=
  valueOf (slice bs off len)

/-- The two's complement reading of a field of `bits` bits (R175). -/
def signedOf (bits v : Nat) : Int :=
  if v < 2 ^ (bits - 1) then (v : Int) else (v : Int) - (2 ^ bits : Nat)

/-! ### The check (R149) -/

/-- One bit into the check register, generator x¹⁶ + x¹² + x⁵ + 1. -/
def crcBit (r : BitVec 16) (bit : Bool) : BitVec 16 :=
  if r.msb != bit then (r <<< 1) ^^^ 0x1021#16 else r <<< 1

/-- One byte into the check register, most significant bit first. -/
def crcByte (r : BitVec 16) (b : Byte) : BitVec 16 :=
  [7, 6, 5, 4, 3, 2, 1, 0].foldl (fun acc i => crcBit acc (b.getLsbD i)) r

/-- The check over bytes in order: the register starts with all bits at 1, no final inversion. -/
def crc (bs : List Byte) : BitVec 16 :=
  bs.foldl crcByte 0xFFFF#16

/-! ### The LFSR (R162) -/

/-- One step: the exclusive-or of bits 16, 14, 13 and 11 (numbered from 1) enters at bit 1 as the value
shifts one place toward bit 16. -/
def lfsrStep (v : BitVec 16) : BitVec 16 :=
  let feedback := v.getLsbD 15 ^^ v.getLsbD 13 ^^ v.getLsbD 12 ^^ v.getLsbD 10
  (v <<< 1) ||| (BitVec.ofBool feedback).setWidth 16

/-- `n` steps. -/
def lfsrSteps : Nat → BitVec 16 → BitVec 16
  | 0, v => v
  | n + 1, v => lfsrSteps n (lfsrStep v)

/-- The start value taken from a stop id (R162). -/
def lfsrSeed (id : StopId) : BitVec 16 :=
  if id = 0#16 then 1#16 else id

/-! ### Lists and vectors -/

/-- A row of exactly `n` cells: the given codes, cut at `n` or filled with blanks. -/
def fit (n : Nat) (cells : Cells) : Cells :=
  (cells ++ List.replicate n 32#8).take n

/-- A text right-aligned in `n` cells (R37). -/
def rightAlign (n : Nat) (text : Cells) : Cells :=
  List.replicate (n - text.length) 32#8 ++ text

/-- A function applied to every element of a vector. -/
def mapVector {α β : Type} {n : Nat} (f : α → β) (v : Vector α n) : Vector β n :=
  ⟨⟨v.toList.map f⟩, by simp⟩

/-- A function applied to every element of a vector with its place. -/
def mapPlaces {α β : Type} {n : Nat} (f : Nat → α → β) (v : Vector α n) : Vector β n :=
  ⟨⟨v.toList.zipIdx.map fun p => f p.2 p.1⟩, by simp⟩

/-- Put an element before the first one that must not stand before it. -/
def insertBy {α : Type} (before : α → α → Bool) (a : α) : List α → List α
  | [] => [a]
  | b :: rest => if before a b then a :: b :: rest else b :: insertBy before a rest

/-- Elements in the order `before` gives; elements it does not tell apart keep their order. -/
def sortBy {α : Type} (before : α → α → Bool) : List α → List α
  | [] => []
  | a :: rest => insertBy before a (sortBy before rest)

/-- The first place at which a predicate holds, counted from 0. -/
def placeWhere {α : Type} (p : α → Bool) : List α → Option Nat
  | [] => none
  | a :: rest => if p a then some 0 else (placeWhere p rest).map (· + 1)

/-- The six route slots in slot order. -/
def allSlots : List SlotIx := [0, 1, 2, 3, 4, 5]

/-- The ten lines in ascending order. -/
def allLines : List (Fin 10) := [0, 1, 2, 3, 4, 5, 6, 7, 8, 9]

end Sys2Proof.Machine
end

