-- ==== Sys2Proof/Config.lean ====
section
/-! DEFINITION. What an implementation fixes: the capacities the spec states, the values a configuration image
loads and their defaults (R168, 11.4), and the free values of the points the spec leaves open. -/

namespace Sys2Proof

/-- One number for each drive band B1..B4 (6.1 and 7.4 parameters). -/
structure PerBand where
  b1 : Nat
  b2 : Nat
  b3 : Nat
  b4 : Nat
  deriving DecidableEq, Repr

/-- The loaded values of one route slot, with the loader's verdict on it (R170). -/
structure SlotConfig where
  /-- Whether the slot takes part in the blocks (R170). -/
  enabled : Bool
  /-- Route tag, 12 bits; 0 is an unused slot. -/
  tag : Nat
  /-- This stop's index `s` on the route. -/
  stopIndex : Nat
  /-- The route's terminal index. -/
  terminal : Nat
  /-- Offset `T` from the origin departure to this stop, in seconds. -/
  offset : Nat
  /-- Route label, 4 codes. -/
  label : Cells
  /-- Destination text, 18 codes. -/
  destination : Cells
  /-- Short-turn text, 18 codes. -/
  shortTurn : Cells
  deriving DecidableEq, Repr

/-- The values the loader hands to the blocks (R171): one field for each field of the image (11.4). -/
structure Loaded where
  stopId : StopId
  dayStart : Nat
  stopName : Cells
  standby : Cells
  slots : Vector SlotConfig 6
  horizon : Nat
  sightLoss : Nat
  ttl : Nat
  recovery : Nat
  early : Nat
  trust : Nat
  grace : Nat
  hysteresis : Nat
  rotation : Nat
  assemblyTimeout : Nat
  offerInterval : Nat
  clockInterval : Nat
  capacitance : Nat
  ghostLimit : Nat
  floorVoltage : Nat
  reserve : Nat
  ample : Nat
  lean : Nat
  partialCost : PerBand
  clearingCost : PerBand
  sweepMinute : Nat
  suspendLimit : Nat
  phaseDuration : PerBand
  scanPeriod : Nat
  temperaturePeriod : Nat
  fullScale : Nat
  warning : Nat
  quietInterval : Nat
  sniffPeriod : Nat
  deriving DecidableEq, Repr

namespace Config

/-- Most entries of the departure table (R1). -/
abbrev tableCapacity : Nat := 48
/-- Most frames of the receive queue (R153). -/
abbrev queueCapacity : Nat := 4
/-- Most frames of the relay queue (R160). -/
abbrev relayCapacity : Nat := 8
/-- Most records of the publication list (R57). -/
abbrev publicationCapacity : Nat := 2
/-- Most notices of the notice store (R85). -/
abbrev noticeCapacity : Nat := 4
/-- Most characters of a frame, and of the assembly buffer (9.2, R151). -/
abbrev frameCapacity : Nat := 48
/-- The value at which every counter of the part stops (00_scope, Counters). -/
abbrev counterMax : Nat := 4294967295
/-- Seconds of a service day. -/
abbrev daySeconds : Nat := 86400
/-- Time without adoption after which the stratum rises, in seconds (R73). -/
abbrev agingSeconds : Nat := 21600
/-- Dirty time from which the eldest line seeds a band, in ms (R104). -/
abbrev starvedMs : Nat := 120000
/-- Margin above a threshold at which an energy state is entered from below, in mJ (R98). -/
abbrev entryMargin : Nat := 500
/-- Time a granted frame may wait for its start, in ms (R164). -/
abbrev accessMs : Nat := 8000
/-- Time a SNIFF window is open, in ms (R158). -/
abbrev windowMs : Nat := 2000
/-- Time the panel driver has to answer a temperature read, in ms (R136). -/
abbrev readMs : Nat := 20

/-- The code of the blank cell (00_scope, Terms: Cell). -/
abbrev blank : Byte := 32#8

/-- A row of `n` blank cells. -/
def blanks (n : Nat) : Cells := List.replicate n blank

/-- The default standby text: OUT OF SERVICE, then 18 blanks (5.1). -/
def standbyDefault : Cells :=
  [79#8, 85#8, 84#8, 32#8, 79#8, 70#8, 32#8, 83#8, 69#8, 82#8, 86#8, 73#8, 67#8, 69#8] ++ blanks 18

/-- A slot under the defaults: not enabled (R168). The fields the spec gives no default ('—', 'none') hold
zero and blanks, and no block reads them while the slot is not enabled (DESIGN CHOICE, assumption log 4). -/
def slotDefault : SlotConfig where
  enabled := false
  tag := 0
  stopIndex := 0
  terminal := 0
  offset := 0
  label := blanks 4
  destination := blanks 18
  shortTurn := blanks 18

/-- Every field at its default (11.4; R168). -/
def defaults : Loaded where
  stopId := 0#16
  dayStart := 210
  stopName := blanks 24
  standby := standbyDefault
  slots := Vector.replicate 6 slotDefault
  horizon := 7200
  sightLoss := 90
  ttl := 4
  recovery := 12
  early := 60
  trust := 900
  grace := 120
  hysteresis := 20
  rotation := 3
  assemblyTimeout := 120
  offerInterval := 600
  clockInterval := 300
  capacitance := 50
  ghostLimit := 6
  floorVoltage := 3000
  reserve := 8000
  ample := 25000
  lean := 16000
  partialCost := ⟨300, 200, 150, 120⟩
  clearingCost := ⟨900, 600, 420, 300⟩
  sweepMinute := 190
  suspendLimit := 600
  phaseDuration := ⟨480, 240, 120, 80⟩
  scanPeriod := 10
  temperaturePeriod := 60
  fullScale := 6600
  warning := 3400
  quietInterval := 30
  sniffPeriod := 20

/-- FREE VALUE (assumption log 5): the two scope bytes of a relayed NOTICE of scope ALL. The layout says
only that a receiver ignores them (11.2); `received` is what they were when the notice came. -/
opaque allScopeRelayed (received : BitVec 16) : BitVec 16

end Config

end Sys2Proof
end

