-- ==== Sys2Proof/Machine/State.lean ====
section
/-! DEFINITION. The state of the OPD-2406 as plain data: one structure for each block of the block overview
(00_scope), the part's counters, the elapsed-time base and the queue of waiting commands; and the state
after power-on reset. Instants are milliseconds of the elapsed-time base; timeline values are integers. -/

namespace Sys2Proof.Machine

open Sys2Proof

/-! ### Counters -/

/-- The part's counters, in the order of the METER pages (R176), ten a page; the configuration clamp
counter, which STATUS page 0 shows, stands last. -/
inductive Counter where
  | admission | admissionLoss | sightingTaken | sightIgnored | departure
  | passageOriginated | passAdvanced | passNotAdvancing | passUnmatched | downstreamRemoval
  | overdueRemoval | rebuildRemoval | rolloverRemoval | flushed | observationExpired
  | clockMalformed | clockOutranked | clockAgreeing | clockAdopted | firstAdoption
  | stepForward | stepBack | nextDayAdoption | dayJump | stratumAged
  | clockBuilt | clockSkipped | clockWithdrawn | sheetUnserved | sheetMalformed
  | sheetOutOfDay | sheetNotNewer | fragmentAdded | fragmentRepeated | fragmentSetAside
  | assemblyReplaced | assemblyTimedOut | assemblyExpired | sheetCommitted | sheetRejected
  | sheetExpired | offerBuilt | offerSkipped | offerOtherDay | publicationRequested
  | publicationMerged | publicationRefused | publicationSuppressed | publicationExpired | fragmentPublished
  | fragmentReoffered | publicationCompleted | noticeMalformed | noticeOutOfDay | noticeOutOfScope
  | noticeNotNewer | noticeTruncated | noticeStored | noticeReplaced | noticeEvicted
  | noticeDiscarded | noticeRelayed | noticeExpired | boardRecomposed | targetChange
  | ampleEntered | leanEntered | scarceEntered | dormantEntered | jobStaged
  | bandNarrowed | parkStaged | stagedWithdrawn | stagingHeld | haltRequested
  | sweepMade | phasesDriven | partialJobs | clearingJobs | parkJobs
  | jobPromoted | suspensions | resumptions | abandonments | driveFaults
  | strayReady | strayAnswer | energySpent | scanCompleted | storeLowActivation
  | temperatureRead | temperatureReadFailed | bandChanged | noise | framingError
  | stray | truncated | overlong | malformed | checkFailure
  | filtered | frameReceived | overrun | replyDiscarded | sniffWindow
  | beaconReplaced | relayDropped | relayAbandoned | accessDeferred | frameSent
  | frameAbandoned | configurationAbsent | configurationRejected | slotDisabled | queryMalformed
  | queryOtherStop | queryBusy | queryTaken | replySent | replyAbandoned
  | configurationClamp
  deriving DecidableEq, Repr

/-- The place of a counter among the part's 121 counters: METER page p holds the places 10p..10p+9. -/
def Counter.place (c : Counter) : Fin 121 := ⟨c.ctorIdx, by cases c <;> decide⟩

/-- The values of all counters, by place. -/
abbrev Counters := Vector Nat 121

/-! ### Station clock (chapter 4) -/

/-- The station clock, STC. -/
structure Clock where
  timeValid : Bool
  /-- Service day D. -/
  day : Day
  /-- Service second X. -/
  second : Nat
  /-- Milliseconds elapsed since the last counted second was taken; below 1,000 unless a counted second is
  due and has not been taken yet (assumption log 2). -/
  phase : Nat
  stratum : Nat
  lastAdoption : Option Nat
  agingTimer : Option Nat
  beaconTimer : Option Nat
  deriving DecidableEq, Repr

/-! ### Sheet store (chapter 3) -/

/-- One run of a sheet (3.1). -/
structure Run where
  number : Nat
  /-- Origin departure O. -/
  origin : Nat
  terminal : Option Nat
  deriving DecidableEq, Repr

/-- A stored timetable sheet (3.1). -/
structure Sheet where
  day : Day
  version : Version
  runs : List Run
  deriving DecidableEq, Repr

/-- The two states of an assembly (R47). -/
inductive AssemblyState where
  | collecting
  | complete
  deriving DecidableEq, Repr

/-- The record in which an incoming sheet is collected (R47). `fragments` holds, for each received index,
the runs of that fragment as they arrived. -/
structure Assembly where
  day : Day
  version : Version
  count : Nat
  fragments : List (Nat × List Run)
  state : AssemblyState
  /-- The instant of the last addition. -/
  lastAddition : Nat
  deriving DecidableEq, Repr

/-- What the sheet store holds for one route slot. -/
structure SlotSheets where
  sheets : List Sheet
  assembly : Option Assembly
  deriving DecidableEq, Repr

/-- The two states of a publication record (R57). -/
inductive PublicationState where
  | holdoff (ends : Nat)
  | sending
  deriving DecidableEq, Repr

/-- One record of the publication list (R57). `made` says how many records had been made before it since power-on
reset: the model's own field, by which a report finds the record it came from (R61; assumption log 34). -/
structure Publication where
  slot : SlotIx
  day : Day
  version : Version
  cursor : Nat
  state : PublicationState
  made : Nat
  deriving DecidableEq, Repr

/-- The sheet store, SHS. -/
structure SheetStore where
  slots : Vector SlotSheets 6
  /-- The slots whose COMPLETE assemblies wait for a commit, in the order they became COMPLETE (R51). -/
  waiting : List SlotIx
  publications : List Publication
  /-- How many publication records have been made since power-on reset; the model's own (assumption log 34). -/
  made : Nat
  offerTimer : Option Nat
  deriving DecidableEq, Repr

/-! ### Departure table and prediction (chapters 1 and 2) -/

/-- The states of an entry. -/
inductive EntryState where
  | expected
  | overdue
  | atStop
  deriving DecidableEq, Repr

/-- The kinds of an observation. -/
inductive ObservationKind where
  | sight
  | pass
  deriving DecidableEq, Repr

/-- An entry's latest report of its bus (1.2). -/
structure Observation where
  kind : ObservationKind
  stop : Nat
  delay : Int
  time : Int
  deriving DecidableEq, Repr

/-- An entry of the departure table (1.2). -/
structure Entry where
  slot : SlotIx
  day : Day
  run : Nat
  /-- Origin departure O. -/
  origin : Nat
  terminal : Option Nat
  /-- Scheduled time S. -/
  scheduled : Int
  observation : Option Observation
  /-- Predicted time P. -/
  predicted : Int
  state : EntryState
  lastSight : Option Int
  shown : Option Nat
  deriving DecidableEq, Repr

/-- The record of a rebuild in flight (R19). -/
structure Rebuild where
  slot : SlotIx
  day : Day
  runs : List Run
  deriving DecidableEq, Repr

/-- The departure table, DPT. The rebuild-in-flight flag is set exactly while `rebuild` is present. -/
structure Table where
  entries : List Entry
  marks : Vector Int 6
  rebuild : Option Rebuild
  passOwed : Bool
  deriving DecidableEq, Repr

/-! ### Board composer (chapter 5) -/

/-- The scope of a notice (5.8). ALL keeps the two scope bytes it came with, which receivers ignore. -/
inductive Scope where
  | all (received : BitVec 16)
  | route (tag : Nat)
  | stop (id : StopId)
  deriving DecidableEq, Repr

/-- A stored notice (R85). -/
structure Notice where
  origin : StopId
  serial : Byte
  scope : Scope
  urgent : Bool
  expiryDay : Day
  expirySecond : Nat
  text : Cells
  deriving DecidableEq, Repr

/-- The board composer, BDC. `current` is the place, counted from 0, of the current notice. -/
structure Board where
  targets : Vector Cells 10
  notices : List Notice
  current : Option Nat
  shownSince : Nat
  deriving DecidableEq, Repr

/-! ### Refresh planner and drive engine (chapters 6 and 7) -/

/-- The energy states (R98). -/
inductive Energy where
  | ample
  | lean
  | scarce
  | dormant
  deriving DecidableEq, Repr

/-- The temperature bands (R145). -/
inductive Band where
  | frozen
  | b1
  | b2
  | b3
  | b4
  | hot
  | unknown
  deriving DecidableEq, Repr

/-- The kinds of a job. -/
inductive JobKind where
  | normal
  | park
  deriving DecidableEq, Repr

/-- The refresh modes. -/
inductive Mode where
  | partialMode
  | clearing
  deriving DecidableEq, Repr

/-- A job record as staged (R107); `phaseIndex` is the number of phases completed. -/
structure Job where
  number : BitVec 8
  kind : JobKind
  first : Nat
  last : Nat
  mode : Mode
  cost : Nat
  phaseIndex : Nat
  deriving DecidableEq, Repr

/-- The states of a job in the active slot (7.2). -/
inductive ActiveState where
  | running
  | suspended
  deriving DecidableEq, Repr

/-- The job of the active slot with what it latched at its promotion (R122). -/
structure ActiveJob where
  job : Job
  band : Band
  /-- The latched content, one row of cells for each line of the job in ascending order. -/
  content : List Cells
  state : ActiveState
  /-- Whether the load step has been made since the promotion or the last resumption (R123). -/
  loaded : Bool
  /-- Whether the planner has made its one halt request for this job (R111). -/
  haltAsked : Bool
  deriving DecidableEq, Repr

/-- The condition of a line's glass (R118). -/
inductive Condition where
  | settled
  | unsettled
  | unknown
  deriving DecidableEq, Repr

/-- A line record (R118); an absent `glass` is UNKNOWN. -/
structure LineRecord where
  glass : Option Cells
  ghost : Nat
  condition : Condition
  dirtySince : Option Nat
  deriving DecidableEq, Repr

/-- The refresh planner, RFP. -/
structure Planner where
  voltage : Option Nat
  /-- Available energy Eav, in mJ. -/
  available : Nat
  /-- Park threshold Tp. -/
  parkThreshold : Nat
  /-- Effective LEAN threshold Tl*. -/
  leanThreshold : Nat
  energy : Energy
  boardParked : Bool
  staged : Option Job
  sweep : Vector Bool 10
  nextJob : BitVec 8
  hold : Bool
  /-- The halt request, one piece of state with the engine's (R131). -/
  halt : Option (BitVec 8)
  deriving DecidableEq, Repr

/-- The states of the panel port (R123). -/
inductive PanelPort where
  | idle
  | loading
  | phase
  | reading
  | stopping
  deriving DecidableEq, Repr

/-- The commands on PCLK and PDAT (7.3). -/
inductive PanelCommand where
  | window (first last : Nat)
  | lineLoad (line : Nat) (cells : Cells)
  | phase (number : Nat) (mode : Mode) (duration : Nat)
  | stop
  | temperatureRead
  deriving DecidableEq, Repr

/-- The drive engine, DRE. -/
structure Engine where
  lines : Vector LineRecord 10
  active : Option ActiveJob
  port : PanelPort
  readRequest : Bool
  freshHold : Bool
  suspendedAt : Option Nat
  faults : Nat
  faulted : Bool
  /-- The instant at which the READY timeout of the outstanding phase runs out (R126). -/
  phaseDeadline : Option Nat
  /-- The instant 20 ms after the outstanding temperature read command (R136). -/
  readDeadline : Option Nat
  /-- The commands of the port's present activity, as sent on PCLK and PDAT, first sent first. -/
  commands : List PanelCommand
  deriving DecidableEq, Repr

/-! ### Sense unit (chapter 8) -/

/-- The sense unit, SNU. -/
structure Sense where
  history : List Nat
  median : Option Nat
  storeLow : Bool
  temperature : Option Int
  band : Band
  failures : Nat
  scanTimer : Option Nat
  temperatureTimer : Option Nat
  /-- Whether a conversion has been started and has not completed (R139). -/
  converting : Bool
  deriving DecidableEq, Repr

/-! ### Channel port (chapter 9) -/

/-- The receive states (R151). -/
inductive ReceiveState where
  | hunt
  | assemble
  | skip
  deriving DecidableEq, Repr

/-- The receive modes (R155). -/
inductive ReceiveMode where
  | listen
  | doze
  | sniff
  deriving DecidableEq, Repr

/-- The SNIFF window (R158): closed; open with its 2 s running to `closes`; or past its 2 s and held open by
a frame in ASSEMBLE. -/
inductive Window where
  | closed
  | running (closes : Nat)
  | held
  deriving DecidableEq, Repr

/-- A good frame of the receive queue with its completion stamp (R152). -/
structure ReceivedFrame where
  header : Byte
  body : List Byte
  stamp : Nat
  deriving DecidableEq, Repr

/-- The receive side of the channel port. -/
structure Receiver where
  state : ReceiveState
  /-- The assembly buffer: the header, then the unmarked characters, 8 data bits each. -/
  buffer : List Byte
  /-- The instant at which the last character taken completed. -/
  lastCharacter : Nat
  queue : List ReceivedFrame
  mode : ReceiveMode
  quietTimer : Option Nat
  sniffTimer : Option Nat
  window : Window
  /-- Radio power, the CRPE output. -/
  radio : Bool
  deriving DecidableEq, Repr

/-- A frame to send, without its check. -/
structure SendFrame where
  header : Byte
  body : List Byte
  deriving DecidableEq, Repr

/-- Where a granted frame came from; a sheet fragment names its record, by slot, day and place of making, and the
version it was built from (R61). -/
inductive Source where
  | reply
  | clock
  | offer
  | relay
  | publication (slot : SlotIx) (day : Day) (version : Version) (made : Nat)
  deriving DecidableEq, Repr

/-- The granted frame (R161). A CLOCK frame has an empty body until its start (R75). -/
structure Granted where
  source : Source
  frame : SendFrame
  grantedAt : Nat
  deriving DecidableEq, Repr

/-- The rotation pointer (R161). -/
inductive Rotation where
  | relay
  | publication
  deriving DecidableEq, Repr

/-- The send states; CTXE is raised exactly in SENDING (R165). -/
inductive SendState where
  | idle
  | access
  | sending
  deriving DecidableEq, Repr

/-- Where a frame in ACCESS stands (R163): waiting for 3 character times of low carrier; counting its
backoff down; or with its countdown at 0, waiting for store-low to become inactive. -/
inductive AccessStage where
  | carrierWait
  | countdown
  | storeLowWait
  deriving DecidableEq, Repr

/-- The send side of the channel port. -/
structure Sender where
  reply : Option SendFrame
  /-- Whether a CLOCK frame waits in the beacon slot. -/
  clockWaiting : Bool
  /-- The OFFER waiting in the beacon slot. -/
  offerWaiting : Option SendFrame
  relay : List SendFrame
  pointer : Rotation
  state : SendState
  granted : Option Granted
  stage : AccessStage
  /-- The backoff slots left, once drawn (R163). -/
  backoff : Option Nat
  lfsr : BitVec 16
  /-- The characters of the frame on the air, each as its 11 bits on CTXD with bit 0 sent first. -/
  line : List (BitVec 11)
  deriving DecidableEq, Repr

/-! ### Configuration loader (chapter 10) -/

/-- The loader states. -/
inductive LoaderState where
  | reading
  | done
  deriving DecidableEq, Repr

/-- Where the loaded values came from. -/
inductive ConfigSource where
  | image
  | absent
  | rejected
  deriving DecidableEq, Repr

/-- The configuration loader, CFL. -/
structure Loader where
  /-- Whether NPOR is released; while it is asserted no read is in progress. -/
  released : Bool
  state : LoaderState
  source : ConfigSource
  loaded : Loaded
  deriving DecidableEq, Repr

/-! ### The machine -/

/-- The state of the part: the waiting commands, the elapsed-time base and the blocks. -/
structure State where
  /-- The commands that wait, first in, first out. -/
  pending : List Instr
  /-- The elapsed-time base: milliseconds from power-on. -/
  elapsed : Nat
  loader : Loader
  clock : Clock
  sheets : SheetStore
  table : Table
  board : Board
  planner : Planner
  engine : Engine
  sense : Sense
  rx : Receiver
  tx : Sender
  counters : Counters
  deriving DecidableEq, Repr

/-- The reasons of a fault. There is none: the spec gives every command an effect, or says that it has
none, in every state, so no step of this machine stops with a fault. -/
inductive Fault where
  deriving DecidableEq, Repr

/-- The reasons of a refusal. -/
inductive Refusal where
  /-- Raised by `exec` for a command that has no meaning yet; safe, since nothing is then claimed of it.
  No arm raises it in this model. -/
  | notModelled (mnemonic : String)
  deriving DecidableEq, Repr

namespace State

/-- A line record after power-on reset (R118). -/
def lineReset : LineRecord := ⟨none, 0, .unknown, none⟩

/-- The station clock after power-on reset (chapter 4, first table). -/
def clockReset : Clock where
  timeValid := false
  day := 0#16
  second := 0
  phase := 0
  stratum := 7
  lastAdoption := none
  agingTimer := none
  beaconTimer := none

/-- The sheet store after power-on reset (R42, R47, R54, R57). -/
def sheetsReset : SheetStore where
  slots := Vector.replicate 6 ⟨[], none⟩
  waiting := []
  publications := []
  made := 0
  offerTimer := none

/-- The departure table after power-on reset (R3). -/
def tableReset : Table where
  entries := []
  marks := Vector.replicate 6 0
  rebuild := none
  passOwed := false

/-- The board composer after power-on reset (R76, R85). The shown-since instant, which no rule reads while no
notice is current, is 0 (DESIGN CHOICE, assumption log 4). -/
def boardReset : Board where
  targets := Vector.replicate 10 (Config.blanks 32)
  notices := []
  current := none
  shownSince := 0

/-- The refresh planner after power-on reset (chapter 6, first table): Tp = R + 9 × cc[B1] and
Tl* = max(Tl, Tp + 1) over the loaded values. -/
def plannerReset (c : Loaded) : Planner where
  voltage := none
  available := 0
  parkThreshold := c.reserve + 9 * c.clearingCost.b1
  leanThreshold := max c.lean (c.reserve + 9 * c.clearingCost.b1 + 1)
  energy := .dormant
  boardParked := false
  staged := none
  sweep := Vector.replicate 10 false
  nextJob := 0#8
  hold := false
  halt := none

/-- The drive engine after power-on reset (chapter 7, first table). -/
def engineReset : Engine where
  lines := Vector.replicate 10 lineReset
  active := none
  port := .idle
  readRequest := false
  freshHold := false
  suspendedAt := none
  faults := 0
  faulted := false
  phaseDeadline := none
  readDeadline := none
  commands := []

/-- The sense unit after power-on reset (chapter 8, first table). -/
def senseReset : Sense where
  history := []
  median := none
  storeLow := false
  temperature := none
  band := .unknown
  failures := 0
  scanTimer := none
  temperatureTimer := none
  converting := false

/-- The receive side after power-on reset (chapter 9, first table). The instant of the last character,
which no rule reads before a character comes, is 0 (DESIGN CHOICE, assumption log 4). -/
def rxReset : Receiver where
  state := .hunt
  buffer := []
  lastCharacter := 0
  queue := []
  mode := .listen
  quietTimer := none
  sniffTimer := none
  window := .closed
  radio := false

/-- The send side after power-on reset (chapter 9, first table; R162). The access stage, which no rule reads
while no frame is granted, is the first one (DESIGN CHOICE, assumption log 4). -/
def txReset : Sender where
  reply := none
  clockWaiting := false
  offerWaiting := none
  relay := []
  pointer := .relay
  state := .idle
  granted := none
  stage := .carrierWait
  backoff := none
  lfsr := 1#16
  line := []

/-- The configuration loader after power-on reset (chapter 10, first table), with NPOR asserted. -/
def loaderReset : Loader where
  released := false
  state := .reading
  source := .absent
  loaded := Config.defaults

/-- The part right after power-on reset: every block in its power-on state, every counter zero, NPOR still
asserted, no command waiting. -/
def reset : State where
  pending := []
  elapsed := 0
  loader := loaderReset
  clock := clockReset
  sheets := sheetsReset
  table := tableReset
  board := boardReset
  planner := plannerReset Config.defaults
  engine := engineReset
  sense := senseReset
  rx := rxReset
  tx := txReset
  counters := Vector.replicate 121 0

end State

end Sys2Proof.Machine
end

