-- ==== Sys2Proof/Machine/Ops.lean ====
section
/-! DEFINITION. The named operations every block uses: counters, the passing of time, the guard of the blocks'
start, random draws, the lookup of a served route and of a day's place. -/

namespace Sys2Proof.Machine

open Sys2Proof

/-! ### Counters (00_scope, Counters) -/

/-- A saturating addition: a counter stops at its maximum. -/
def saturate (v n : Nat) : Nat := min (v + n) Config.counterMax

/-- The counters with one of them `n` higher. -/
def Counters.add (cs : Counters) (c : Counter) (n : Nat) : Counters :=
  cs.set c.place (saturate (cs.get c.place) n) c.place.isLt

/-- The value of one counter. -/
def State.counter (s : State) (c : Counter) : Nat := s.counters.get c.place

/-- Count `n` cases. -/
def State.countMany (s : State) (c : Counter) (n : Nat) : State :=
  { s with counters := s.counters.add c n }

/-- Count one case. -/
def State.count (s : State) (c : Counter) : State := s.countMany c 1

/-! ### Time -/

/-- Whether the blocks have started (R171). -/
def State.started (s : State) : Bool := s.loader.state = .done

/-- `dt` milliseconds pass on the elapsed-time base; the clock's phase goes with it while time is valid (R64). -/
def State.advance (s : State) (dt : Nat) : State :=
  { s with
    elapsed := s.elapsed + dt
    clock := { s.clock with phase := if s.clock.timeValid then s.clock.phase + dt else s.clock.phase } }

/-- Time passes up to the instant `t`, or not at all if it has already been reached. -/
def State.advanceTo (s : State) (t : Nat) : State := s.advance (t - s.elapsed)

/-- An effect that needs the blocks to have started; before that no block takes an event (R167, R171;
assumption log 6). -/
def State.whenStarted (s : State) (f : State → State) : State :=
  if s.started then f s else s

/-- The instant `seconds` after now. -/
def State.after (s : State) (seconds : Nat) : Nat := s.elapsed + 1000 * seconds

/-- The service second on the timeline, "now" of the rules. -/
def State.now (s : State) : Int := s.clock.second

/-! ### Draws (R162) -/

/-- The LFSR after one draw. -/
def State.drawn (s : State) : BitVec 16 := lfsrSteps 16 s.tx.lfsr

/-- The number a draw from the `m` whole numbers that start at `lo` gives. -/
def State.drawValue (s : State) (lo : Int) (m : Nat) : Int := lo + (s.drawn.toNat % m : Nat)

/-- The state with the LFSR stepped by one draw. -/
def State.afterDraw (s : State) : State := { s with tx := { s.tx with lfsr := s.drawn } }

/-- A delay of an interval with its jitter of up to a quarter of it either way, in seconds (R54, R74). -/
def State.jittered (s : State) (interval : Nat) : Nat :=
  ((interval : Int) + s.drawValue (-((interval / 4 : Nat) : Int)) (2 * (interval / 4) + 1)).toNat

/-! ### Route slots and days -/

/-- The slots the loader enabled, in slot order. -/
def enabledSlots (c : Loaded) : List SlotIx := allSlots.filter fun i => (c.slots.get i).enabled

/-- The enabled slot that carries a route tag. -/
def servedSlot (c : Loaded) (tag : Nat) : Option SlotIx :=
  (enabledSlots c).find? fun i => (c.slots.get i).tag = tag

/-- The route group of a tag (00_scope, Route slots, tags and groups). -/
def routeGroup (tag : Nat) : Nat := tag % 32

/-- The day offset of a service day under the current day D: its signed distance from D. The table relates
only the offsets −1, 0 and +1 (1.2). -/
def dayOffset (current day : Day) : Int := (day - current).toInt

/-- Whether a day is D or D+1. -/
def heldDay (current day : Day) : Bool := day = current || day = current + 1#16

/-- The drive bands (R145). -/
def Band.drive : Band → Bool
  | .b1 | .b2 | .b3 | .b4 => true
  | .frozen | .hot | .unknown => false

/-- The number of a band; a band that is no drive band takes B1's, as R97 says of the park threshold. -/
def perBand (p : PerBand) : Band → Nat
  | .b2 => p.b2
  | .b3 => p.b3
  | .b4 => p.b4
  | .b1 | .frozen | .hot | .unknown => p.b1

/-- The sheet a slot holds for a day (R42). -/
def SlotSheets.forDay (h : SlotSheets) (day : Day) : Option Sheet :=
  h.sheets.find? fun sh => sh.day = day

/-- The version a slot holds for a day; 0 where it holds none (R42). -/
def SlotSheets.versionFor (h : SlotSheets) (day : Day) : Version :=
  ((h.forDay day).map (·.version)).getD 0#16

/-- The number of fragments a sheet is sent in (R42). -/
def fragmentCount (runs : List Run) : Nat :=
  if runs.length = 0 then 1 else (runs.length + 6) / 7

/-- Version `a` is newer than version `b` (R43). -/
def newerVersion (a b : Version) : Bool :=
  if a = 0#16 then false
  else if b = 0#16 then true
  else 1 ≤ (a - b).toNat && (a - b).toNat ≤ 32767

/-- Serial `a` is newer than serial `b` (R87). -/
def newerSerial (a b : Byte) : Bool := 1 ≤ (a - b).toNat && (a - b).toNat ≤ 127

end Sys2Proof.Machine
end

