-- ==== Sys2Proof/Machine/Operands.lean ====
section
/-! DEFINITION. The operand forms: the layouts of the header and of the eight frame bodies, read and written
(9.2, 11.1, 11.2, R149, R150, R165, R175), and the characters of the channel (R148). -/

namespace Sys2Proof.Machine

open Sys2Proof

/-! ### Headers -/

/-- The frame kinds, in the order of their codes 0..7 (11.1). -/
inductive Kind where
  | clock | offer | sheet | pass | sight | notice | query | reply
  deriving DecidableEq, Repr

/-- The code of a kind in a header. -/
def Kind.code : Kind → Nat
  | .clock => 0
  | .offer => 1
  | .sheet => 2
  | .pass => 3
  | .sight => 4
  | .notice => 5
  | .query => 6
  | .reply => 7

/-- The kind a header's low byte names: its bits 7..5. -/
def headerKind (h : Byte) : Kind :=
  match h.toNat / 32 with
  | 0 => .clock
  | 1 => .offer
  | 2 => .sheet
  | 3 => .pass
  | 4 => .sight
  | 5 => .notice
  | 6 => .query
  | _ => .reply

/-- The route group a header's low byte carries: its bits 4..0. -/
def headerGroup (h : Byte) : Nat := h.toNat % 32

/-- The header of a kind and a route group. -/
def header (k : Kind) (group : Nat) : Byte := BitVec.ofNat 8 (k.code * 32 + group % 32)

/-- Whether a body length is one of its kind's (R150). -/
def lengthFits (k : Kind) (n : Nat) : Bool :=
  match k with
  | .clock => n = 8
  | .offer => 5 ≤ n && (n - 5) % 6 = 0 && (n - 5) / 6 ≤ 6
  | .sheet => 9 ≤ n && (n - 9) % 5 = 0 && (n - 9) / 5 ≤ 7
  | .pass => n = 15
  | .sight => n = 8
  | .notice => 14 ≤ n && n ≤ 45
  | .query => n = 6
  | .reply => 4 ≤ n && n ≤ 44

/-! ### Characters (R148, R165) -/

/-- The eleven bits of a character on the line: start bit 0 first, eight data bits least significant
first, the mark, stop bit 1. Bit 0 of the value is the first on the line. -/
def lineCharacter (mark : Bool) (b : Byte) : BitVec 11 :=
  1#1 ++ BitVec.ofBool mark ++ b ++ 0#1

/-- The value held by at least two of the three samples of each bit. -/
def majority (a b c : BitVec 11) : BitVec 11 := (a &&& b) ||| (b &&& c) ||| (a &&& c)

/-- The eight low data bits of a character. -/
def characterByte (v : BitVec 11) : Byte := v.extractLsb' 1 8

/-- The mark of a character. -/
def characterMark (v : BitVec 11) : Bool := v.getLsbD 9

/-- Whether a character's stop bit is 1. -/
def stopBitGood (v : BitVec 11) : Bool := v.getLsbD 10

/-- The two check characters' bytes of a frame (R149). -/
def checkBytes (h : Byte) (body : List Byte) : List Byte :=
  bytesOf 2 (crc (h :: body)).toNat

/-- The characters of a frame on the line (R165): the marked header, then body and check unmarked. -/
def frameCharacters (f : SendFrame) : List (BitVec 11) :=
  lineCharacter true f.header :: (f.body ++ checkBytes f.header f.body).map (lineCharacter false)

/-! ### CLOCK -/

/-- The fields of a CLOCK body the clock uses. -/
structure ClockFields where
  stratum : Nat
  day : Day
  second : Nat
  deriving DecidableEq, Repr

/-- Read a CLOCK body; the stratum is the low 3 bits of its byte. -/
def readClock (b : List Byte) : ClockFields where
  stratum := field b 2 1 % 8
  day := BitVec.ofNat 16 (field b 3 2)
  second := field b 5 3

/-- Write a CLOCK body. -/
def clockBody (sender : StopId) (stratum : Nat) (day : Day) (second : Nat) : List Byte :=
  bytesOf 2 sender.toNat ++ bytesOf 1 stratum ++ bytesOf 2 day.toNat ++ bytesOf 3 second

/-! ### OFFER -/

/-- One listing of an OFFER (R55). -/
structure Listing where
  tag : Nat
  today : Version
  next : Version
  deriving DecidableEq, Repr

/-- The fields of an OFFER body the store uses. -/
structure OfferFields where
  day : Day
  listings : List Listing
  deriving DecidableEq, Repr

/-- The listing at offset `off`. -/
def readListing (b : List Byte) (off : Nat) : Listing where
  tag := field b off 2 % 4096
  today := BitVec.ofNat 16 (field b (off + 2) 2)
  next := BitVec.ofNat 16 (field b (off + 4) 2)

/-- Read an OFFER body: the first listings up to the lesser of its count byte and the number its length
gives (R175). -/
def readOffer (b : List Byte) : OfferFields where
  day := BitVec.ofNat 16 (field b 2 2)
  listings := (List.range (min (field b 4 1) ((b.length - 5) / 6))).map fun j => readListing b (5 + 6 * j)

/-- Write an OFFER body. -/
def offerBody (sender : StopId) (day : Day) (ls : List Listing) : List Byte :=
  bytesOf 2 sender.toNat ++ bytesOf 2 day.toNat ++ bytesOf 1 ls.length ++
    ls.flatMap fun l => bytesOf 2 l.tag ++ bytesOf 2 l.today.toNat ++ bytesOf 2 l.next.toNat

/-! ### SHEET -/

/-- The fields of a SHEET body the store uses. -/
structure SheetFields where
  tag : Nat
  day : Day
  version : Version
  index : Nat
  count : Nat
  runs : List Run
  deriving DecidableEq, Repr

/-- A terminal index of a body, 0 for absent. -/
def terminalOf (v : Nat) : Option Nat := if v = 0 then none else some v

/-- The run at offset `off`. -/
def readRun (b : List Byte) (off : Nat) : Run where
  number := field b off 2 / 64
  origin := field b (off + 2) 3
  terminal := terminalOf (field b off 2 % 64)

/-- Read a SHEET body; the number of runs follows from its length. -/
def readSheet (b : List Byte) : SheetFields where
  tag := field b 2 2 % 4096
  day := BitVec.ofNat 16 (field b 4 2)
  version := BitVec.ofNat 16 (field b 6 2)
  index := field b 8 1 / 16
  count := field b 8 1 % 16
  runs := (List.range ((b.length - 9) / 5)).map fun j => readRun b (9 + 5 * j)

/-- Write one run. -/
def runBytes (r : Run) : List Byte :=
  bytesOf 2 (r.number * 64 + r.terminal.getD 0) ++ bytesOf 3 r.origin

/-- Write a SHEET body (R60). -/
def sheetBody (sender : StopId) (tag : Nat) (day : Day) (version : Version) (index count : Nat)
    (runs : List Run) : List Byte :=
  bytesOf 2 sender.toNat ++ bytesOf 2 tag ++ bytesOf 2 day.toNat ++ bytesOf 2 version.toNat ++
    bytesOf 1 (index * 16 + count) ++ runs.flatMap runBytes

/-! ### PASS -/

/-- The fields of a PASS body: `delay` and `time` are signed, `time` from the start of the run's own day. -/
structure PassFields where
  sender : StopId
  tag : Nat
  run : Nat
  day : Day
  stop : Nat
  delay : Int
  time : Int
  hops : Nat
  deriving DecidableEq, Repr

/-- Read a PASS body, every field from its low bits (R175). -/
def readPass (b : List Byte) : PassFields where
  sender := BitVec.ofNat 16 (field b 0 2)
  tag := field b 2 2 % 4096
  run := field b 4 2 % 1024
  day := BitVec.ofNat 16 (field b 6 2)
  stop := field b 8 1 % 64
  delay := signedOf 16 (field b 9 2)
  time := signedOf 24 (field b 11 3)
  hops := field b 14 1 % 16

/-- Write a PASS body. -/
def passBody (p : PassFields) : List Byte :=
  bytesOf 2 p.sender.toNat ++ bytesOf 2 p.tag ++ bytesOf 2 p.run ++ bytesOf 2 p.day.toNat ++
    bytesOf 1 p.stop ++ bytesOfInt 2 p.delay ++ bytesOfInt 3 p.time ++ bytesOf 1 p.hops

/-- A PASS frame to send; its header carries the route group of the tag (R13). -/
def passFrame (p : PassFields) : SendFrame := ⟨header .pass (routeGroup p.tag), passBody p⟩

/-! ### SIGHT -/

/-- The fields of a SIGHT body the table uses. -/
structure SightFields where
  tag : Nat
  run : Nat
  stop : Nat
  phase : Nat
  deriving DecidableEq, Repr

/-- Read a SIGHT body. -/
def readSight (b : List Byte) : SightFields where
  tag := field b 2 2 % 4096
  run := field b 4 2 % 1024
  stop := field b 6 1 % 64
  phase := field b 7 1

/-! ### NOTICE -/

/-- The fields of a NOTICE body as they stand, before the checks of R86. -/
structure NoticeFields where
  origin : StopId
  serial : Byte
  scope : Nat
  scopeId : Nat
  priority : Nat
  expiryDay : Day
  expirySecond : Nat
  hops : Nat
  text : Cells
  deriving DecidableEq, Repr

/-- Read a NOTICE body: the text is the first codes up to the lesser of the text-length byte and the codes
present (R175). -/
def readNotice (b : List Byte) : NoticeFields where
  origin := BitVec.ofNat 16 (field b 0 2)
  serial := BitVec.ofNat 8 (field b 2 1)
  scope := field b 3 1
  scopeId := field b 4 2
  priority := field b 6 1
  expiryDay := BitVec.ofNat 16 (field b 7 2)
  expirySecond := field b 9 3
  hops := field b 12 1
  text := (b.drop 14).take (field b 13 1)

/-- The scope byte of a notice. -/
def Scope.code : Scope → Nat
  | .all _ => 0
  | .route _ => 1
  | .stop _ => 2

/-- The two scope bytes of a relayed NOTICE; the free value where the scope is ALL. -/
def Scope.relayedId : Scope → Nat
  | .all received => (Config.allScopeRelayed received).toNat
  | .route tag => tag
  | .stop id => id.toNat

/-- The route group a NOTICE's header carries (5.8). -/
def Scope.group : Scope → Nat
  | .route tag => routeGroup tag
  | .all _ => 0
  | .stop _ => 0

/-- Write a NOTICE body. -/
def noticeBody (n : Notice) (hops : Nat) : List Byte :=
  bytesOf 2 n.origin.toNat ++ bytesOf 1 n.serial.toNat ++ bytesOf 1 n.scope.code ++
    bytesOf 2 n.scope.relayedId ++ bytesOf 1 (if n.urgent then 1 else 0) ++ bytesOf 2 n.expiryDay.toNat ++
    bytesOf 3 n.expirySecond ++ bytesOf 1 hops ++ bytesOf 1 n.text.length ++ n.text

/-- A NOTICE frame to send (R89). -/
def noticeFrame (n : Notice) (hops : Nat) : SendFrame :=
  ⟨header .notice n.scope.group, noticeBody n hops⟩

/-! ### QUERY and REPLY -/

/-- The fields of a QUERY body. -/
structure QueryFields where
  tool : BitVec 16
  target : StopId
  code : Nat
  page : Nat
  deriving DecidableEq, Repr

/-- Read a QUERY body. -/
def readQuery (b : List Byte) : QueryFields where
  tool := BitVec.ofNat 16 (field b 0 2)
  target := BitVec.ofNat 16 (field b 2 2)
  code := field b 4 1
  page := field b 5 1

/-- A REPLY frame (R173): header route group 0. -/
def replyFrame (q : QueryFields) (payload : List Byte) : SendFrame :=
  ⟨header .reply 0, bytesOf 2 q.tool.toNat ++ bytesOf 1 q.code ++ bytesOf 1 q.page ++ payload⟩

end Sys2Proof.Machine
end

