-- ==== Sys2Proof/Machine/Flags.lean ====
section
/-! DEFINITION. The conditions the blocks compute from the state and never store: radio power wanted, a held
head, a dirty line, a required mode, an eligible line, the PARK job wanted, the sweep time. -/

namespace Sys2Proof.Machine

open Sys2Proof

/-! ### Channel port -/

/-- Whether the receiver is blanked: from the raise of CTXE to its lowering (R157). -/
def State.blanked (s : State) : Bool := s.tx.state = .sending

/-- Whether the receive side takes characters and idle (R148). -/
def State.hearing (s : State) : Bool := s.rx.radio && !s.blanked

/-- Whether the sniff timer has run out and its expiry has not been taken yet. -/
def State.sniffDue (s : State) : Bool :=
  match s.rx.sniffTimer with
  | none => false
  | some t => t ≤ s.elapsed

/-- Whether radio power is to be on (R158). It is not taken off in the moment between a sniff timer's
running out and the opening of its window. -/
def State.radioWanted (s : State) : Bool :=
  s.started &&
    match s.rx.mode with
    | .listen | .doze => true
    | .sniff => s.rx.window != .closed || s.tx.state != .idle || s.sniffDue

/-- The served route groups (R156). -/
def servedGroup (c : Loaded) (group : Nat) : Bool :=
  (enabledSlots c).any fun i => routeGroup (c.slots.get i).tag = group

/-- Whether a header passes the wake filter (R156). -/
def wakes (c : Loaded) (h : Byte) : Bool :=
  match headerKind h with
  | .clock | .query => true
  | .sheet | .pass | .sight => servedGroup c (headerGroup h)
  | .notice => headerGroup h = 0 || servedGroup c (headerGroup h)
  | .offer | .reply => false

/-- Whether the head of the receive queue is held (R154). -/
def State.headHeld (s : State) : Bool :=
  match s.rx.queue with
  | [] => false
  | f :: _ => (headerKind f.header = .pass || headerKind f.header = .sight) && s.table.rebuild.isSome

/-! ### Lines (R100 to R102) -/

/-- Whether a line whose record is `r` is dirty against a target (R100). -/
def dirtyAgainst (target : Cells) (r : LineRecord) : Bool :=
  match r.glass with
  | none => true
  | some cells => cells != target || r.condition != .settled

/-- Whether a line is dirty. -/
def State.dirty (s : State) (n : Fin 10) : Bool := dirtyAgainst (s.board.targets.get n) (s.engine.lines.get n)

/-- Whether a job contains a line. -/
def Job.contains (j : Job) (n : Nat) : Bool := j.first ≤ n && n ≤ j.last

/-- Whether a line belongs to the active job. -/
def State.inActive (s : State) (n : Nat) : Bool :=
  match s.engine.active with
  | none => false
  | some a => a.job.contains n

/-- The mode a line requires (R101). -/
def State.requiredMode (s : State) (n : Fin 10) : Mode :=
  let r := s.engine.lines.get n
  if r.condition != .settled || r.ghost = s.loader.loaded.ghostLimit ||
      (s.planner.sweep.get n && s.planner.energy = .ample) then .clearing
  else .partialMode

/-- The lines an energy state allows (R102). -/
def allowedLine : Energy → Nat → Bool
  | .ample, _ => true
  | .lean, _ => true
  | .scarce, n => 1 ≤ n && n ≤ 3
  | .dormant, _ => false

/-- Whether a line is eligible for a NORMAL job (R102). -/
def State.eligible (s : State) (n : Fin 10) : Bool := !s.inActive n && allowedLine s.planner.energy n

/-! ### Jobs -/

/-- The phases of a mode (R126). -/
def Mode.phases : Mode → Nat
  | .partialMode => 4
  | .clearing => 10

/-- The cost left of a job of `n` phases after `i` of them, rounded up (R96). -/
def remainingOf (cost n i : Nat) : Nat := (cost * (n - i) + (n - 1)) / n

/-- The remaining cost of a job (R96). -/
def Job.remaining (j : Job) : Nat := remainingOf j.cost j.mode.phases j.phaseIndex

/-- The remaining cost of the active job, 0 for an empty active slot (R106). -/
def State.activeRemaining (s : State) : Nat :=
  match s.engine.active with
  | none => 0
  | some a => a.job.remaining

/-- Whether the halt request names a job (R130). -/
def State.halted (s : State) (j : Job) : Bool := s.planner.halt = some j.number

/-- Whether the PARK job is wanted (R111). -/
def State.parkWanted (s : State) : Bool :=
  s.planner.energy = .dormant && !s.planner.boardParked &&
    (match s.planner.staged with
      | none => true
      | some j => j.kind != .park) &&
    (match s.engine.active with
      | none => true
      | some a => a.job.kind != .park)

/-- Whether a minute boundary is the sweep time (R109). -/
def sweepTime (c : Loaded) (second : Nat) : Bool :=
  (c.dayStart * 60 + second) % Config.daySeconds = c.sweepMinute * 60 && second % 60 = 0

end Sys2Proof.Machine
end

