-- ==== Sys2Proof/Machine/Jobs.lean ====
section
/-! DEFINITION. Jobs, from the planner's staging to the drive engine's completion, as shared operations: the
energy account, planning, the PARK job, promotion, the panel port, suspension, resumption, completion and
abandonment (chapters 6 and 7). Planner and engine report to each other, so they stand in one file. -/

namespace Sys2Proof.Machine

open Sys2Proof

/-! ### Line records -/

/-- The lines of a job changed by a function of line number and record; the others as they are (R118). -/
def mapJobLines (j : Job) (f : Nat → LineRecord → LineRecord) (ls : Vector LineRecord 10) : Vector LineRecord 10 :=
  mapPlaces (fun n r => if j.contains n then f n r else r) ls

/-- A line record at a completion with its latched content (R129). -/
def LineRecord.completed (mode : Mode) (content target : Cells) (at_ : Nat) (r : LineRecord) : LineRecord where
  glass := some content
  ghost := match mode with
    | .partialMode => r.ghost + 1
    | .clearing => 0
  condition := .settled
  dirtySince := if target = content then none else some at_

/-- A line record at an abandonment (R133). -/
def LineRecord.abandoned (at_ : Nat) (r : LineRecord) : LineRecord :=
  { r with condition := .unsettled, dirtySince := some (r.dirtySince.getD at_) }

/-- A line record when the line's target changes from `old` to `new` (R100). A dirty line without a time, as
every line is at the start-up report, takes the moment of the report. -/
def LineRecord.judged (old new : Cells) (at_ : Nat) (r : LineRecord) : LineRecord :=
  { r with dirtySince :=
      if dirtyAgainst new r then some (if dirtyAgainst old r then r.dirtySince.getD at_ else at_) else none }

/-! ### Halt request and job content -/

/-- The halt request cleared if it names a job (R129, R133). -/
def clearHalt (halt : Option (BitVec 8)) (j : Job) : Option (BitVec 8) :=
  if halt = some j.number then none else halt

/-- The content of the PARK job: the standby text on line 1, blanks on lines 2..9 (R113). -/
def parkContent (c : Loaded) : List Cells := fit 32 c.standby :: List.replicate 8 (Config.blanks 32)

/-- The content a job latches at its promotion (R122). -/
def State.contentFor (s : State) (j : Job) : List Cells :=
  match j.kind with
  | .park => parkContent s.loader.loaded
  | .normal => (allLines.filter fun n : Fin 10 => j.contains n.val).map fun n => s.board.targets.get n

/-- The latched content of one line of the active job. -/
def ActiveJob.contentOf (a : ActiveJob) (n : Nat) : Cells := a.content.getD (n - a.job.first) (Config.blanks 32)

/-! ### Withdrawal and staging -/

/-- The staged NORMAL job withdrawn (R108). -/
def State.withdrawStaged (s : State) : State :=
  match s.planner.staged with
  | none => s
  | some j =>
    match j.kind with
    | .park => s
    | .normal => State.count { s with planner := { s.planner with staged := none } } .stagedWithdrawn

/-- The per-line cost of a mode in a band (R96). -/
def lineCost (c : Loaded) (m : Mode) (b : Band) : Nat :=
  match m with
  | .partialMode => perBand c.partialCost b
  | .clearing => perBand c.clearingCost b

/-- The cost of a NORMAL job over the lines `first..last` in the current band (R96). -/
def State.bandCost (s : State) (m : Mode) (first last : Nat) : Nat :=
  (last + 1 - first) * lineCost s.loader.loaded m s.sense.band

/-- The cost of the PARK job in the current band (R96). -/
def State.parkCost (s : State) : Nat := 9 * perBand s.loader.loaded.clearingCost s.sense.band

/-- A job placed in the staged slot with the next job number (R107, R112). -/
def State.stage (s : State) (kind : JobKind) (first last : Nat) (mode : Mode) (cost : Nat) : State :=
  State.count
    { s with planner := { s.planner with
        staged := some ⟨s.planner.nextJob, kind, first, last, mode, cost, 0⟩
        nextJob := s.planner.nextJob + 1#8 } }
    (match kind with
      | .normal => .jobStaged
      | .park => .parkStaged)

/-! ### Seed and band (R104, R105) -/

/-- The order in which lines are looked at: 1..8, then 9, then 0. -/
def lineOrder : List (Fin 10) := [1, 2, 3, 4, 5, 6, 7, 8, 9, 0]

/-- The line among some whose dirty-since instant is earliest, the first of equals, with that instant. -/
def eldest (s : State) : List (Fin 10) → Option (Fin 10 × Nat)
  | [] => none
  | n :: rest =>
    match (s.engine.lines.get n).dirtySince, eldest s rest with
    | none, best => best
    | some t, none => some (n, t)
    | some t, some (m, u) => if t ≤ u then some (n, t) else some (m, u)

/-- The first test: the eligible dirty line dirty longest, if for 120 s or more. -/
def State.starvedLine (s : State) : Option (Fin 10) :=
  match eldest s (lineOrder.filter fun n => s.eligible n && s.dirty n) with
  | none => none
  | some (n, t) => if t + Config.starvedMs ≤ s.elapsed then some n else none

/-- The seed of a band (R104). -/
def State.seed (s : State) : Option (Fin 10) :=
  s.starvedLine <|> lineOrder.find? (fun n => s.eligible n && s.dirty n) <|>
    if s.planner.energy = .ample then lineOrder.find? (fun n => s.eligible n && s.planner.sweep.get n) else none

/-- Whether a line fits a band of a mode (R105). -/
def State.fits (s : State) (m : Mode) (n : Nat) : Bool :=
  if h : n < 10 then
    let line : Fin 10 := ⟨n, h⟩
    s.eligible line && s.requiredMode line = m &&
      (s.dirty line || (m = .clearing && s.planner.energy = .ample && s.planner.sweep.get line))
  else false

/-- The growth of a band by at most `fuel` lines: the line after it, else the line before it (R105). -/
def State.grow (s : State) (m : Mode) : Nat → Nat × Nat → Nat × Nat
  | 0, b => b
  | fuel + 1, (first, last) =>
    if s.fits m (last + 1) then s.grow m fuel (first, last + 1)
    else if 0 < first && s.fits m (first - 1) then s.grow m fuel (first - 1, last)
    else (first, last)

/-- The admission test of R106: Eav − A − R ≥ cost. -/
def State.affords (s : State) (cost : Nat) : Bool :=
  cost + s.activeRemaining + s.loader.loaded.reserve ≤ s.planner.available

/-- The planning hold set (R106). -/
def State.holdStaging (s : State) : State :=
  State.count { s with planner := { s.planner with hold := true } } .stagingHeld

/-- A NORMAL job chosen and staged (R104 to R107): the band, else its seed alone, else the planning hold. -/
def State.stageNormal (s : State) : State :=
  match s.seed with
  | none => s
  | some n =>
    let m := s.requiredMode n
    let b := s.grow m 3 (n.val, n.val)
    let cost := s.bandCost m b.1 b.2
    if s.affords cost then s.stage .normal b.1 b.2 m cost
    else if b.1 < b.2 ∧ s.affords (s.bandCost m n n) then
      (s.stage .normal n n m (s.bandCost m n n)).count .bandNarrowed
    else s.holdStaging

/-! ### The engine's reports inside the planner's work -/

/-- The active job abandoned (R133): its lines UNSETTLED, the slot empty, a halt request naming it cleared. -/
def State.dropActive (s : State) (a : ActiveJob) : State :=
  State.count
    { s with
      engine := { s.engine with
        lines := mapJobLines a.job (fun _ r => r.abandoned s.elapsed) s.engine.lines
        active := none
        suspendedAt := none }
      planner := { s.planner with halt := clearHalt s.planner.halt a.job } }
    .abandonments

/-- The active job stopped at its phase index (R130). -/
def State.suspendActive (s : State) (a : ActiveJob) : State :=
  State.count
    { s with engine := { s.engine with
        active := some { a with state := .suspended, loaded := false }
        suspendedAt := some s.elapsed } }
    .suspensions

/-- A RUNNING job that waits for a read, with no phase outstanding, stops at once where store-low is active
or a halt request names it (R130). So does a job promoted or resumed during the read whose load step has not been
made yet, which R130 does not name: no load is in progress at whose end it could stop (DEDUCED, assumption log
36). -/
def State.stopWaiting (s : State) : State :=
  match s.engine.active with
  | none => s
  | some a =>
    if a.state = .running ∧ s.engine.port = .reading ∧ (s.sense.storeLow ∨ s.halted a.job) then s.suspendActive a
    else s

/-- The halt request for the RUNNING NORMAL job, made once per job (R111). -/
def State.askHalt (s : State) : State :=
  match s.engine.active with
  | none => s
  | some a =>
    if a.state = .running ∧ a.job.kind = .normal ∧ a.haltAsked = false then
      State.stopWaiting (State.count
        { s with
          planner := { s.planner with halt := some a.job.number }
          engine := { s.engine with active := some { a with haltAsked := true } } }
        .haltRequested)
    else s

/-- Whether the PARK job can be staged now (R112), the active slot apart. -/
def State.parkPossible (s : State) : Bool :=
  s.sense.band.drive && !s.engine.faulted && !s.sense.storeLow && s.parkCost ≤ s.planner.available

/-- A SUSPENDED NORMAL job abandoned to make room for the PARK job (R112). -/
def State.clearForPark (s : State) : State :=
  match s.engine.active with
  | none => s
  | some a => s.dropActive a

/-- Whether the active slot is empty or holds a SUSPENDED NORMAL job (R112). -/
def State.slotFreeForPark (s : State) : Bool :=
  match s.engine.active with
  | none => true
  | some a => a.state = .suspended && a.job.kind = .normal

/-- The PARK job staged where its conditions hold (R112). -/
def State.stagePark (s : State) : State :=
  if s.slotFreeForPark && s.parkPossible && s.planner.staged.isNone then
    (s.clearForPark).stage .park 1 9 .clearing s.parkCost
  else s

/-- Planning in DORMANT (R111, R112). -/
def State.planPark (s : State) : State :=
  if s.parkWanted then s.askHalt.stagePark else s

/-- An occasion of planning (R103). -/
def State.plan (s : State) : State :=
  if s.planner.energy = .dormant then s.planPark
  else if s.planner.staged.isSome || s.planner.hold || !s.sense.band.drive || s.engine.faulted then s
  else s.stageNormal

/-! ### Promotion (R119, R120, R122) -/

/-- The check of R119 on the lines of a PARTIAL job. -/
def State.linesReady (s : State) (j : Job) : Bool :=
  j.mode = .clearing || allLines.all fun n =>
    !j.contains n ||
      ((s.engine.lines.get n).ghost < s.loader.loaded.ghostLimit && (s.engine.lines.get n).condition = .settled)

/-- The energy test of promotion and resumption (R120, R132). -/
def State.energyCovers (s : State) (j : Job) : Bool :=
  match j.kind with
  | .normal => j.remaining + s.loader.loaded.reserve ≤ s.planner.available
  | .park => j.remaining ≤ s.planner.available

/-- Whether the staged job is promoted (R120). -/
def State.promotable (s : State) (j : Job) : Bool :=
  s.engine.active.isNone && !s.sense.storeLow && s.sense.band.drive && !s.engine.freshHold && !s.engine.faulted &&
    s.energyCovers j && s.linesReady j

/-- The active job a staged job becomes: phase index 0, band and content latched, RUNNING (R122). -/
def State.latched (s : State) (j : Job) : ActiveJob where
  job := { j with phaseIndex := 0 }
  band := s.sense.band
  content := s.contentFor j
  state := .running
  loaded := false
  haltAsked := false

/-- The promotion of a staged job (R120, R122). -/
def State.promote (s : State) (j : Job) : State :=
  State.count
    { s with
      engine := { s.engine with active := some (s.latched j) }
      planner := { s.planner with staged := none } }
    .jobPromoted

/-- An occasion of promotion (R120), with the planning that a promotion calls for (R103). -/
def State.promoteJobs (s : State) : State :=
  match s.planner.staged with
  | none => s
  | some j => if s.promotable j then (s.promote j).plan else s

/-- An occasion of planning with the promotion that a staged job calls for (R103, R120). -/
def State.planJobs (s : State) : State := s.plan.promoteJobs

/-! ### The panel port (R123, R125, R126) -/

/-- The commands of a load step (R125). -/
def ActiveJob.loadCommands (a : ActiveJob) : List PanelCommand :=
  .window a.job.first a.job.last ::
    (allLines.filter fun n : Fin 10 => a.job.contains n.val).map fun n => .lineLoad n.val (a.contentOf n.val)

/-- The duration of a phase of the active job: its latched band's (R126). -/
def ActiveJob.duration (c : Loaded) (a : ActiveJob) : Nat := perBand c.phaseDuration a.band

/-- The port looks at what is waiting each time it is IDLE: a read, the load step, the next phase (R123). -/
def State.servePort (s : State) : State :=
  if s.engine.port = .idle then
    if s.engine.readRequest then
      { s with engine := { s.engine with
          port := .reading
          readRequest := false
          readDeadline := some (s.elapsed + Config.readMs)
          commands := [.temperatureRead] } }
    else
      match s.engine.active with
      | none => s
      | some a =>
        if a.state = .running then
          if a.loaded then
            if a.job.phaseIndex < a.job.mode.phases then
              let d := a.duration s.loader.loaded
              { s with engine := { s.engine with
                  port := .phase
                  phaseDeadline := some (s.elapsed + 3 * d / 2)
                  commands := [.phase (a.job.phaseIndex + 1) a.job.mode d] } }
            else s
          else { s with engine := { s.engine with port := .loading, commands := a.loadCommands } }
        else s
  else s

/-- The port back in IDLE with no command outstanding. -/
def Engine.release (e : Engine) : Engine :=
  { e with port := .idle, phaseDeadline := none, readDeadline := none, commands := [] }

/-- The port returned to IDLE. -/
def State.releasePort (s : State) : State := { s with engine := s.engine.release }

/-- A temperature read requested; a request that meets a pending read or one in progress is merged (R136). -/
def State.requestRead (s : State) : State :=
  if s.engine.port = .reading then s else { s with engine := { s.engine with readRequest := true } }

/-! ### Suspension, completion, abandonment, resumption -/

/-- An abandonment reported to the planner, and the promotion its empty slot calls for (R116, R133). -/
def State.abandonActive (s : State) (a : ActiveJob) : State := (s.dropActive a).planJobs

/-- A suspension reported to the planner (R116, R130). -/
def State.suspendReported (s : State) (a : ActiveJob) : State := (s.suspendActive a).planJobs

/-- The sweep flags after a completion (R110). -/
def sweepAfter (j : Job) (sweep : Vector Bool 10) : Vector Bool 10 :=
  match j.mode with
  | .clearing => mapPlaces (fun n f => if j.contains n then false else f) sweep
  | .partialMode => sweep

/-- Board-parked after a completion (R114). -/
def parkedAfter (j : Job) (parked : Bool) : Bool :=
  match j.kind with
  | .park => true
  | .normal => if 1 ≤ j.last then false else parked

/-- The counter of a completed job (R137). -/
def completionCounter (j : Job) : Counter :=
  match j.kind, j.mode with
  | .park, _ => .parkJobs
  | .normal, .clearing => .clearingJobs
  | .normal, .partialMode => .partialJobs

/-- The records and the meter at a completion (R129, R137); a halt request that names the job goes with it
(R131). -/
def State.recordCompletion (s : State) (a : ActiveJob) : State :=
  let done := { s with
    engine := { s.engine with
      lines := mapJobLines a.job (fun n r => r.completed a.job.mode (a.contentOf n) (s.board.targets.toList.getD n [])
        s.elapsed) s.engine.lines
      active := none
      suspendedAt := none
      faults := 0 }
    planner := { s.planner with halt := clearHalt s.planner.halt a.job } }
  (done.countMany .energySpent a.job.cost).count (completionCounter a.job)

/-- The planner's flags at a completion report (R114, R116). -/
def State.reportCompletion (s : State) (j : Job) : State :=
  { s with planner := { s.planner with
      sweep := sweepAfter j s.planner.sweep
      boardParked := parkedAfter j s.planner.boardParked } }

/-- A state whose lines of a job are clean and unflagged: planning finds nothing in them. -/
def State.hideLines (s : State) (j : Job) : State :=
  { s with
    engine := { s.engine with
      lines := mapJobLines j (fun n _ => ⟨some (s.board.targets.toList.getD n []), 0, .settled, none⟩) s.engine.lines }
    planner := { s.planner with
      sweep := mapPlaces (fun n f => if j.contains n then false else f) s.planner.sweep } }

/-- Planning before a job's completion has been reported: its lines are not eligible yet (R116). In DORMANT
planning looks at no line. -/
def State.planWithout (s : State) (j : Job) : State :=
  if s.planner.energy = .dormant then s.plan
  else
    let p := (s.hideLines j).plan
    { s with planner := { p.planner with sweep := s.planner.sweep }, counters := p.counters }

/-- A completion, its report and the promotion its empty slot calls for (R116, R129). The report comes first, or
the promotion with the planning that follows it, as R116 leaves open. -/
def State.completeActive (s : State) (a : ActiveJob) (promotionFirst : Bool) : State :=
  let done := s.recordCompletion a
  match done.planner.staged with
  | none => (done.reportCompletion a.job).planJobs
  | some j =>
    if promotionFirst && done.promotable j then
      (((done.promote j).planWithout a.job).reportCompletion a.job).plan
    else (done.reportCompletion a.job).planJobs

/-- Whether a SUSPENDED job resumes at a scan completion (R132). -/
def State.resumable (s : State) (a : ActiveJob) : Bool :=
  a.state = .suspended && !s.sense.storeLow && s.sense.band.drive && !s.engine.freshHold && !s.halted a.job &&
    s.energyCovers a.job && s.linesReady a.job && (a.job.kind = .park || s.planner.energy != .dormant)

/-- The resumption of a SUSPENDED job (R132), reported to the planner as a promotion would be. -/
def State.tryResume (s : State) : State :=
  match s.engine.active with
  | none => s
  | some a =>
    if s.resumable a then
      State.planJobs (State.count
        { s with engine := { s.engine with
            active := some { a with state := .running, loaded := false }
            suspendedAt := none } }
        .resumptions)
    else s

/-! ### The energy account (R95 to R98) -/

/-- Available energy at a store voltage (R95). -/
def availableEnergy (c : Loaded) (v : Nat) : Nat :=
  if c.floorVoltage < v then 100 * c.capacitance * (v * v - c.floorVoltage * c.floorVoltage) / 2000000 else 0

/-- The park threshold Tp in a band (R97). -/
def parkThresholdOf (c : Loaded) (b : Band) : Nat := c.reserve + 9 * perBand c.clearingCost b

/-- The effective LEAN threshold Tl* for a park threshold (R97). -/
def leanThresholdOf (c : Loaded) (tp : Nat) : Nat := max c.lean (tp + 1)

/-- AMPLE or LEAN by a limit. -/
def richState (eav limit : Nat) : Energy := if limit ≤ eav then .ample else .lean

/-- The energy state after an evaluation (R98). -/
def nextEnergy (c : Loaded) (before : Energy) (eav tp tl : Nat) : Energy :=
  if eav ≤ tp then .dormant
  else
    match before with
    | .dormant | .scarce =>
      if tl + Config.entryMargin ≤ eav then richState eav (c.ample + Config.entryMargin) else before
    | .ample => if eav < tl then .scarce else richState eav c.ample
    | .lean => if eav < tl then .scarce else richState eav (c.ample + Config.entryMargin)

/-- The counter of the energy state entered (R117). -/
def enteredCounter : Energy → Counter
  | .ample => .ampleEntered
  | .lean => .leanEntered
  | .scarce => .scarceEntered
  | .dormant => .dormantEntered

/-- The planner's account at a scan completion (R95, R97, R98); a hold ends (R106). -/
def State.account (s : State) (v : Nat) : State :=
  let c := s.loader.loaded
  let eav := availableEnergy c v
  let tp := parkThresholdOf c s.sense.band
  let tl := leanThresholdOf c tp
  { s with planner := { s.planner with
      voltage := some v
      available := eav
      parkThreshold := tp
      leanThreshold := tl
      energy := nextEnergy c s.planner.energy eav tp tl
      hold := false } }

/-- The sweep time in the planner: the flags of ghosted lines set (R109). -/
def State.setSweep (s : State) : State :=
  State.count
    { s with planner := { s.planner with
        sweep := mapPlaces (fun n f => f || 0 < (s.engine.lines.toList.getD n State.lineReset).ghost) s.planner.sweep } }
    .sweepMade

/-- The engine leaves FAULTED at the sweep time, its consecutive fault count at 2 (R135). -/
def State.leaveFaulted (s : State) : State :=
  if s.engine.faulted then { s with engine := { s.engine with faulted := false, faults := 2 } } else s

/-- The engine leaves FAULTED with its test for promotion (R120, R135). -/
def State.leaveAndPromote (s : State) : State := if s.engine.faulted then s.leaveFaulted.promoteJobs else s

/-- The planner's work at the sweep time: flags, withdrawal, planning (R108, R109). -/
def State.planSweep (s : State) : State := s.setSweep.withdrawStaged.planJobs

/-- The sweep time (R108, R109, R135). R108 and R135 leave the order of the engine's and the planner's work open: it
is the command's operand (DESIGN CHOICE, assumption log 10). -/
def State.sweepNow (s : State) (order : SweepOrder) : State :=
  match order with
  | .planner => s.planSweep.leaveAndPromote
  | .engine => s.leaveFaulted.planSweep
  | .promotion => s.leaveAndPromote.planSweep

end Sys2Proof.Machine
end

