-- ==== Sys2Proof/Machine/Prediction.lean ====
section
/-! DEFINITION. The prediction arithmetic (chapter 2): staleness, projection, state test, overdue removal, the
countdown figure, and the texts of the time field. -/

namespace Sys2Proof.Machine

open Sys2Proof

/-- The clamp of a delay to −1,800..5,400 (R10, R13, R14). -/
def clampDelay (d : Int) : Int := max (-1800) (min 5400 d)

/-- Whether an observation is older than the trust window W (R28). -/
def staleObservation (c : Loaded) (now : Int) (o : Observation) : Bool := now - o.time > c.trust

/-- Whether the staleness check of R28 drops an entry's observation: an AT_STOP entry's is not checked. -/
def Entry.stale (c : Loaded) (now : Int) (e : Entry) : Bool :=
  e.state != .atStop &&
    match e.observation with
    | none => false
    | some o => staleObservation c now o

/-- The entry after the staleness check: a stale observation goes, and the shown minutes with it (R28, R36). -/
def Entry.dropStale (c : Loaded) (now : Int) (e : Entry) : Entry :=
  if e.stale c now then { e with observation := none, shown := none } else e

/-- The hop distance of an observation (R30). -/
def hopDistance (stopIndex : Nat) (o : Observation) : Nat :=
  match o.kind with
  | .sight => 0
  | .pass => stopIndex - o.stop

/-- The projected delay p (R30). -/
def projectedDelay (c : Loaded) (stopIndex : Nat) : Option Observation → Int
  | none => 0
  | some o =>
    if 0 ≤ o.delay then max 0 (o.delay - c.recovery * hopDistance stopIndex o)
    else max o.delay (-c.early)

/-- The projection step: P = S + p (R31). -/
def Entry.project (c : Loaded) (e : Entry) : Entry :=
  { e with predicted := e.scheduled + projectedDelay c (c.slots.get e.slot).stopIndex e.observation }

/-- The state test (R32), skipped for an AT_STOP entry. -/
def Entry.testState (now : Int) (e : Entry) : Entry :=
  match e.state with
  | .atStop => e
  | .expected | .overdue => { e with state := if now < e.predicted then .expected else .overdue }

/-- Whether the overdue removal test removes the entry (R33). -/
def Entry.overdueGone (c : Loaded) (now : Int) (e : Entry) : Bool :=
  e.state = .overdue && now ≥ e.predicted + c.grace

/-- The plain figure of a remaining time (R34). -/
def plainFigure (r : Int) : Nat := if r < -30 then 0 else ((r + 30) / 60).toNat

/-- Whether a remaining time lies in the hysteresis band of a figure (R35). -/
def inBand (c : Loaded) (m : Nat) (r : Int) : Bool :=
  60 * (m : Int) - 30 - c.hysteresis ≤ r && r < 60 * (m : Int) + 30 + c.hysteresis

/-- The countdown figure of a remaining time after the figure held before (R34, R35). -/
def nextFigure (c : Loaded) (held : Option Nat) (r : Int) : Nat :=
  match held with
  | none => plainFigure r
  | some m => if inBand c m r then m else plainFigure r

/-- Whether an entry qualifies for a countdown (R34). -/
def Entry.qualifies (e : Entry) : Bool := e.state = .expected && e.observation.isSome

/-- The countdown update (R34 to R36). -/
def Entry.countdown (c : Loaded) (now : Int) (e : Entry) : Entry :=
  { e with shown := if e.qualifies then some (nextFigure c e.shown (e.predicted - now)) else none }

/-- The first three steps of an evaluation: staleness, projection, state test (R27). -/
def Entry.judged (c : Loaded) (now : Int) (e : Entry) : Entry :=
  ((e.dropStale c now).project c).testState now

/-- What an evaluation leaves of an entry (R27): nothing where R33 removes it. -/
def Entry.evaluate (c : Loaded) (now : Int) (e : Entry) : Option Entry :=
  if (e.judged c now).overdueGone c now then none else some ((e.judged c now).countdown c now)

/-! ### Clock times and the time field (2.7) -/

/-- The local second of a timeline value, the remainder taken in 0..86,399 (R39). -/
def localSecond (c : Loaded) (y : Int) : Nat := ((((c.dayStart * 60 : Nat) : Int) + y) % 86400).toNat

/-- The code of a decimal digit (R38). -/
def digit (n : Nat) : Byte := BitVec.ofNat 8 (48 + n % 10)

/-- Two digits with a leading zero. -/
def twoDigits (n : Nat) : Cells := [digit (n / 10), digit n]

/-- The clock time of a timeline value, HH:MM, floored to the minute (R38, R39). -/
def clockText (c : Loaded) (y : Int) : Cells :=
  twoDigits (localSecond c y / 3600) ++ [58#8] ++ twoDigits (localSecond c y % 3600 / 60)

/-- The text "now". -/
def nowText : Cells := [110#8, 111#8, 119#8]
/-- The text "due". -/
def dueText : Cells := [100#8, 117#8, 101#8]
/-- The blank and "min" of a countdown field. -/
def minText : Cells := [32#8, 109#8, 105#8, 110#8]

/-- The text of an entry's time field (R37). -/
def timeText (c : Loaded) (e : Entry) : Cells :=
  match e.state with
  | .atStop => nowText
  | .overdue => dueText
  | .expected =>
    match e.shown with
    | none => clockText c e.scheduled
    | some m =>
      if m = 0 then dueText
      else if m < 10 then digit m :: minText
      else if m < 60 then twoDigits m ++ minText
      else clockText c e.predicted

/-- The eight cells of the time field (R37). -/
def timeField (c : Loaded) (e : Entry) : Cells := rightAlign 8 (timeText c e)

end Sys2Proof.Machine
end

