-- ==== Sys2Proof/Machine/Board.lean ====
section
/-! DEFINITION. The board composer as shared operations: the targets of the ten lines, composition and its
reports, the notice store and its rotation (chapter 5). -/

namespace Sys2Proof.Machine

open Sys2Proof

/-! ### Targets (R79 to R84) -/

/-- Line 0: the stop name, and the station clock in AMPLE while time is valid (R79, R80). -/
def headerLine (c : Loaded) (clock : Clock) (energy : Energy) : Cells :=
  fit 27 (fit 24 c.stopName) ++
    (if clock.timeValid && energy = .ample then clockText c clock.second else Config.blanks 5)

/-- The destination cells of an entry's row (R82). -/
def destinationText (conf : SlotConfig) (terminal : Option Nat) : Cells :=
  match terminal with
  | none => conf.destination
  | some i => if i < conf.terminal then conf.shortTurn else conf.destination

/-- The row of an entry (R81). -/
def entryRow (c : Loaded) (e : Entry) : Cells :=
  let conf := c.slots.get e.slot
  fit 5 (fit 4 conf.label) ++ fit 19 (fit 18 (destinationText conf e.terminal)) ++ timeField c e

/-- The target of departure row `row`, 1..8 (R79, R81, R83). -/
def rowTarget (c : Loaded) (timeValid : Bool) (entries : List Entry) (row : Nat) : Cells :=
  if timeValid then
    match entries[row - 1]? with
    | some e => entryRow c e
    | none => if entries = [] ∧ row = 1 then fit 32 c.standby else Config.blanks 32
  else if row = 1 then fit 32 c.standby else Config.blanks 32

/-- The target of line 9 (R79, R84). -/
def noticeLine (timeValid : Bool) (b : Board) : Cells :=
  if timeValid then
    match b.current.bind fun i => b.notices[i]? with
    | some n => fit 32 (n.text.take 30)
    | none => Config.blanks 32
  else Config.blanks 32

/-- The ten targets worked out afresh (R76). -/
def State.composedTargets (s : State) : Vector Cells 10 :=
  let c := s.loader.loaded
  let row := rowTarget c s.clock.timeValid s.table.entries
  ⟨#[headerLine c s.clock s.planner.energy, row 1, row 2, row 3, row 4, row 5, row 6, row 7, row 8,
    noticeLine s.clock.timeValid s.board], rfl⟩

/-! ### Compositions (R76 to R78, R100, R108) -/

/-- The line records after target changes on the lines a predicate picks (R100). -/
def judgeLines (old new : Vector Cells 10) (at_ : Nat) (p : Nat → Bool) (ls : Vector LineRecord 10) :
    Vector LineRecord 10 :=
  mapPlaces (fun n r => if p n then r.judged (old.toList.getD n []) (new.toList.getD n []) at_ else r) ls

/-- New targets taken over, the picked lines reported: counters, dirty-since times and withdrawal (R78, R94,
R100, R108). Planning is the caller's. -/
def State.reportTargets (s : State) (new : Vector Cells 10) (p : Nat → Bool) : State :=
  let reported := allLines.countP fun n => p n.val
  State.withdrawStaged
    ((State.count
      { s with
        board := { s.board with targets := new }
        engine := { s.engine with lines := judgeLines s.board.targets new s.elapsed p s.engine.lines } }
      .boardRecomposed).countMany .targetChange reported)

/-- Whether a line's composed target differs from the one held (R78). -/
def State.targetDiffers (s : State) (n : Nat) : Bool :=
  s.composedTargets.toList.getD n [] != s.board.targets.toList.getD n []

/-- Whether a composition would report a line. -/
def State.boardDiffers (s : State) : Bool := allLines.any fun n => s.targetDiffers n.val

/-- A composition with its reports, up to the planning they call for. -/
def State.composeTargets (s : State) : State :=
  if s.boardDiffers then s.reportTargets s.composedTargets s.targetDiffers else s

/-- A composition (R77, R78): the targets afresh, the changed lines reported, the staged job withdrawn, and
planning. One that changes no target reports nothing. -/
def State.compose (s : State) : State :=
  if s.boardDiffers then s.composeTargets.planJobs else s

/-- The composition at the blocks' start, which reports all ten lines (R76). -/
def State.composeFirst (s : State) : State :=
  (s.reportTargets s.composedTargets fun _ => true).planJobs

/-! ### The notice store (R85 to R91) -/

/-- Whether the store holds an URGENT notice. -/
def anyUrgent (ns : List Notice) : Bool := ns.any (·.urgent)

/-- Whether a stored notice is eligible (R91). -/
def eligibleNotice (ns : List Notice) (n : Notice) : Bool := n.urgent || !anyUrgent ns

/-- The first eligible place in store order from `start` on, wrapping past the last place (R91). -/
def nextEligible (ns : List Notice) (start : Nat) : Option Nat :=
  match placeWhere (eligibleNotice ns) (ns.drop start) with
  | some i => some (start + i)
  | none => placeWhere (eligibleNotice ns) ns

/-- The rotation settled after a change of the store (R91). `kept` is the place of the current notice if it is
still stored; `place` is where the search begins if it has left. -/
def settledCurrent (ns : List Notice) (had : Bool) (kept : Option Nat) (place : Nat) : Option Nat :=
  match had, kept with
  | false, _ => nextEligible ns 0
  | true, some i =>
    match ns[i]? with
    | some n => if eligibleNotice ns n then some i else nextEligible ns (i + 1)
    | none => nextEligible ns place
  | true, none => nextEligible ns place

/-- A changed store taken over with its settled current notice; the shown-since instant moves when a
different notice becomes current (R91). `same` says that the notice at the settled place is the one that
was current. Where none becomes current R91 says nothing of the instant: the old one stays (DESIGN CHOICE, assumption
log 40). -/
def State.setNotices (s : State) (ns : List Notice) (current : Option Nat) (same : Bool) : State :=
  { s with board := { s.board with
      notices := ns
      current := current
      shownSince := if same || current.isNone then s.board.shownSince else s.elapsed } }

/-- The store without the notices a predicate picks, the rotation settled (R90, R91). -/
def State.removeNotices (s : State) (p : Notice → Bool) : State :=
  let ns := s.board.notices
  let left := ns.filter fun n => !p n
  match s.board.current with
  | none => s.setNotices left (settledCurrent left false none 0) false
  | some i =>
    let place := ((ns.take i).filter fun n => !p n).length
    let kept := match ns[i]? with
      | some n => if p n then none else some place
      | none => none
    let next := settledCurrent left true kept place
    s.setNotices left next (kept.isSome && next = kept)

/-- A notice stored at the end of the order, the rotation settled (R87, R91). -/
def State.appendNotice (s : State) (n : Notice) : State :=
  let ns := s.board.notices ++ [n]
  let next := settledCurrent ns s.board.current.isSome s.board.current 0
  s.setNotices ns next (s.board.current.isSome && next = s.board.current)

/-- A notice put in the place of the one of its origin, whose standing it takes (R87, R91). -/
def State.replaceNotice (s : State) (i : Nat) (n : Notice) : State :=
  let ns := s.board.notices.set i n
  let next := settledCurrent ns s.board.current.isSome s.board.current 0
  s.setNotices ns next (s.board.current.isSome && next = s.board.current)

/-- A notice's expiry on the timeline (R86). -/
def Notice.expiry (n : Notice) (day : Day) : Int := 86400 * dayOffset day n.expiryDay + n.expirySecond

/-- Whether a notice has expired: its day is neither D nor D+1, or its expiry is at or before now (R90). -/
def Notice.expired (n : Notice) (day : Day) (now : Int) : Bool :=
  !heldDay day n.expiryDay || n.expiry day ≤ now

/-- The expiries of R90 at a board tick or a re-evaluation. -/
def State.expireNotices (s : State) : State :=
  let gone := s.board.notices.countP fun n => n.expired s.clock.day s.now
  if gone = 0 then s
  else State.countMany (s.removeNotices fun n => n.expired s.clock.day s.now) .noticeExpired gone

/-- The rotation's advance at a board tick (R92). -/
def State.rotateNotices (s : State) : State :=
  match s.board.current with
  | none => s
  | some i =>
    if s.board.shownSince + 60000 * s.loader.loaded.rotation ≤ s.elapsed then
      { s with board := { s.board with current := nextEligible s.board.notices (i + 1), shownSince := s.elapsed } }
    else s

/-- The first of some notices with the earliest expiry. -/
def earliestExpiry (day : Day) : List (Nat × Notice) → Option (Nat × Notice)
  | [] => none
  | x :: rest =>
    match earliestExpiry day rest with
    | none => some x
    | some y => if x.2.expiry day ≤ y.2.expiry day then some x else some y

/-- The place of the NORMAL notice an URGENT one evicts (R88). -/
def evictionPlace (day : Day) (ns : List Notice) : Option Nat :=
  (earliestExpiry day ((ns.zipIdx.map fun p => (p.2, p.1)).filter fun p => !p.2.urgent)).map (·.1)

end Sys2Proof.Machine
end

