-- ==== Sys2Proof/Machine/Send.lean ====
section
/-! DEFINITION. The send side of the channel port as shared operations: sources, arbitration, the start and the
end of a frame (9.6 to 9.8), and the receive side's reaction to blanking and to radio power (R151, R157, R158). -/

namespace Sys2Proof.Machine

open Sys2Proof

/-! ### The receive side at blanking and loss of radio power -/

/-- The receive state returns to HUNT; a buffer in ASSEMBLE is discarded and counted as truncated (R151). -/
def State.enterHunt (s : State) : State :=
  let counted := if s.rx.state = .assemble then s.count .truncated else s
  { counted with rx := { s.rx with state := .hunt, buffer := [] } }

/-- A window past its 2 s closes once its frame has left ASSEMBLE (R158). -/
def State.closeHeld (s : State) : State :=
  if s.rx.window = .held ∧ s.rx.state ≠ .assemble then { s with rx := { s.rx with window := .closed } } else s

/-- Radio power follows what the mode, the window and the send side ask for (R158). -/
def State.followRadio (s : State) : State :=
  let r := if s.rx.radio && !s.radioWanted then s.enterHunt else s
  { r with rx := { r.rx with radio := s.radioWanted } }

/-- The window and radio power brought into line with the receive and send states; every command of the
channel port ends with it. -/
def State.settleRadio (s : State) : State := s.closeHeld.followRadio

/-! ### Sheet fragments (R60) -/

/-- Whether a record is SENDING. -/
def Publication.isSending (p : Publication) : Bool := p.state = .sending

/-- The fragment a record offers, built from the sheet the slot holds for its day. -/
def fragmentFrame (s : State) (p : Publication) : Option SendFrame :=
  ((s.sheets.slots.get p.slot).forDay p.day).map fun sh =>
    let tag := (s.loader.loaded.slots.get p.slot).tag
    ⟨header .sheet (routeGroup tag),
      sheetBody s.loader.loaded.stopId tag p.day p.version p.cursor (fragmentCount sh.runs)
        ((sh.runs.drop (7 * p.cursor)).take 7)⟩

/-! ### Arbitration (R161) -/

/-- What a grant takes: the source, the frame and the send side's holding places afterwards. -/
structure Pick where
  source : Source
  frame : SendFrame
  tx : Sender

/-- The relay queue's head, as a rotation grant (R160, R161). -/
def State.pickRelay (s : State) : Option Pick :=
  match s.tx.relay with
  | [] => none
  | f :: rest => some ⟨.relay, f, { s.tx with relay := rest, pointer := .publication }⟩

/-- The publication list's fragment, as a rotation grant; served in AMPLE and LEAN (R159, R60). -/
def State.pickPublication (s : State) : Option Pick :=
  if s.planner.energy = .ample ∨ s.planner.energy = .lean then
    (s.sheets.publications.find? (·.isSending)).bind fun p =>
      (fragmentFrame s p).map fun f =>
        ⟨.publication p.slot p.day p.version p.made, f, { s.tx with pointer := .relay }⟩
  else none

/-- The rotation's choice: the source the pointer names, else the other (R161). -/
def State.pickRotation (s : State) : Option Pick :=
  match s.tx.pointer with
  | .relay => s.pickRelay <|> s.pickPublication
  | .publication => s.pickPublication <|> s.pickRelay

/-- The beacon slot's choice, its CLOCK frame first; not served in DORMANT (R159, R161). -/
def State.pickBeacon (s : State) : Option Pick :=
  if s.planner.energy = .dormant then none
  else if s.tx.clockWaiting then some ⟨.clock, ⟨header .clock 0, []⟩, s.tx⟩
  else s.tx.offerWaiting.map fun f => ⟨.offer, f, s.tx⟩

/-- The first served source that has a frame (R161). -/
def State.pick (s : State) : Option Pick :=
  (s.tx.reply.map fun f => ⟨.reply, f, s.tx⟩) <|> s.pickBeacon <|> s.pickRotation

/-- Arbitration: in IDLE, a grant enters ACCESS with its grant instant recorded (R161). -/
def State.arbitrate (s : State) : State :=
  if s.tx.state = .idle then
    match s.pick with
    | none => s
    | some p =>
      { s with tx := { p.tx with
          state := .access
          granted := some ⟨p.source, p.frame, s.elapsed⟩
          stage := .carrierWait
          backoff := none } }
  else s

/-! ### Placing frames -/

/-- Place a frame on the relay queue; a full queue loses its oldest frame (R160). -/
def State.placeRelay (s : State) (f : SendFrame) : State :=
  let full := Config.relayCapacity ≤ s.tx.relay.length
  let counted := if full then s.count .relayDropped else s
  State.arbitrate
    { counted with tx := { s.tx with relay := (if full then s.tx.relay.drop 1 else s.tx.relay) ++ [f] } }

/-- The granted frame after an OFFER has taken the place of the waiting one: a grant in ACCESS carries over
and keeps its grant instant (R159). -/
def carryGrant (tx : Sender) (f : SendFrame) : Option Granted :=
  match tx.granted with
  | none => none
  | some g => if g.source = .offer ∧ tx.state = .access then some { g with frame := f } else some g

/-- Place an OFFER in the beacon slot (R55, R159). -/
def State.placeOffer (s : State) (f : SendFrame) : State :=
  let counted := if s.tx.offerWaiting.isSome then s.count .beaconReplaced else s
  State.arbitrate
    { counted with tx := { s.tx with offerWaiting := some f, granted := carryGrant s.tx f } }

/-- Place a CLOCK frame in the beacon slot; it takes its values at its start (R74, R75, R159). -/
def State.placeClock (s : State) : State :=
  let counted := if s.tx.clockWaiting then s.count .beaconReplaced else s
  State.arbitrate { counted with tx := { s.tx with clockWaiting := true } }

/-- Place a REPLY in the reply slot (R173). -/
def State.placeReply (s : State) (f : SendFrame) : State :=
  State.arbitrate { s with tx := { s.tx with reply := some f } }

/-! ### The start and the end of a frame -/

/-- The send side back in IDLE with no frame granted; CTXE is low and CTXD at rest. -/
def Sender.release (tx : Sender) : Sender :=
  { tx with state := .idle, granted := none, stage := .carrierWait, backoff := none, line := [] }

/-- A CLOCK frame whose stratum has aged to 7 is withdrawn unsent at its start (R75). -/
def State.withdrawClock (s : State) : State :=
  State.arbitrate (State.count { s with tx := { s.tx.release with clockWaiting := false } } .clockWithdrawn)

/-- The granted frame with the fields it takes at its start: a CLOCK frame takes the clock's stratum, day
and second (R75, R165). -/
def State.finalFrame (s : State) (g : Granted) : SendFrame :=
  if g.source = .clock then
    ⟨g.frame.header, clockBody s.loader.loaded.stopId s.clock.stratum s.clock.day s.clock.second⟩
  else g.frame

/-- The frame goes on the air: CTXE is raised, the receiver blanked, a beacon frame leaves its slot (R165). -/
def State.putOnAir (s : State) (g : Granted) : State :=
  let f := s.finalFrame g
  let blanked := s.enterHunt
  { blanked with tx := { s.tx with
      state := .sending
      granted := some { g with frame := f }
      clockWaiting := s.tx.clockWaiting && g.source != .clock
      offerWaiting := if g.source = .offer then none else s.tx.offerWaiting
      line := frameCharacters f } }

/-- The start of the granted frame once its countdown is at 0 (R163, R165): it waits while store-low is
active, and a CLOCK frame of stratum 7 is withdrawn instead. -/
def State.startFrame (s : State) : State :=
  match s.tx.granted with
  | none => s
  | some g =>
    if s.sense.storeLow then { s with tx := { s.tx with stage := .storeLowWait } }
    else if g.source = .clock ∧ s.clock.stratum = 7 then s.withdrawClock
    else s.putOnAir g

/-- Whether a listed record is the one an outcome came from and still holds the fragment's version (R61). A record
made later for the same slot and day is another one. -/
def Publication.isOf (p : Publication) (slot : SlotIx) (day : Day) (version : Version) (made : Nat) : Bool :=
  p.slot = slot && p.day = day && p.version = version && p.made = made

/-- The record after a fragment of it was sent: the cursor one further (R61). -/
def Publication.advanceCursor (p : Publication) : Publication := { p with cursor := p.cursor + 1 }

/-- Whether a record's cursor has reached the fragment count of its sheet (R61). -/
def State.publicationDone (s : State) (p : Publication) : Bool :=
  match (s.sheets.slots.get p.slot).forDay p.day with
  | none => false
  | some sh => fragmentCount sh.runs ≤ p.cursor

/-- The publication list told that a fragment was sent (R61). -/
def State.fragmentSent (s : State) (slot : SlotIx) (day : Day) (version : Version) (made : Nat) : State :=
  let moved := s.sheets.publications.map fun p => if p.isOf slot day version made then p.advanceCursor else p
  let done := moved.filter fun p => p.isOf slot day version made && s.publicationDone p
  let kept := moved.filter fun p => !(p.isOf slot day version made && s.publicationDone p)
  State.countMany
    (State.count { s with sheets := { s.sheets with publications := kept } } .fragmentPublished)
    .publicationCompleted done.length

/-- The publication list told that a fragment was abandoned (R61). -/
def State.fragmentAbandoned (s : State) (slot : SlotIx) (day : Day) (version : Version) (made : Nat) : State :=
  if s.sheets.publications.any fun p => p.isOf slot day version made then s.count .fragmentReoffered else s

/-- The source told that its frame was sent (R165). -/
def State.tellSent (s : State) : Source → State
  | .reply => State.count { s with tx := { s.tx with reply := none } } .replySent
  | .clock => s
  | .offer => s
  | .relay => s
  | .publication slot day version made => s.fragmentSent slot day version made

/-- The source told that its frame was abandoned (R164). -/
def State.tellAbandoned (s : State) : Source → State
  | .reply => State.count { s with tx := { s.tx with reply := none } } .replyAbandoned
  | .clock => { s with tx := { s.tx with clockWaiting := false } }
  | .offer => { s with tx := { s.tx with offerWaiting := none } }
  | .relay => s.count .relayAbandoned
  | .publication slot day version made => s.fragmentAbandoned slot day version made

/-- The end of a frame on the air (R165). -/
def State.endFrame (s : State) (g : Granted) : State :=
  let told := (s.count .frameSent).tellSent g.source
  State.arbitrate { told with tx := told.tx.release }

/-- The abandonment of a granted frame (R164). -/
def State.abandonFrame (s : State) (g : Granted) : State :=
  let told := (s.count .frameAbandoned).tellAbandoned g.source
  State.arbitrate { told with tx := told.tx.release }

end Sys2Proof.Machine
end

