-- ==== Sys2Proof/Machine/Sense.lean ====
section
/-! DEFINITION. The sense unit as shared operations: conversions and their median, temperature bands and read
results; and what a change of the energy state sets in motion (chapter 8, R99, R155). -/

namespace Sys2Proof.Machine

open Sys2Proof

/-! ### Store voltage (R139, R140) -/

/-- The voltage of a conversion (R139). -/
def voltageOf (c : Loaded) (counts : BitVec 12) : Nat := counts.toNat * c.fullScale / 4096

/-- The history with a new voltage, the oldest removed beyond three (R140). -/
def pushVoltage (history : List Nat) (v : Nat) : List Nat :=
  let h := history ++ [v]
  if 3 < h.length then h.drop 1 else h

/-- The median voltage of a history: the middle of three, the lower of two, the one (R140). -/
def medianOf : List Nat → Nat
  | [] => 0
  | [a] => a
  | [a, b] => min a b
  | a :: b :: c :: _ => max (min a b) (min (max a b) c)

/-! ### The store-low comparator (R141) -/

/-- Store-low after the comparator has seen its node at a voltage: active below Vwarn, inactive above Vwarn + 50, as
it stands in between (R141). -/
def comparator (warning node : Nat) (low : Bool) : Bool :=
  if node < warning then true else if warning + 50 < node then false else low

/-- What the comparator gives for its node at a voltage now. -/
def State.compares (s : State) (node : Nat) : Bool := comparator s.loader.loaded.warning node s.sense.storeLow

/-! ### Temperature bands (R145) -/

/-- The plain range of a band, both ends included; UNKNOWN has none. -/
def Band.range : Band → Option (Int × Int)
  | .frozen => some (-128, -16)
  | .b1 => some (-15, -6)
  | .b2 => some (-5, 4)
  | .b3 => some (5, 24)
  | .b4 => some (25, 50)
  | .hot => some (51, 127)
  | .unknown => none

/-- The band whose plain range holds a value. -/
def bandOf (v : Int) : Band :=
  if v ≤ -16 then .frozen
  else if v ≤ -6 then .b1
  else if v ≤ 4 then .b2
  else if v ≤ 24 then .b3
  else if v ≤ 50 then .b4
  else .hot

/-- The band after a successful read: kept within its range widened by 1 °C at both ends (R145). -/
def judgeBand (current : Band) (v : Int) : Band :=
  match current.range with
  | none => bandOf v
  | some (lo, hi) => if lo - 1 ≤ v ∧ v ≤ hi + 1 then current else bandOf v

/-- The sense unit after a successful read (R144). -/
def Sense.readSuccess (u : Sense) (v : Int) : Sense :=
  { u with temperature := some v, failures := 0, band := judgeBand u.band v }

/-- The sense unit after a failed read (R144). -/
def Sense.readFailure (u : Sense) : Sense :=
  { u with
    failures := min 3 (u.failures + 1)
    band := if 3 ≤ u.failures + 1 then .unknown else u.band }

/-- A new sense unit taken over; a changed band is counted, withdraws the staged job and makes the planner
plan (R108, R146). -/
def State.takeBand (s : State) (u : Sense) : State :=
  let taken := { s with sense := u }
  if u.band = s.sense.band then taken else ((taken.count .bandChanged).withdrawStaged).planJobs

/-- A successful read as one transaction: the sense unit, the planner, then the engine's fresh-band hold and
its test for promotion (R146). -/
def State.readSucceeded (s : State) (v : Int) : State :=
  let taken := (s.count .temperatureRead).takeBand (s.sense.readSuccess v)
  State.promoteJobs { taken with engine := { taken.engine with freshHold := false } }

/-- A failed read (R144, R146). -/
def State.readFailed (s : State) : State :=
  (s.count .temperatureReadFailed).takeBand s.sense.readFailure

/-! ### Receive modes (R155, R158) -/

/-- The receive side in the mode an energy state sets (R155). A window closes where the mode leaves SNIFF; at
the entry into SNIFF the sniff timer runs out at once. -/
def State.setMode (s : State) (e : Energy) : State :=
  let rx := { s.rx with quietTimer := none, sniffTimer := none, window := Window.closed }
  { s with rx :=
      match e with
      | .ample => { rx with mode := .listen }
      | .lean => { rx with mode := .listen, quietTimer := some (s.after s.loader.loaded.quietInterval) }
      | .scarce => { rx with mode := .doze }
      | .dormant => { rx with mode := .sniff, sniffTimer := some s.elapsed } }

/-! ### A change of the energy state (R99, R115, R121, R143, R155) -/

/-- The fresh-band hold and the halt request at a change out of DORMANT, the hold cleared at one into it
(R115, R121, R138); and the temperature read a change out of DORMANT asks for (R143). -/
def State.dormantEdge (s : State) (before : Energy) : State :=
  if before = .dormant then
    State.requestRead
      { s with
        engine := { s.engine with freshHold := true }
        planner := { s.planner with halt := none } }
  else if s.planner.energy = .dormant then { s with engine := { s.engine with freshHold := false } }
  else s

/-- The reports of a change of the energy state, the planner's own planning left to the caller (R99). -/
def State.energyChanged (s : State) (before : Energy) : State :=
  ((((s.count (enteredCounter s.planner.energy)).withdrawStaged).dormantEdge before).composeTargets).setMode
    s.planner.energy

/-- A scan's new energy state handed on (R99, R155): the reports of a change; at the first scan the receive
mode is set even without one. -/
def State.handOnEnergy (s : State) (before : Energy) (firstScan : Bool) : State :=
  if s.planner.energy ≠ before then s.energyChanged before
  else if firstScan then s.setMode s.planner.energy
  else s

/-- The planner's and then the engine's work at a scan completion (R98, R99, R103, R132, R140). -/
def State.scanJobs (s : State) : State := s.planJobs.tryResume.promoteJobs

end Sys2Proof.Machine
end

