-- ==== Sys2Proof/Machine/Loader.lean ====
section
/-! DEFINITION. The configuration loader as shared operations: the image's fields with their ranges, the check,
the clamps, the route slots, and the start of all blocks (chapter 10, 11.4). -/

namespace Sys2Proof.Machine

open Sys2Proof

/-! ### Ranged fields (R169, 11.4) -/

/-- A field of the image that has a range. -/
structure RangedField where
  offset : Nat
  bytes : Nat
  low : Nat
  high : Nat
  deriving DecidableEq, Repr

/-- A value moved into its range. -/
def clampTo (low high v : Nat) : Nat := max low (min high v)

/-- A field's value as it stands in the image. -/
def RangedField.raw (f : RangedField) (image : List Byte) : Nat := field image f.offset f.bytes

/-- A field's value after the clamp. -/
def RangedField.value (f : RangedField) (image : List Byte) : Nat := clampTo f.low f.high (f.raw image)

/-- Whether the clamp changes a field. -/
def RangedField.clamped (f : RangedField) (image : List Byte) : Bool := f.value image != f.raw image

/-- Four fields of one range that stand one after another, one for each drive band. -/
def bandFields (offset low high : Nat) : List RangedField :=
  [⟨offset, 2, low, high⟩, ⟨offset + 2, 2, low, high⟩, ⟨offset + 4, 2, low, high⟩, ⟨offset + 6, 2, low, high⟩]

/-- The values of four such fields. -/
def bandValues (offset low high : Nat) (image : List Byte) : PerBand where
  b1 := RangedField.value ⟨offset, 2, low, high⟩ image
  b2 := RangedField.value ⟨offset + 2, 2, low, high⟩ image
  b3 := RangedField.value ⟨offset + 4, 2, low, high⟩ image
  b4 := RangedField.value ⟨offset + 6, 2, low, high⟩ image

def fDayStart : RangedField := ⟨0x002, 2, 0, 1439⟩
def fHorizon : RangedField := ⟨0x150, 2, 900, 14400⟩
def fSightLoss : RangedField := ⟨0x152, 2, 20, 300⟩
def fTtl : RangedField := ⟨0x154, 1, 0, 15⟩
def fRecovery : RangedField := ⟨0x155, 1, 0, 30⟩
def fEarly : RangedField := ⟨0x156, 2, 0, 300⟩
def fTrust : RangedField := ⟨0x158, 2, 120, 3600⟩
def fGrace : RangedField := ⟨0x15A, 2, 30, 600⟩
def fHysteresis : RangedField := ⟨0x15C, 1, 0, 45⟩
def fRotation : RangedField := ⟨0x15D, 1, 1, 15⟩
def fAssemblyTimeout : RangedField := ⟨0x15E, 2, 30, 600⟩
def fOfferInterval : RangedField := ⟨0x160, 2, 60, 3600⟩
def fClockInterval : RangedField := ⟨0x162, 2, 60, 3600⟩
def fCapacitance : RangedField := ⟨0x164, 1, 1, 255⟩
def fGhostLimit : RangedField := ⟨0x165, 1, 1, 15⟩
def fFloorVoltage : RangedField := ⟨0x166, 2, 2000, 5000⟩
def fReserve : RangedField := ⟨0x168, 4, 0, 400000⟩
def fAmple : RangedField := ⟨0x16C, 4, 0, 400000⟩
def fLean : RangedField := ⟨0x170, 4, 0, 400000⟩
def fSweepMinute : RangedField := ⟨0x184, 2, 0, 1439⟩
def fSuspendLimit : RangedField := ⟨0x186, 2, 60, 1800⟩
def fScanPeriod : RangedField := ⟨0x190, 1, 2, 60⟩
def fTemperaturePeriod : RangedField := ⟨0x191, 2, 30, 600⟩
def fFullScale : RangedField := ⟨0x193, 2, 3000, 6600⟩
def fWarning : RangedField := ⟨0x195, 2, 2100, 6000⟩
def fQuietInterval : RangedField := ⟨0x197, 1, 5, 120⟩
def fSniffPeriod : RangedField := ⟨0x198, 1, 4, 60⟩

/-- Where slot `k` begins in the image, `k` from 0. -/
def slotBase (k : Nat) : Nat := 0x03C + 46 * k

def fStopIndex (k : Nat) : RangedField := ⟨slotBase k + 2, 1, 0, 62⟩
def fTerminal (k : Nat) : RangedField := ⟨slotBase k + 3, 1, 1, 63⟩
def fOffset (k : Nat) : RangedField := ⟨slotBase k + 4, 2, 0, 14400⟩

/-- Every field of the image that has a range and is clamped into it. -/
def rangedFields : List RangedField :=
  [fDayStart, fHorizon, fSightLoss, fTtl, fRecovery, fEarly, fTrust, fGrace, fHysteresis, fRotation,
    fAssemblyTimeout, fOfferInterval, fClockInterval, fCapacitance, fGhostLimit, fFloorVoltage, fReserve,
    fAmple, fLean, fSweepMinute, fSuspendLimit, fScanPeriod, fTemperaturePeriod, fFullScale, fWarning,
    fQuietInterval, fSniffPeriod] ++
  bandFields 0x174 1 4000 ++ bandFields 0x17C 1 4000 ++ bandFields 0x188 20 2000 ++
  [0, 1, 2, 3, 4, 5].flatMap fun k => [fStopIndex k, fTerminal k, fOffset k]

/-! ### The image (R168 to R170) -/

/-- Whether the check of an image passes (R168): the CRC over bytes 0..509 against bytes 510 and 511. -/
def imageAccepted (image : List Byte) : Bool := (crc (image.take 510)).toNat = field image 510 2

/-- A slot's fields as loaded, not settled yet. -/
def rawSlot (image : List Byte) (k : Nat) : SlotConfig where
  enabled := false
  tag := field image (slotBase k) 2 % 4096
  stopIndex := (fStopIndex k).value image
  terminal := (fTerminal k).value image
  offset := (fOffset k).value image
  label := slice image (slotBase k + 6) 4
  destination := slice image (slotBase k + 10) 18
  shortTurn := slice image (slotBase k + 28) 18

/-- Whether a slot is disabled, given the slots settled before it (R170). -/
def slotRefused (earlier : List SlotConfig) (x : SlotConfig) : Bool :=
  (earlier.any fun y => y.enabled && y.tag = x.tag) || x.terminal < x.stopIndex

/-- A slot settled after the earlier ones (R170). -/
def settleSlot (earlier : List SlotConfig) (x : SlotConfig) : SlotConfig :=
  { x with enabled := x.tag != 0 && !slotRefused earlier x }

/-- The slots settled in slot order (R170). -/
def settleSlots (xs : List SlotConfig) : List SlotConfig :=
  xs.foldl (fun done x => done ++ [settleSlot done x]) []

/-- The settled slots of an image, in slot order. -/
def slotList (image : List Byte) : List SlotConfig := settleSlots ([0, 1, 2, 3, 4, 5].map (rawSlot image))

/-- The settled slot of an image. -/
def slotAt (image : List Byte) (k : Nat) : SlotConfig := (slotList image).getD k Config.slotDefault

/-- The number of slots disabled for a duplicate tag or for s above the terminal (R170). -/
def disabledSlots (image : List Byte) : Nat := (slotList image).countP fun x => x.tag != 0 && !x.enabled

/-- The AMPLE threshold after the pair is settled (R169). -/
def settledAmple (image : List Byte) : Nat := max (fAmple.value image) (fLean.value image)

/-- The warning voltage after the pair is settled (R169). -/
def settledWarning (image : List Byte) : Nat :=
  if fWarning.value image ≤ fFloorVoltage.value image then fFloorVoltage.value image + 100 else fWarning.value image

/-- The number of configuration clamps an accepted image makes (R169). -/
def clampCount (image : List Byte) : Nat :=
  rangedFields.countP (·.clamped image) +
    (if settledAmple image != fAmple.value image then 1 else 0) +
    (if settledWarning image != fWarning.value image then 1 else 0)

/-- The loaded values of an accepted image (R169, R170, 11.4). -/
def loadImage (image : List Byte) : Loaded where
  stopId := BitVec.ofNat 16 (field image 0x000 2)
  dayStart := fDayStart.value image
  stopName := slice image 0x004 24
  standby := slice image 0x01C 32
  slots := ⟨#[slotAt image 0, slotAt image 1, slotAt image 2, slotAt image 3, slotAt image 4, slotAt image 5], rfl⟩
  horizon := fHorizon.value image
  sightLoss := fSightLoss.value image
  ttl := fTtl.value image
  recovery := fRecovery.value image
  early := fEarly.value image
  trust := fTrust.value image
  grace := fGrace.value image
  hysteresis := fHysteresis.value image
  rotation := fRotation.value image
  assemblyTimeout := fAssemblyTimeout.value image
  offerInterval := fOfferInterval.value image
  clockInterval := fClockInterval.value image
  capacitance := fCapacitance.value image
  ghostLimit := fGhostLimit.value image
  floorVoltage := fFloorVoltage.value image
  reserve := fReserve.value image
  ample := settledAmple image
  lean := fLean.value image
  partialCost := bandValues 0x174 1 4000 image
  clearingCost := bandValues 0x17C 1 4000 image
  sweepMinute := fSweepMinute.value image
  suspendLimit := fSuspendLimit.value image
  phaseDuration := bandValues 0x188 20 2000 image
  scanPeriod := fScanPeriod.value image
  temperaturePeriod := fTemperaturePeriod.value image
  fullScale := fFullScale.value image
  warning := settledWarning image
  quietInterval := fQuietInterval.value image
  sniffPeriod := fSniffPeriod.value image

/-! ### The values handed over and the start of the blocks (R171) -/

/-- The loader done with its values and their source. -/
def State.loadValues (s : State) (source : ConfigSource) (c : Loaded) : State :=
  { s with loader := { s.loader with state := .done, source := source, loaded := c } }

/-- The memory absent: every field at its default (R167, R168). -/
def State.loadAbsent (s : State) : State := (s.loadValues .absent Config.defaults).count .configurationAbsent

/-- The image checked: accepted, clamped and settled, or rejected whole in favour of defaults (R168 to R170). -/
def State.loadChecked (s : State) (image : List Byte) : State :=
  if imageAccepted image then
    ((s.loadValues .image (loadImage image)).countMany .configurationClamp (clampCount image)).countMany
      .slotDisabled (disabledSlots image)
  else (s.loadValues .rejected Config.defaults).count .configurationRejected

/-- The store-low comparator armed with the loaded Vwarn: from inactive it looks at its node (R141). -/
def State.armStoreLow (s : State) (node : Nat) : State :=
  if comparator s.loader.loaded.warning node false then
    State.count { s with sense := { s.sense with storeLow := true } } .storeLowActivation
  else s

/-- The sense unit's start: a first conversion, both timers, the start-up read (R139, R143). -/
def State.startSense (s : State) : State :=
  State.requestRead
    { s with sense := { s.sense with
        converting := true
        scanTimer := some (s.after s.loader.loaded.scanPeriod)
        temperatureTimer := some (s.after s.loader.loaded.temperaturePeriod) } }

/-- The planner's thresholds over the loaded values (chapter 6, first table). -/
def State.startPlanner (s : State) : State :=
  let tp := parkThresholdOf s.loader.loaded .unknown
  { s with planner := { s.planner with parkThreshold := tp, leanThreshold := leanThresholdOf s.loader.loaded tp } }

/-- The channel port's start: LISTEN, HUNT, radio power on, the LFSR seeded (R155, R158, R162, R171). -/
def State.startPort (s : State) : State :=
  { s with
    rx := { s.rx with state := .hunt, mode := .listen, radio := true }
    tx := { s.tx with lfsr := lfsrSeed s.loader.loaded.stopId } }

/-- All blocks start (R171); `node` is the store voltage on VSTO. -/
def State.startBlocks (s : State) (node : Nat) : State :=
  (((s.startPlanner.startPort.armStoreLow node).startSense).composeFirst).servePort

end Sys2Proof.Machine
end

