-- ==== Sys2Proof/Machine/StartUp.lean ====
section
/-! DEFINITION. The commands of start-up: NPOR_RELEASE, CONFIGURATION_ABSENT, CONFIGURATION_READ_COMPLETE and
NPOR_ASSERTED (R167 to R171). -/

namespace Sys2Proof.Machine

open Sys2Proof

/-- The answer of a meaning. -/
abbrev Answer := Host.Outcome State Fault Refusal

/-- Whether the configuration read is in progress (R167). -/
def State.readingImage (s : State) : Bool := s.loader.released && s.loader.state = .reading

/-- The start on defaults because the memory is absent (R167, R168, R171). -/
def State.startAbsent (s : State) (node : Nat) : State := s.loadAbsent.startBlocks node

/-- The start after a read of the image (R168 to R171). -/
def State.startImage (s : State) (node : Nat) (image : List Byte) : State := (s.loadChecked image).startBlocks node

/-- NPOR_RELEASE (R167): the read command goes out; on an NPOR already released there is no edge. -/
def execNporRelease (s : State) : Answer :=
  .next { s with loader := { s.loader with released := true } }

/-- CONFIGURATION_ABSENT (R167). -/
def execConfigurationAbsent (dt node : Nat) (s : State) : Answer :=
  let t := s.advance dt
  .next (if t.readingImage then t.startAbsent node else t)

/-- CONFIGURATION_READ_COMPLETE (R171). An image shorter than 512 bytes is a memory that stopped
acknowledging before the 512th byte (R167). -/
def execConfigurationReadComplete (dt node : Nat) (image : List Byte) (s : State) : Answer :=
  let t := s.advance dt
  .next (if t.readingImage then (if image.length < 512 then t.startAbsent node else t.startImage node image) else t)

/-- NPOR_ASSERTED (R167): every block in its power-on state; the commands that wait are the model's, not the
part's, and stay. -/
def execNporAsserted (s : State) : Answer :=
  .next { State.reset with pending := s.pending }

end Sys2Proof.Machine
end

