-- ==== Sys2Proof/Machine/Receive.lean ====
section
/-! DEFINITION. The commands of the receive side: CHARACTER, IDLE, REPLY_DISCARDED, QUIET_TIMER_EXPIRY,
SNIFF_TIMER_EXPIRY, WINDOW_CLOSE; and the dispatcher (9.1 to 9.5). -/

namespace Sys2Proof.Machine

open Sys2Proof

/-! ### Characters (R148, R151) -/

/-- The receive state and buffer set. -/
def State.receiveAs (s : State) (st : ReceiveState) (buffer : List Byte) : State :=
  { s with rx := { s.rx with state := st, buffer := buffer } }

/-- A header judged: in LISTEN, or past the wake filter, it starts a frame; otherwise it is counted as filtered
and leads to SKIP (R151, R156). -/
def State.judgeHeader (s : State) (h : Byte) : State :=
  if s.rx.mode = .listen ∨ wakes s.loader.loaded h then s.receiveAs .assemble [h]
  else (s.count .filtered).receiveAs .skip []

/-- A marked character (R151). -/
def State.markedCharacter (s : State) (b : Byte) : State :=
  if s.rx.state = .assemble then (s.count .truncated).judgeHeader b else s.judgeHeader b

/-- An unmarked character (R151). -/
def State.unmarkedCharacter (s : State) (b : Byte) : State :=
  match s.rx.state with
  | .hunt => s.count .stray
  | .skip => s
  | .assemble =>
    if s.rx.buffer.length < Config.frameCapacity then s.receiveAs .assemble (s.rx.buffer ++ [b])
    else (s.count .overlong).receiveAs .skip []

/-- A character with a framing error (R148, R151). -/
def State.badCharacter (s : State) : State :=
  let counted := s.count .framingError
  if s.rx.state = .assemble then counted.receiveAs .skip [] else counted

/-- A character by its majority value (R148, R151). -/
def State.takeValue (s : State) (v : BitVec 11) : State :=
  if !stopBitGood v then s.badCharacter
  else if characterMark v then s.markedCharacter (characterByte v)
  else s.unmarkedCharacter (characterByte v)

/-- The noise count of a character whose samples disagree on any bit (R148). -/
def State.countNoise (s : State) (a b c : BitVec 11) : State :=
  if a = b ∧ b = c then s else s.count .noise

/-- A character taken (R148, R151). -/
def State.takeCharacter (s : State) (a b c : BitVec 11) : State :=
  let timed := { s with rx := { s.rx with lastCharacter := s.elapsed } }
  (timed.countNoise a b c).takeValue (majority a b c)

/-- CHARACTER (R151). -/
def execCharacter (dt : Nat) (sample1 sample2 sample3 : BitVec 11) (s : State) : Answer :=
  let t := s.advance dt
  .next (t.whenStarted fun u =>
    if u.hearing then (u.takeCharacter sample1 sample2 sample3).settleRadio else u)

/-! ### The end of a frame (R149, R150, R152, R153) -/

/-- The body of a buffer: what stands between the header and the two check characters. -/
def bufferBody (buffer : List Byte) : List Byte := (buffer.drop 1).take (buffer.length - 3)

/-- The header of a buffer. -/
def bufferHeader (buffer : List Byte) : Byte := buffer.headD 0#8

/-- Whether a buffer's check passes (R149). -/
def checkPasses (buffer : List Byte) : Bool :=
  (crc (buffer.take (buffer.length - 2))).toNat = valueOf (buffer.drop (buffer.length - 2))

/-- The quiet timer and the mode after an accepted frame: in LEAN the mode is LISTEN and the timer starts
afresh (R155). -/
def State.heardFrame (s : State) : State :=
  if s.planner.energy = .lean then
    { s with rx := { s.rx with mode := .listen, quietTimer := some (s.after s.loader.loaded.quietInterval) } }
  else s

/-- A good frame offered to the receive queue (R153). -/
def State.offerToQueue (s : State) (f : ReceivedFrame) : State :=
  if s.rx.queue.length < Config.queueCapacity then
    State.heardFrame (State.count { s with rx := { s.rx with queue := s.rx.queue ++ [f] } } .frameReceived)
  else s.count .overrun

/-- The frame judged in three steps (R152). -/
def State.judgeFrame (s : State) : State :=
  let buffer := s.rx.buffer
  let ended := s.receiveAs .hunt []
  if buffer.length < 4 then ended.count .malformed
  else if !checkPasses buffer then ended.count .checkFailure
  else if !lengthFits (headerKind (bufferHeader buffer)) (bufferBody buffer).length then ended.count .malformed
  else ended.offerToQueue ⟨bufferHeader buffer, bufferBody buffer, s.rx.lastCharacter⟩

/-- Idle in each receive state (R151). -/
def State.takeIdle (s : State) : State :=
  match s.rx.state with
  | .hunt => s
  | .skip => s.receiveAs .hunt []
  | .assemble => s.judgeFrame

/-- IDLE (R152). -/
def execIdle (dt : Nat) (s : State) : Answer :=
  let t := s.advance dt
  .next (t.whenStarted fun u => if u.hearing then u.takeIdle.settleRadio else u)

/-! ### Dispatch (R154) -/

/-- The head of the receive queue if it is of a kind and not held, with the state without it. -/
def State.dispatch (s : State) (k : Kind) : Option (ReceivedFrame × State) :=
  match s.rx.queue with
  | [] => none
  | f :: rest =>
    if headerKind f.header = k ∧ s.headHeld = false then some (f, { s with rx := { s.rx with queue := rest } })
    else none

/-- A dispatch command: time passes, and the owner takes the head if it is of the command's kind. A command
whose kind is not at the head, or meets a held head, finds nothing to dispatch (assumption log 7). -/
def State.onDispatch (s : State) (dt : Nat) (k : Kind) (f : ReceivedFrame → State → State) : State :=
  let t := s.advance dt
  t.whenStarted fun u =>
    match u.dispatch k with
    | none => u
    | some (frame, v) => f frame v

/-- REPLY_DISCARDED (R154). -/
def execReplyDiscarded (dt : Nat) (s : State) : Answer :=
  .next (s.onDispatch dt .reply fun _ t => t.count .replyDiscarded)

/-! ### Timers of the receive side (R155, R158) -/

/-- A timer's expiry: time passes up to its instant and the effect follows; a stopped timer does not run
out, and none runs before the blocks start (R167; assumption log 1). -/
def State.onTimer (s : State) (timer : Option Nat) (f : State → State) : State :=
  match timer with
  | none => s
  | some t => s.whenStarted fun u => f (u.advanceTo t)

/-- QUIET_TIMER_EXPIRY (R155). -/
def execQuietTimerExpiry (s : State) : Answer :=
  .next (s.onTimer s.rx.quietTimer fun t => { t with rx := { t.rx with mode := .doze, quietTimer := none } })

/-- A window opened, or a held one run on with its 2 s counted afresh, and the sniff timer restarted (R158). -/
def State.openWindow (s : State) : State :=
  let counted := if s.rx.window = .closed then s.count .sniffWindow else s
  { counted with rx := { s.rx with
      window := .running (s.elapsed + Config.windowMs)
      sniffTimer := some (s.after s.loader.loaded.sniffPeriod) } }

/-- SNIFF_TIMER_EXPIRY (R158). -/
def execSniffTimerExpiry (s : State) : Answer :=
  .next (s.onTimer s.rx.sniffTimer fun t => t.openWindow.settleRadio)

/-- The instant at which the window's 2 s are over. -/
def Window.deadline : Window → Option Nat
  | .closed => none
  | .running closes => some closes
  | .held => none

/-- The window at the end of its 2 s: held open by a frame in ASSEMBLE, closed otherwise (R158). -/
def State.endWindow (s : State) : State :=
  { s with rx := { s.rx with window := if s.rx.state = .assemble then .held else .closed } }

/-- WINDOW_CLOSE (R158). -/
def execWindowClose (s : State) : Answer :=
  .next (s.onTimer s.rx.window.deadline fun t => t.endWindow.settleRadio)

end Sys2Proof.Machine
end

