-- ==== Sys2Proof/Machine/AccessCommands.lean ====
section
/-! DEFINITION. The commands of channel access and sending: CARRIER_DETECT_RISE, CARRIER_QUIET, BACKOFF_SLOT,
FRAME_SENT and FRAME_ABANDONED (9.8). -/

namespace Sys2Proof.Machine

open Sys2Proof

/-- Whether a frame in ACCESS stands in a given stage. -/
def State.inStage (s : State) (st : AccessStage) : Bool := s.tx.state = .access && s.tx.stage = st

/-- The stage and the backoff slots left set. -/
def State.accessAs (s : State) (st : AccessStage) (backoff : Option Nat) : State :=
  { s with tx := { s.tx with stage := st, backoff := backoff } }

/-- A freeze of the countdown: back to the first stage, the slots that remain kept (R163). -/
def State.freezeCountdown (s : State) : State :=
  (s.accessAs .carrierWait s.tx.backoff).count .accessDeferred

/-- CARRIER_DETECT_RISE (R163): in the first stage the wait starts again, which the instant of CARRIER_QUIET
shows; in the countdown it freezes. -/
def execCarrierDetectRise (dt : Nat) (s : State) : Answer :=
  let t := s.advance dt
  .next (t.whenStarted fun u => if u.inStage .countdown then u.freezeCountdown else u)

/-- The backoff counted on with `n` slots left: at 0 the frame starts (R163). -/
def State.countDown (s : State) (n : Nat) : State :=
  if n = 0 then (s.accessAs .countdown (some 0)).startFrame else s.accessAs .countdown (some n)

/-- The end of the first stage: a backoff of 0..15 slots is drawn where none has been since the grant (R163). -/
def State.endFirstStage (s : State) : State :=
  match s.tx.backoff with
  | none => s.afterDraw.countDown (s.drawValue 0 16).toNat
  | some n => s.countDown n

/-- CARRIER_QUIET (R163). -/
def execCarrierQuiet (dt : Nat) (s : State) : Answer :=
  let t := s.advance dt
  .next (t.whenStarted fun u => if u.inStage .carrierWait then u.endFirstStage.settleRadio else u)

/-- One slot counted (R163). -/
def State.countSlot (s : State) : State :=
  match s.tx.backoff with
  | none => s
  | some n => s.countDown (n - 1)

/-- BACKOFF_SLOT (R163). -/
def execBackoffSlot (dt : Nat) (s : State) : Answer :=
  let t := s.advance dt
  .next (t.whenStarted fun u => if u.inStage .countdown then u.countSlot.settleRadio else u)

/-- The frame on the air has gone out (R165). -/
def State.finishSending (s : State) : State :=
  match s.tx.granted with
  | none => s
  | some g => (s.endFrame g).settleRadio

/-- FRAME_SENT (R165). -/
def execFrameSent (dt : Nat) (s : State) : Answer :=
  let t := s.advance dt
  .next (t.whenStarted fun u => if u.tx.state = .sending then u.finishSending else u)

/-- The instant 8 s after the grant of a frame in ACCESS (R164). -/
def State.accessDeadline (s : State) : Option Nat :=
  if s.tx.state = .access then s.tx.granted.map fun g => g.grantedAt + Config.accessMs else none

/-- A frame in ACCESS given up (R164). -/
def State.giveUp (s : State) : State :=
  match s.tx.granted with
  | none => s
  | some g => (s.abandonFrame g).settleRadio

/-- FRAME_ABANDONED (R164). -/
def execFrameAbandoned (s : State) : Answer :=
  .next (s.onTimer s.accessDeadline State.giveUp)

end Sys2Proof.Machine
end

