-- ==== Sys2Proof/Machine/Table.lean ====
section
/-! DEFINITION. The departure table as shared operations: order, evaluation of entries, fill passes, departures
and sight loss, rebuilds, rollover, flush (chapter 1). -/

namespace Sys2Proof.Machine

open Sys2Proof

/-! ### Identity and order (R1) -/

/-- An entry's identity: slot, day and run number (1.2). -/
def Entry.isRun (e : Entry) (slot : SlotIx) (day : Day) (run : Nat) : Bool :=
  e.slot = slot && e.day = day && e.run = run

/-- A comparison by several keys, each used only where the earlier ones are equal. -/
def lexBefore : List (Int × Int) → Bool
  | [] => true
  | (a, b) :: rest => if a < b then true else if b < a then false else lexBefore rest

/-- The table's order: P, S, route tag, run number, day offset (R1). -/
def entryBefore (c : Loaded) (day : Day) (a b : Entry) : Bool :=
  lexBefore [(a.predicted, b.predicted), (a.scheduled, b.scheduled),
    (((c.slots.get a.slot).tag : Int), ((c.slots.get b.slot).tag : Int)), ((a.run : Int), (b.run : Int)),
    (dayOffset day a.day, dayOffset day b.day)]

/-- Entries put in table order. -/
def orderEntries (c : Loaded) (day : Day) (es : List Entry) : List Entry := sortBy (entryBefore c day) es

/-! ### Evaluation of entries (R26, R27) -/

/-- The table and counters after the entries a predicate picks have been evaluated. -/
def evaluateWhere (c : Loaded) (day : Day) (now : Int) (p : Entry → Bool) (t : Table) (k : Counters) :
    Table × Counters :=
  let picked := t.entries.filter p
  let kept := t.entries.filterMap fun e => if p e then e.evaluate c now else some e
  ({ t with entries := orderEntries c day kept },
    (k.add .observationExpired (picked.countP fun e => e.stale c now)).add .overdueRemoval
      (t.entries.length - kept.length))

/-- Every entry evaluated (R26: board tick, re-evaluation). -/
def State.evaluateAll (s : State) : State :=
  let r := evaluateWhere s.loader.loaded s.clock.day s.now (fun _ => true) s.table s.counters
  { s with table := r.1, counters := r.2 }

/-! ### Fill passes (R5 to R8) -/

/-- A candidate of a fill pass (R6). -/
structure Candidate where
  slot : SlotIx
  tag : Nat
  day : Day
  offset : Int
  run : Run
  scheduled : Int
  deriving DecidableEq, Repr

/-- The scheduled time of a run (R6). -/
def scheduledTime (offset : Int) (origin offsetT : Nat) : Int := 86400 * offset + origin + offsetT

/-- Whether a run serves this stop: its terminal index is absent or not less than s (R6). -/
def servesStop (stopIndex : Nat) (terminal : Option Nat) : Bool :=
  match terminal with
  | none => true
  | some i => stopIndex ≤ i

/-- The candidates one sheet position offers (R6). -/
def positionCandidates (c : Loaded) (now mark : Int) (slot : SlotIx) (day : Day) (offset : Int)
    (sheet : Option Sheet) : List Candidate :=
  let conf := c.slots.get slot
  match sheet with
  | none => []
  | some sh =>
    (sh.runs.map fun r =>
      (⟨slot, conf.tag, day, offset, r, scheduledTime offset r.origin conf.offset⟩ : Candidate)).filter
      fun x => mark < x.scheduled && x.scheduled ≤ now + c.horizon && servesStop conf.stopIndex x.run.terminal

/-- The pass order: S, route tag, run number, day offset (R7). -/
def candidateBefore (a b : Candidate) : Bool :=
  lexBefore [(a.scheduled, b.scheduled), ((a.tag : Int), (b.tag : Int)), ((a.run.number : Int), (b.run.number : Int)),
    (a.offset, b.offset)]

/-- Whether some entry is the one of a candidate's slot, day and run number (R1). -/
def Candidate.held (es : List Entry) (x : Candidate) : Bool := es.any fun e => e.isRun x.slot x.day x.run.number

/-- All candidates of a pass in pass order (R6, R7). A run whose entry the table still holds is none, whatever its S
above the mark: R1 has never two entries of one slot, day and run number. Only a pass that reads a new sheet before that
sheet's own rebuild has run can meet one (DEDUCED, assumption log 39). -/
def candidates (c : Loaded) (day : Day) (now : Int) (slots : Vector SlotSheets 6) (t : Table) : List Candidate :=
  sortBy candidateBefore (((enabledSlots c).flatMap fun i =>
    positionCandidates c now (t.marks.get i) i day 0 ((slots.get i).forDay day) ++
      positionCandidates c now (t.marks.get i) i (day + 1#16) 1 ((slots.get i).forDay (day + 1#16))).filter
        fun x => !x.held t.entries)

/-- The groups of a pass: neighbours of one slot that share one S (R7). -/
def groupCandidates : List Candidate → List (List Candidate)
  | [] => []
  | x :: rest =>
    match groupCandidates rest with
    | [] => [[x]]
    | [] :: more => [x] :: more
    | (y :: ys) :: more =>
      if x.slot = y.slot ∧ x.scheduled = y.scheduled then (x :: y :: ys) :: more
      else [x] :: (y :: ys) :: more

/-- The entry of an admitted candidate, before its first evaluation (R8). -/
def admittedEntry (x : Candidate) : Entry where
  slot := x.slot
  day := x.day
  run := x.run.number
  origin := x.run.origin
  terminal := x.run.terminal
  scheduled := x.scheduled
  observation := none
  predicted := x.scheduled
  state := .expected
  lastSight := none
  shown := none

/-- The fill marks with one of them set. -/
def setMark (marks : Vector Int 6) (i : SlotIx) (v : Int) : Vector Int 6 := marks.set i v i.isLt

/-- One admission: the entry at its place, evaluated at once; the mark at its S (R7, R8). -/
def admitCandidate (c : Loaded) (day : Day) (now : Int) (r : Table × Counters) (x : Candidate) :
    Table × Counters :=
  let marked := { r.1 with marks := setMark r.1.marks x.slot x.scheduled }
  let counted := r.2.add .admission 1
  match (admittedEntry x).evaluate c now with
  | none => (marked, counted.add .overdueRemoval 1)
  | some e => ({ marked with entries := insertBy (entryBefore c day) e r.1.entries }, counted)

/-- One run of a group larger than the table that is left out: counted as lost, its slot's mark at the group's S
all the same (R7). -/
def loseCandidate (r : Table × Counters) (x : Candidate) : Table × Counters :=
  ({ r.1 with marks := setMark r.1.marks x.slot x.scheduled }, r.2.add .admissionLoss 1)

/-- A group larger than the table, met with every place free: its first 48 runs admitted, the others lost (R7). -/
def admitLargeGroup (c : Loaded) (day : Day) (now : Int) (r : Table × Counters) (g : List Candidate) :
    Table × Counters :=
  (g.drop Config.tableCapacity).foldl loseCandidate
    ((g.take Config.tableCapacity).foldl (admitCandidate c day now) r)

/-- The pass over its groups (R7), `used` places of the table being taken: a group is admitted whole or ends the
pass, but for a group larger than the table that meets every place free. An entry admitted and at once removed as
overdue has used its place for this pass: R18 and R33 give the place to the next one (assumption log 35). -/
def passGroups (c : Loaded) (day : Day) (now : Int) :
    List (List Candidate) → Nat → Table × Counters → Table × Counters
  | [], _, r => r
  | g :: rest, used, r =>
    if used + g.length ≤ Config.tableCapacity then
      passGroups c day now rest (used + g.length) (g.foldl (admitCandidate c day now) r)
    else if used = 0 then admitLargeGroup c day now r g
    else r

/-- The groups of the pass that the state's sheets and table call for (R1, R6, R7). -/
def State.passGroupsNow (s : State) : List (List Candidate) :=
  groupCandidates (candidates s.loader.loaded s.clock.day s.now s.sheets.slots s.table)

/-- The table and counters after a fill pass (R5 to R8). -/
def State.passResult (s : State) : Table × Counters :=
  passGroups s.loader.loaded s.clock.day s.now s.passGroupsNow s.table.entries.length (s.table, s.counters)

/-- A fill pass, which runs only while time is valid (R5 to R8); it settles an owed pass. -/
def State.fillPass (s : State) : State :=
  if s.clock.timeValid then
    { s with table := { s.passResult.1 with passOwed := false }, counters := s.passResult.2 }
  else s

/-- An occasion of a fill pass at a minute boundary or clock step: run, or owed while a rebuild is in
flight (R5, R20). -/
def State.fillOrOwe (s : State) : State :=
  if s.table.rebuild.isSome then { s with table := { s.table with passOwed := true } } else s.fillPass

/-! ### Departures (R12, R13) -/

/-- The passage report a departure originates (R13). -/
def departureReport (c : Loaded) (day : Day) (e : Entry) (leave : Int) : PassFields where
  sender := c.stopId
  tag := (c.slots.get e.slot).tag
  run := e.run
  day := e.day
  stop := (c.slots.get e.slot).stopIndex
  delay := clampDelay (leave - e.scheduled)
  time := leave - 86400 * dayOffset day e.day
  hops := c.ttl

/-- The count and the report of a departure; the entry itself has been taken out (R13). -/
def State.reportDeparture (s : State) (e : Entry) (leave : Int) : State :=
  let counted := s.count .departure
  if 0 < s.loader.loaded.ttl then
    (counted.count .passageOriginated).placeRelay
      (passFrame (departureReport s.loader.loaded s.clock.day e leave))
  else counted

/-- Whether an entry departs by sight loss (R12). -/
def Entry.sightLost (c : Loaded) (now : Int) (e : Entry) : Bool :=
  e.state = .atStop &&
    match e.lastSight with
    | none => false
    | some t => now - t ≥ c.sightLoss

/-- The entries out of the table that a predicate picks (R18). -/
def State.takeOut (s : State) (p : Entry → Bool) : State :=
  { s with table := { s.table with entries := s.table.entries.filter fun e => !p e } }

/-- The sight-loss checks (R12): each lost entry departs with its last sight time as leave time, in table
order. -/
def State.sightLossChecks (s : State) : State :=
  let lost := s.table.entries.filter fun e => e.sightLost s.loader.loaded s.now
  lost.foldl (fun r e => r.reportDeparture e (e.lastSight.getD s.now))
    (s.takeOut fun e => e.sightLost s.loader.loaded s.now)

/-! ### Rollover, flush, rebuild -/

/-- An entry's times one day back (R23); P moves with S (R31). -/
def Entry.dayBack (e : Entry) : Entry :=
  { e with
    scheduled := e.scheduled - 86400
    predicted := e.predicted - 86400
    observation := e.observation.map fun o => { o with time := o.time - 86400 }
    lastSight := e.lastSight.map (· - 86400) }

/-- The table's day rollover (R23). -/
def State.rollTable (s : State) : State :=
  let moved := s.table.entries.map Entry.dayBack
  let kept := moved.filter fun e => -3600 ≤ e.scheduled
  State.countMany
    { s with table := { s.table with entries := kept, marks := mapVector (· - 86400) s.table.marks } }
    .rolloverRemoval (moved.length - kept.length)

/-- The table emptied, a rebuild in flight cancelled, every enabled slot's fill mark at now (R22, R25); the fill
pass that follows is the caller's. -/
def State.flushTable (s : State) : State :=
  let marks := mapPlaces (fun i m => if (enabledSlots s.loader.loaded).any (·.val = i) then s.now else m) s.table.marks
  State.countMany { s with table := { s.table with entries := [], marks := marks, rebuild := none } }
    .flushed s.table.entries.length

/-- The start of a rebuild (R19). -/
def State.startRebuild (s : State) (slot : SlotIx) (day : Day) (runs : List Run) : State :=
  { s with table := { s.table with rebuild := some ⟨slot, day, runs⟩ } }

/-- An entry of the rebuild's slot and day under the recorded sheet (R21): nothing where it is removed. -/
def rebuiltEntry (c : Loaded) (day : Day) (now : Int) (r : Rebuild) (e : Entry) : Option Entry :=
  let conf := c.slots.get r.slot
  (r.runs.find? fun x => x.number = e.run).bind fun x =>
    let scheduled := scheduledTime (dayOffset day r.day) x.origin conf.offset
    if !servesStop conf.stopIndex x.terminal || now + c.horizon < scheduled || scheduled < -3600 then none
    else some { e with origin := x.origin, terminal := x.terminal, scheduled := scheduled }

/-- Whether an entry is one of the rebuild's slot and day. -/
def Rebuild.covers (r : Rebuild) (e : Entry) : Bool := e.slot = r.slot && e.day = r.day

/-- Whether the rebuild changed an entry's S, O or terminal index (R21, R26). -/
def entryChanged (before after : Entry) : Bool :=
  before.scheduled != after.scheduled || before.origin != after.origin || before.terminal != after.terminal

/-- An entry through a rebuild: outside it, unchanged; changed by it, evaluated (R21, R26). The flags say
whether the rebuild removed it, whether its observation expired, whether it went as overdue. -/
def rebuildStep (c : Loaded) (day : Day) (now : Int) (r : Rebuild) (e : Entry) :
    Option Entry × Bool × Bool × Bool :=
  if r.covers e then
    match rebuiltEntry c day now r e with
    | none => (none, true, false, false)
    | some e' =>
      if entryChanged e e' then (e'.evaluate c now, false, e'.stale c now, (e'.evaluate c now).isNone)
      else (some e', false, false, false)
  else (some e, false, false, false)

/-- The largest S among a slot's entries, or a given mark where that is greater (R21). -/
def raiseMark (slot : SlotIx) (mark : Int) (es : List Entry) : Int :=
  es.foldl (fun m e => if e.slot = slot then max m e.scheduled else m) mark

/-- The changes of a rebuild completion to the entries and the fill mark (R21). -/
def State.applyRebuild (s : State) (r : Rebuild) : State :=
  let c := s.loader.loaded
  let off := dayOffset s.clock.day r.day
  if off = -1 ∨ off = 0 ∨ off = 1 then
    let steps := s.table.entries.map (rebuildStep c s.clock.day s.now r)
    let kept := steps.filterMap (·.1)
    let marks := setMark s.table.marks r.slot (raiseMark r.slot (s.table.marks.get r.slot) kept)
    ((State.countMany { s with table := { s.table with entries := orderEntries c s.clock.day kept, marks := marks } }
      .rebuildRemoval (steps.countP (·.2.1))).countMany
        .observationExpired (steps.countP (·.2.2.1))).countMany
          .overdueRemoval (steps.countP (·.2.2.2))
  else s

/-- A rebuild completion in the table: its changes, the flag cleared (R21); the closing fill pass is the
caller's. -/
def State.completeRebuild (s : State) (r : Rebuild) : State :=
  let applied := s.applyRebuild r
  { applied with table := { applied.table with rebuild := none } }

end Sys2Proof.Machine
end

