-- ==== Sys2Proof/Machine/Sheets.lean ====
section
/-! DEFINITION. The sheet store as shared operations: publication requests, assembly, validation and commit,
discards at a change of D (chapter 3). -/

namespace Sys2Proof.Machine

open Sys2Proof

/-- One slot of the store changed. -/
def SheetStore.setSlot (st : SheetStore) (i : SlotIx) (h : SlotSheets) : SheetStore :=
  { st with slots := st.slots.set i h i.isLt }

/-- The assembly of a slot changed. -/
def SheetStore.setAssembly (st : SheetStore) (i : SlotIx) (a : Option Assembly) : SheetStore :=
  st.setSlot i { st.slots.get i with assembly := a }

/-! ### Publication requests (R58) -/

/-- Whether a record is for a slot and day. -/
def Publication.isFor (p : Publication) (slot : SlotIx) (day : Day) : Bool := p.slot = slot && p.day = day

/-- A request for a slot and day (R58): merged into a listed record, refused with the list full, or appended
with a holdoff drawn from 1..8 s. -/
def State.requestPublication (s : State) (slot : SlotIx) (day : Day) : State :=
  let version := (s.sheets.slots.get slot).versionFor day
  if s.sheets.publications.any (·.isFor slot day) then
    State.count
      { s with sheets := { s.sheets with
          publications := s.sheets.publications.map fun p =>
            if p.isFor slot day then { p with version := version } else p } }
      .publicationMerged
  else if Config.publicationCapacity ≤ s.sheets.publications.length then s.count .publicationRefused
  else
    let record : Publication := ⟨slot, day, version, 0, .holdoff (s.after (s.drawValue 1 8).toNat), s.sheets.made⟩
    State.count
      { s.afterDraw with sheets := { s.sheets with
          publications := s.sheets.publications ++ [record]
          made := s.sheets.made + 1 } }
      .publicationRequested

/-! ### Commit (R51 to R53, R62) -/

/-- The runs of an assembly in index order. -/
def Assembly.runs (a : Assembly) : List Run :=
  (List.range a.count).flatMap fun i => ((a.fragments.find? fun f => f.1 = i).map (·.2)).getD []

/-- Whether neighbours stand in ascending order of O, ties by run number. -/
def ascendingRuns : List Run → Bool
  | [] => true
  | [_] => true
  | a :: b :: rest =>
    (a.origin < b.origin || (a.origin = b.origin && a.number ≤ b.number)) && ascendingRuns (b :: rest)

/-- Whether no run number appears twice. -/
def distinctRuns : List Run → Bool
  | [] => true
  | a :: rest => (rest.all fun b => b.number != a.number) && distinctRuns rest

/-- Whether a fragment holds a permitted number of runs (R52). -/
def fragmentSizeGood (count : Nat) (f : Nat × List Run) : Bool :=
  if f.1 + 1 = count then f.2.length ≤ 7 else f.2.length = 7

/-- Whether a run's O and terminal index lie in their ranges (R52). -/
def runInRange (r : Run) : Bool :=
  r.origin ≤ 86399 &&
    match r.terminal with
    | none => true
    | some i => 1 ≤ i && i ≤ 63

/-- The validation of an assembly against the version the slot holds for its day (R52). -/
def Assembly.valid (a : Assembly) (held : Version) : Bool :=
  a.fragments.all (fragmentSizeGood a.count) && ascendingRuns a.runs && distinctRuns a.runs &&
    a.runs.all runInRange && newerVersion a.version held

/-- A sheet put in the place of the slot's sheet for its day (R53). -/
def SlotSheets.store (h : SlotSheets) (sh : Sheet) : SlotSheets where
  sheets := (h.sheets.filter fun x => x.day != sh.day) ++ [sh]
  assembly := none

/-- A listed record whose sheet has been replaced: the new version, its cursor at 0 (R62). -/
def Publication.renew (p : Publication) (slot : SlotIx) (day : Day) (version : Version) : Publication :=
  if p.isFor slot day then { p with version := version, cursor := 0 } else p

/-- The commit of a valid assembly (R53, R62): stored, its rebuild started, its publication requested. -/
def State.commitAssembly (s : State) (i : SlotIx) (a : Assembly) (rest : List SlotIx) : State :=
  let stored := { s.sheets.setSlot i ((s.sheets.slots.get i).store ⟨a.day, a.version, a.runs⟩) with
    waiting := rest
    publications := s.sheets.publications.map (fun p => p.renew i a.day a.version) }
  State.requestPublication
    ((State.count { s with sheets := stored } .sheetCommitted).startRebuild i a.day a.runs) i a.day

/-- The rejection of an assembly that fails validation (R53). -/
def State.rejectAssembly (s : State) (i : SlotIx) : State :=
  State.count { s with sheets := s.sheets.setAssembly i none } .sheetRejected

/-- The waiting assemblies taken in order until one commits or none is left (R51). -/
def commitWaiting : List SlotIx → State → State
  | [], s => { s with sheets := { s.sheets with waiting := [] } }
  | i :: rest, s =>
    match (s.sheets.slots.get i).assembly with
    | none => commitWaiting rest s
    | some a =>
      if a.valid ((s.sheets.slots.get i).versionFor a.day) then s.commitAssembly i a rest
      else commitWaiting rest (s.rejectAssembly i)

/-- A commit wherever the rebuild-in-flight flag allows one (R51). -/
def State.tryCommit (s : State) : State :=
  if s.table.rebuild.isSome then s else commitWaiting s.sheets.waiting s

/-- What the cleared flag lets happen: the fill pass (R21, R25) and the commit of a waiting assembly (R51, R22), in
the order chosen. With the commit first, the pass reads the new sheet while that sheet's own rebuild is in flight.
Neither rule orders the two: the order is the model's operand (DESIGN CHOICE, assumption log 10). Nor do R51 and R22
order the commit and the dispatcher's hand on a held head (R154): here the commit, with the flag it sets anew, always
comes first, so a PASS or SIGHT head stays held through the next rebuild (DESIGN CHOICE, assumption log 38). -/
def State.fillAndCommit (s : State) (commitFirst : Bool) : State :=
  if commitFirst then s.tryCommit.fillPass else s.fillPass.tryCommit

/-! ### Assemblies (R48, R49) -/

/-- What an accepted fragment does to its slot's assembly (R48). -/
inductive FragmentEffect where
  | start
  | setAside
  | replace
  | add
  deriving DecidableEq, Repr

/-- The table of R48, its cases in order. -/
def fragmentEffect (current : Day) (assembly : Option Assembly) (f : SheetFields) : FragmentEffect :=
  match assembly with
  | none => .start
  | some a =>
    if a.state = .complete then .setAside
    else if a.day ≠ f.day then
      (if f.day = current then .replace else .setAside)
    else if a.version = f.version then .add
    else if newerVersion f.version a.version then .replace
    else .setAside

/-- The state an assembly has by the number of its fragments (R47). -/
def assemblyStateOf (count held : Nat) : AssemblyState := if count ≤ held then .complete else .collecting

/-- An assembly started with a fragment (R48). -/
def startAssembly (at_ : Nat) (f : SheetFields) : Assembly where
  day := f.day
  version := f.version
  count := f.count
  fragments := [(f.index, f.runs)]
  state := assemblyStateOf f.count 1
  lastAddition := at_

/-- An assembly with a fragment added (R49). -/
def Assembly.addFragment (a : Assembly) (at_ : Nat) (f : SheetFields) : Assembly :=
  { a with
    fragments := a.fragments ++ [(f.index, f.runs)]
    state := assemblyStateOf a.count (a.fragments.length + 1)
    lastAddition := at_ }

/-- A new or grown assembly put in its slot; a COMPLETE one goes to commit (R48, R49, R51). -/
def State.putAssembly (s : State) (i : SlotIx) (a : Assembly) : State :=
  let put := State.count { s with sheets := s.sheets.setAssembly i (some a) } .fragmentAdded
  if a.state = .complete then
    State.tryCommit { put with sheets := { put.sheets with waiting := put.sheets.waiting ++ [i] } }
  else put

/-- A fragment for the assembly's own day and version (R49). -/
def State.addFragment (s : State) (i : SlotIx) (a : Assembly) (f : SheetFields) : State :=
  if f.count ≠ a.count then s.count .sheetMalformed
  else if a.fragments.any fun x => x.1 = f.index then s.count .fragmentRepeated
  else s.putAssembly i (a.addFragment s.elapsed f)

/-- An accepted fragment applied to its slot's assembly (R48, R49). -/
def State.applyFragment (s : State) (i : SlotIx) (f : SheetFields) : State :=
  match fragmentEffect s.clock.day (s.sheets.slots.get i).assembly f with
  | .start => s.putAssembly i (startAssembly s.elapsed f)
  | .setAside => s.count .fragmentSetAside
  | .replace => (s.count .assemblyReplaced).putAssembly i (startAssembly s.elapsed f)
  | .add =>
    match (s.sheets.slots.get i).assembly with
    | none => s
    | some a => s.addFragment i a f

/-! ### A change of D (R45) -/

/-- A slot's sheets and assembly after a change of D. -/
def SlotSheets.keepDays (day : Day) (h : SlotSheets) : SlotSheets where
  sheets := h.sheets.filter fun sh => heldDay day sh.day
  assembly := h.assembly.filter fun a => heldDay day a.day

/-- How many elements of the store's slots a measure finds. -/
def sumSlots (f : SlotSheets → Nat) (v : Vector SlotSheets 6) : Nat := (v.toList.map f).sum

/-- The number of assemblies of a slot, 0 or 1. -/
def SlotSheets.assemblies (h : SlotSheets) : Nat := if h.assembly.isSome then 1 else 0

/-- The discards at a change of D (R45). -/
def State.changeDays (s : State) : State :=
  let day := s.clock.day
  let slots := mapVector (SlotSheets.keepDays day) s.sheets.slots
  let kept := s.sheets.publications.filter fun p => heldDay day p.day
  ((State.countMany
    { s with sheets := { s.sheets with
        slots := slots
        waiting := s.sheets.waiting.filter fun i => ((slots.get i).assembly).isSome
        publications := kept } }
    .sheetExpired (sumSlots (·.sheets.length) s.sheets.slots - sumSlots (·.sheets.length) slots)).countMany
      .assemblyExpired (sumSlots (·.assemblies) s.sheets.slots - sumSlots (·.assemblies) slots)).countMany
        .publicationExpired (s.sheets.publications.length - kept.length)

/-! ### Offers (R55) -/

/-- The listings of an OFFER: one for each enabled slot in slot order. -/
def State.listings (s : State) : List Listing :=
  (enabledSlots s.loader.loaded).map fun i =>
    ⟨(s.loader.loaded.slots.get i).tag, (s.sheets.slots.get i).versionFor s.clock.day,
      (s.sheets.slots.get i).versionFor (s.clock.day + 1#16)⟩

/-- The OFFER frame built from the sheets held now (R55): header route group 0. -/
def State.offerFrameNow (s : State) : SendFrame :=
  ⟨header .offer 0, offerBody s.loader.loaded.stopId s.clock.day s.listings⟩

end Sys2Proof.Machine
end

