-- ==== Sys2Proof/Machine/ClockCommands.lean ====
section
/-! DEFINITION. The commands of the station clock: CLOCK_FRAME, COUNTED_SECOND, AGING_TIMER_EXPIRY and
BEACON_TIMER_EXPIRY, with what the clock's events set in motion in the other blocks (chapter 4). -/

namespace Sys2Proof.Machine

open Sys2Proof

/-- The end of a command that may have promoted a job or placed a frame: the panel port looks at what is
waiting, and radio power follows. -/
def State.finish (s : State) : State := s.servePort.settleRadio

/-! ### CLOCK frames and their time (R66, R67) -/

/-- A point of time: a day and a millisecond of it. -/
structure Moment where
  day : Day
  ms : Nat
  deriving DecidableEq, Repr

/-- The present time of a frame `e` ms after its completion (R66). -/
def presentTime (f : ClockFields) (e : Nat) : Moment :=
  let ms := f.second * 1000 + e
  ⟨f.day + BitVec.ofNat 16 (ms / 86400000), ms % 86400000⟩

/-- Whether a CLOCK frame is malformed (R66). -/
def ClockFields.malformed (f : ClockFields) : Bool := f.stratum = 7 || 86399 < f.second

/-- The clock's own time within the day, in ms: X with its phase (R67). -/
def Clock.ownMs (k : Clock) : Nat := k.second * 1000 + k.phase

/-- The difference of a present time from the clock's own time, in ms, on one line of days and seconds (R67). -/
def timeDifference (k : Clock) (m : Moment) : Nat :=
  (86400000 * dayOffset k.day m.day + m.ms - k.ownMs).natAbs

/-- Whether a well-formed frame is adopted (R67). -/
def adopts (k : Clock) (f : ClockFields) (m : Moment) : Bool :=
  !k.timeValid || f.stratum + 1 < k.stratum ||
    (f.stratum + 1 = k.stratum && 2000 ≤ timeDifference k m)

/-! ### Adoption (R68 to R72) -/

/-- Stratum, last-adoption time and aging timer at an adoption (R68). -/
def State.takeStratum (s : State) (c : Nat) : State :=
  State.count
    { s with clock := { s.clock with
        stratum := c
        lastAdoption := some s.elapsed
        agingTimer := if c < 7 then some (s.after Config.agingSeconds) else none } }
    .clockAdopted

/-- D, X and phase set from a present time (R68). -/
def State.setTime (s : State) (m : Moment) : State :=
  { s with clock := { s.clock with day := m.day, second := m.ms / 1000, phase := m.ms % 1000 } }

/-- The beacon timer started with a fresh draw (R74). -/
def State.startBeacon (s : State) : State :=
  { s.afterDraw with clock := { s.clock with
      beaconTimer := some (s.after (s.jittered s.loader.loaded.clockInterval)) } }

/-- The offer timer started at time becoming valid (R54). -/
def State.startOffers (s : State) : State :=
  { s.afterDraw with sheets := { s.sheets with offerTimer := some (s.after (s.drawValue 5 11).toNat) } }

/-- The table at a clock step: its sight-loss checks and its fill pass, in the order chosen (R24). -/
def State.stepTable (s : State) (passFirst : Bool) : State :=
  if passFirst then s.fillOrOwe.sightLossChecks else s.sightLossChecks.fillOrOwe

/-- A first adoption (R69, R25, R54, R74). -/
def State.adoptFirst (s : State) (m : Moment) (offerFirst : Bool) : State :=
  let timed := State.setTime { s with clock := { s.clock with timeValid := true } } m
  let started := if offerFirst then timed.startOffers.startBeacon else timed.startBeacon.startOffers
  (started.count .firstAdoption).flushTable.fillPass

/-- A same-day adoption (R70): forward also where it moves nothing. -/
def State.adoptStep (s : State) (m : Moment) (passFirst : Bool) : State :=
  let counted := s.count (if s.clock.ownMs ≤ m.ms then .stepForward else .stepBack)
  (counted.setTime m).stepTable passFirst

/-- A next-day adoption: a rollover followed by a step (R71). -/
def State.adoptNextDay (s : State) (m : Moment) (passFirst : Bool) : State :=
  ((((s.count .nextDayAdoption).setTime m).rollTable).changeDays).stepTable passFirst

/-- A day jump (R72, R45, R25, R22, R51); `commitFirst` orders the fill pass and the commit that a cancelled rebuild
releases, which the spec leaves open (DESIGN CHOICE, assumption log 10). R72 lets store and table take the jump in
either order: here the store discards by the new days (R45) before the table clears the flag of a cancelled rebuild
(R22), so a waiting assembly of a discarded day expires and never commits (DESIGN CHOICE, assumption log 37). -/
def State.adoptJump (s : State) (m : Moment) (commitFirst : Bool) : State :=
  ((((s.count .dayJump).setTime m).changeDays).flushTable).fillAndCommit commitFirst

/-- The adoption by its kind (R69 to R72). -/
def State.adoptTime (s : State) (m : Moment) (offerFirst passFirst : Bool) : State :=
  if s.clock.timeValid = false then s.adoptFirst m offerFirst
  else if m.day = s.clock.day then s.adoptStep m passFirst
  else if m.day = s.clock.day + 1#16 then s.adoptNextDay m passFirst
  else s.adoptJump m (!passFirst)

/-- The re-evaluation after an adoption: every entry evaluated, notices expired, the board composed (R40, R77,
R90). -/
def State.reevaluate (s : State) : State := s.evaluateAll.expireNotices.compose

/-- An adoption (R68). -/
def State.adopt (s : State) (f : ClockFields) (m : Moment) (offerFirst passFirst : Bool) : State :=
  ((s.takeStratum (f.stratum + 1)).adoptTime m offerFirst passFirst).reevaluate.finish

/-- A CLOCK frame taken by the clock (R66, R67). -/
def State.takeClock (s : State) (f : ClockFields) (stamp : Nat) (offerFirst passFirst : Bool) : State :=
  if f.malformed then s.count .clockMalformed
  else
    let m := presentTime f (s.elapsed - stamp)
    if adopts s.clock f m then s.adopt f m offerFirst passFirst
    else if s.clock.stratum < f.stratum + 1 then s.count .clockOutranked
    else s.count .clockAgreeing

/-- CLOCK_FRAME (R67). -/
def execClockFrame (dt : Nat) (offerFirst passFirst : Bool) (s : State) : Answer :=
  .next (s.onDispatch dt .clock fun g t => t.takeClock (readClock g.body) g.stamp offerFirst passFirst)

/-! ### Counting (R64, R65) -/

/-- X one second on, the phase a second back; time has passed up to that moment. -/
def State.tickSecond (s : State) : State :=
  let t := s.advance (1000 - s.clock.phase)
  { t with clock := { t.clock with second := t.clock.second + 1, phase := t.clock.phase - 1000 } }

/-- The day rollover where X has reached 86,400 (R65, R23, R45). -/
def State.rollIfDue (s : State) : State :=
  if s.clock.second < Config.daySeconds then s
  else State.changeDays (State.rollTable
    { s with clock := { s.clock with day := s.clock.day + 1#16, second := 0 } })

/-- Whether the present second is a board tick. -/
def State.onTick (s : State) : Bool := s.clock.second % 15 = 0

/-- Whether the present second is a minute boundary. -/
def State.onMinute (s : State) : Bool := s.clock.second % 60 = 0

/-- The board tick in the table (R26). -/
def State.tableTick (s : State) : State := if s.onTick then s.evaluateAll else s

/-- The minute boundary in the table (R5). -/
def State.tableMinute (s : State) : State := if s.onMinute then s.fillOrOwe else s

/-- The events of a counted second in the table: the sight-loss checks of the counted second, the evaluations of the
board tick, and the minute boundary's fill pass at the place chosen. R65 leaves the order of all three open. The checks
and the evaluations remove different entries, so their own order shows only in what the pass finds: the pass's place is
the command's operand (DESIGN CHOICE, assumption log 10). -/
def State.tableSecond (s : State) (pass : PassPlace) : State :=
  match pass with
  | .first => s.tableMinute.sightLossChecks.tableTick
  | .afterChecks => s.sightLossChecks.tableMinute.tableTick
  | .afterEvaluations => s.tableTick.tableMinute.sightLossChecks
  | .last => s.sightLossChecks.tableTick.tableMinute

/-- The board tick in the notice store (R90, R92). -/
def State.noticeTick (s : State) : State := if s.onTick then s.expireNotices.rotateNotices else s

/-- A composition where the table or the tick calls for one (R77). -/
def State.composeAfter (s : State) (before : List Entry) (tick : Bool) : State :=
  if tick || s.table.entries != before then s.compose else s

/-- The sweep time where the minute boundary is it (R109). -/
def State.sweepIfDue (s : State) (order : SweepOrder) : State :=
  if sweepTime s.loader.loaded s.clock.second then s.sweepNow order else s

/-- The composition of a counted second and the sweep time it may be, which reach the planner together: R103 lets it
take them in either order, which is the command's operand (DESIGN CHOICE, assumption log 10). -/
def State.composeAndSweep (s : State) (before : List Entry) (tick sweepFirst : Bool) (order : SweepOrder) : State :=
  if sweepFirst then (s.sweepIfDue order).composeAfter before tick else (s.composeAfter before tick).sweepIfDue order

/-- A counted second (R64, R65). -/
def State.countSecond (s : State) (pass : PassPlace) (sweepFirst : Bool) (order : SweepOrder) : State :=
  let rolled := s.tickSecond.rollIfDue
  (((rolled.tableSecond pass).noticeTick).composeAndSweep s.table.entries rolled.onTick sweepFirst order).finish

/-- COUNTED_SECOND (R64); while time is invalid the clock does not count (R63). -/
def execCountedSecond (pass : PassPlace) (sweep : SweepTurn) (s : State) : Answer :=
  .next (s.whenStarted fun u => if u.clock.timeValid then u.countSecond pass sweep.sweepFirst sweep.order else u)

/-! ### Timers (R73, R74) -/

/-- A rise of the stratum (R73). -/
def State.ageStratum (s : State) : State :=
  let c := min 7 (s.clock.stratum + 1)
  State.count
    { s with clock := { s.clock with
        stratum := c
        agingTimer := if c < 7 then some (s.after Config.agingSeconds) else none } }
    .stratumAged

/-- AGING_TIMER_EXPIRY (R73). -/
def execAgingTimerExpiry (s : State) : Answer :=
  .next (s.onTimer s.clock.agingTimer State.ageStratum)

/-- The CLOCK frame a beacon expiry places, or the skip (R74). -/
def State.beaconPlace (s : State) : State :=
  if s.clock.stratum ≤ 6 ∧ s.planner.energy ≠ .dormant then ((s.count .clockBuilt).placeClock).settleRadio
  else s.count .clockSkipped

/-- BEACON_TIMER_EXPIRY (R74). -/
def execBeaconTimerExpiry (s : State) : Answer :=
  .next (s.onTimer s.clock.beaconTimer fun t => t.startBeacon.beaconPlace)

end Sys2Proof.Machine
end

