-- ==== Sys2Proof/Machine/SenseCommands.lean ====
section
/-! DEFINITION. The commands of the sense unit: SCAN_TIMER_EXPIRY, SCAN_COMPLETION, STORE_LOW_ACTIVE,
STORE_LOW_INACTIVE, TEMPERATURE_TIMER_EXPIRY, TEMPERATURE_ANSWER and READ_TIMEOUT (chapter 8). -/

namespace Sys2Proof.Machine

open Sys2Proof

/-! ### Scans (R139, R140) -/

/-- A conversion started and the scan timer restarted (R139). -/
def State.startConversion (s : State) : State :=
  { s with sense := { s.sense with converting := true, scanTimer := some (s.after s.loader.loaded.scanPeriod) } }

/-- SCAN_TIMER_EXPIRY (R139). -/
def execScanTimerExpiry (s : State) : Answer :=
  .next (s.onTimer s.sense.scanTimer State.startConversion)

/-- A conversion's voltage in the history, and the median worked out from it (R139, R140). -/
def State.takeVoltage (s : State) (counts : BitVec 12) : State :=
  let h := pushVoltage s.sense.history (voltageOf s.loader.loaded counts)
  State.count { s with sense := { s.sense with history := h, median := some (medianOf h), converting := false } }
    .scanCompleted

/-- The send side's arbitration where the energy state has changed (R161). -/
def State.arbitrateOnChange (s : State) (before : Energy) : State :=
  if s.planner.energy = before then s else s.arbitrate

/-- A scan completion: the sense unit, then the planner, then the engine (R140, R98, R99). -/
def State.completeScan (s : State) (counts : BitVec 12) : State :=
  let before := s.planner.energy
  let scanned := s.takeVoltage counts
  let account := scanned.account (medianOf scanned.sense.history)
  let handed := account.handOnEnergy before s.sense.history.isEmpty
  ((handed.scanJobs).arbitrateOnChange before).finish

/-- SCAN_COMPLETION (R140): of the conversion in progress; without one nothing completes. -/
def execScanCompletion (dt : Nat) (counts : BitVec 12) (s : State) : Answer :=
  let t := s.advance dt
  .next (t.whenStarted fun u => if u.sense.converting then u.completeScan counts else u)

/-! ### Store-low (R141, R142) -/

/-- A RUNNING job that waits for a read stops at once, with the report and the planning it calls for (R130). A job
promoted or resumed during the read, its load step not yet made, stops so as well (DEDUCED, assumption log 36). -/
def State.stopAtRead (s : State) : State :=
  match s.engine.active with
  | none => s
  | some a => if a.state = .running ∧ s.engine.port = .reading then s.suspendReported a else s

/-- Store-low becomes active (R141, R142). -/
def State.activateStoreLow (s : State) : State :=
  State.stopAtRead (State.count { s with sense := { s.sense with storeLow := true } } .storeLowActivation)

/-- STORE_LOW_ACTIVE (R141): the node has fallen to a voltage. One at or above Vwarn, and a fall while store-low is
active, is no change. -/
def execStoreLowActive (change : NodeChange) (s : State) : Answer :=
  let t := s.advance change.dt
  .next (t.whenStarted fun u => if !u.sense.storeLow && u.compares change.node then u.activateStoreLow.finish else u)

/-- The frame that waited with its countdown at 0 takes the first stage once more (R163). -/
def Sender.leaveStoreLow (tx : Sender) : Sender :=
  if tx.stage = .storeLowWait then { tx with stage := .carrierWait } else tx

/-- Store-low becomes inactive: an occasion for promotion, and the waiting frame goes on (R142, R163). -/
def State.clearStoreLow (s : State) : State :=
  State.promoteJobs { s with sense := { s.sense with storeLow := false }, tx := s.tx.leaveStoreLow }

/-- STORE_LOW_INACTIVE (R141): the node has risen to a voltage. One at or below Vwarn + 50, and a rise while store-low
is inactive, is no change. -/
def execStoreLowInactive (change : NodeChange) (s : State) : Answer :=
  let t := s.advance change.dt
  .next (t.whenStarted fun u => if u.sense.storeLow && !u.compares change.node then u.clearStoreLow.finish else u)

/-! ### Temperature reads (R143, R144, R146) -/

/-- The scheduled read requested and the temperature timer restarted (R143). -/
def State.scheduleRead (s : State) : State :=
  State.requestRead
    { s with sense := { s.sense with temperatureTimer := some (s.after s.loader.loaded.temperaturePeriod) } }

/-- TEMPERATURE_TIMER_EXPIRY (R143). -/
def execTemperatureTimerExpiry (s : State) : Answer :=
  .next (s.onTimer s.sense.temperatureTimer fun t => t.scheduleRead.finish)

/-- An answer on PTIN: a successful read in READING, stray in any other port state (R124, R136, R146). -/
def State.takeAnswer (s : State) (value : Byte) : State :=
  if s.engine.port = .reading then (s.releasePort.readSucceeded value.toInt).finish else s.count .strayAnswer

/-- TEMPERATURE_ANSWER (R146). -/
def execTemperatureAnswer (dt : Nat) (value : Byte) (s : State) : Answer :=
  let t := s.advance dt
  .next (t.whenStarted fun u => u.takeAnswer value)

/-- READ_TIMEOUT (R144). -/
def execReadTimeout (s : State) : Answer :=
  .next (s.onTimer s.engine.readDeadline fun t =>
    if t.engine.port = .reading then t.releasePort.readFailed.finish else t)

end Sys2Proof.Machine
end

