-- ==== Sys2Proof/Machine/DriveCommands.lean ====
section
/-! DEFINITION. The commands of the drive engine: LOAD_STEP_END, READY, READY_TIMEOUT, STOP_SENT and
SUSPEND_LIMIT_EXPIRY (chapter 7). -/

namespace Sys2Proof.Machine

open Sys2Proof

/-- A job at a phase boundary, or at the end of its load step: it stops where store-low is active or a halt
request names it, and goes on otherwise (R127, R130). -/
def State.atBoundary (s : State) (a : ActiveJob) : State :=
  if s.sense.storeLow || s.halted a.job then s.suspendReported a else s

/-- The active job taken over as changed. -/
def State.withActive (s : State) (a : ActiveJob) : State :=
  { s with engine := { s.engine with active := some a } }

/-! ### The load step (R125) -/

/-- The load step's end of the active job. -/
def State.endLoad (s : State) : State :=
  match s.engine.active with
  | none => s.releasePort
  | some a => (s.releasePort.withActive { a with loaded := true }).atBoundary { a with loaded := true }

/-- LOAD_STEP_END (R125). -/
def execLoadStepEnd (dt : Nat) (s : State) : Answer :=
  let t := s.advance dt
  .next (t.whenStarted fun u => if u.engine.port = .loading then u.endLoad.finish else u)

/-! ### Phases (R124, R127) -/

/-- A job one phase further. -/
def ActiveJob.phaseDone (a : ActiveJob) : ActiveJob :=
  { a with job := { a.job with phaseIndex := a.job.phaseIndex + 1 } }

/-- What follows a phase's end (R127): completion at the last phase, else the phase boundary. -/
def State.afterPhase (s : State) (a : ActiveJob) (promotionFirst : Bool) : State :=
  if a.job.mode.phases ≤ a.job.phaseIndex then s.completeActive a promotionFirst else s.atBoundary a

/-- The end of the outstanding phase (R127). -/
def State.endPhase (s : State) (promotionFirst : Bool) : State :=
  match s.engine.active with
  | none => s.releasePort
  | some a => ((s.releasePort.withActive a.phaseDone).count .phasesDriven).afterPhase a.phaseDone promotionFirst

/-- READY taken: in PHASE it ends the phase, in any other port state it is stray (R124, R127). -/
def State.takeReady (s : State) (promotionFirst : Bool) : State :=
  if s.engine.port = .phase then (s.endPhase promotionFirst).finish else s.count .strayReady

/-- READY (R127). -/
def execReady (dt : Nat) (promotionFirst : Bool) (s : State) : Answer :=
  let t := s.advance dt
  .next (t.whenStarted fun u => u.takeReady promotionFirst)

/-! ### Faults (R134) -/

/-- A drive fault declared: counted, and the stop command sent (R134). -/
def State.declareFault (s : State) : State :=
  State.count
    { s with engine := { s.engine with
        port := .stopping
        phaseDeadline := none
        faults := min 3 (s.engine.faults + 1)
        commands := [.stop] } }
    .driveFaults

/-- READY_TIMEOUT (R134). -/
def execReadyTimeout (s : State) : Answer :=
  .next (s.onTimer s.engine.phaseDeadline fun t => if t.engine.port = .phase then t.declareFault else t)

/-- The stop command sent: at three faults in a row the engine is FAULTED, and the job is abandoned (R134). -/
def State.endStop (s : State) : State :=
  let idle := s.releasePort
  let judged := { idle with engine := { idle.engine with faulted := idle.engine.faulted || 3 ≤ idle.engine.faults } }
  match judged.engine.active with
  | none => judged
  | some a => judged.abandonActive a

/-- STOP_SENT (R134). -/
def execStopSent (dt : Nat) (s : State) : Answer :=
  let t := s.advance dt
  .next (t.whenStarted fun u => if u.engine.port = .stopping then u.endStop.finish else u)

/-! ### The suspend limit (R133) -/

/-- The instant at which a SUSPENDED job has been SUSPENDED for the suspend limit. -/
def State.suspendDeadline (s : State) : Option Nat :=
  s.engine.suspendedAt.map fun t => t + 1000 * s.loader.loaded.suspendLimit

/-- A SUSPENDED job abandoned at its limit (R133). -/
def State.endSuspension (s : State) : State :=
  match s.engine.active with
  | none => s
  | some a => if a.state = .suspended then (s.abandonActive a).finish else s

/-- SUSPEND_LIMIT_EXPIRY (R133). -/
def execSuspendLimitExpiry (s : State) : Answer :=
  .next (s.onTimer s.suspendDeadline State.endSuspension)

end Sys2Proof.Machine
end

