-- ==== Sys2Proof/Machine/SheetCommands.lean ====
section
/-! DEFINITION. The commands of the sheet store: OFFER_FRAME, SHEET_FRAME, OFFER_TIMER_EXPIRY, ASSEMBLY_TIMEOUT
and HOLDOFF_END (chapter 3). -/

namespace Sys2Proof.Machine

open Sys2Proof

/-! ### OFFER_FRAME (R56) -/

/-- A request where the store's own version for a day is newer than the listed one. -/
def State.answerDay (s : State) (slot : SlotIx) (day : Day) (listed : Version) : State :=
  if newerVersion ((s.sheets.slots.get slot).versionFor day) listed then s.requestPublication slot day else s

/-- One listing answered (R56). Which of its two requests, with its draw, comes first is open (R56, R162): it is the
command's operand (DESIGN CHOICE, assumption log 10). -/
def State.answerListing (nextFirst : Bool) (s : State) (l : Listing) : State :=
  match servedSlot s.loader.loaded l.tag with
  | none => s
  | some i =>
    if nextFirst then (s.answerDay i (s.clock.day + 1#16) l.next).answerDay i s.clock.day l.today
    else (s.answerDay i s.clock.day l.today).answerDay i (s.clock.day + 1#16) l.next

/-- An OFFER taken by the store (R56). -/
def State.takeOffer (s : State) (f : OfferFields) (nextFirst : Bool) : State :=
  if s.clock.timeValid ∧ f.day = s.clock.day then f.listings.foldl (State.answerListing nextFirst) s
  else s.count .offerOtherDay

/-- OFFER_FRAME (R56). -/
def execOfferFrame (turn : OfferTurn) (s : State) : Answer :=
  .next (s.onDispatch turn.dt .offer fun g t => t.takeOffer (readOffer g.body) turn.nextFirst)

/-! ### SHEET_FRAME (R46, R59) -/

/-- Whether a SHEET frame cancels a record: in HOLDOFF, for the frame's route and day, the frame's version the
same or newer (R59). -/
def suppresses (c : Loaded) (f : SheetFields) (p : Publication) : Bool :=
  (c.slots.get p.slot).tag = f.tag && p.day = f.day && !p.isSending &&
    (f.version = p.version || newerVersion f.version p.version)

/-- The publication list weighed against a SHEET frame (R59). -/
def State.weighPublications (s : State) (f : SheetFields) : State :=
  let kept := s.sheets.publications.filter fun p => !suppresses s.loader.loaded f p
  State.countMany { s with sheets := { s.sheets with publications := kept } } .publicationSuppressed
    (s.sheets.publications.length - kept.length)

/-- The form check of a fragment (R46). -/
def SheetFields.malformed (f : SheetFields) : Bool :=
  f.version = 0#16 || f.count < 1 || 12 < f.count || f.count ≤ f.index

/-- The acceptance checks in their order (R46). -/
def State.acceptFragment (s : State) (f : SheetFields) : State :=
  match servedSlot s.loader.loaded f.tag with
  | none => s.count .sheetUnserved
  | some i =>
    if f.malformed then s.count .sheetMalformed
    else if s.clock.timeValid = false ∨ heldDay s.clock.day f.day = false then s.count .sheetOutOfDay
    else if newerVersion f.version ((s.sheets.slots.get i).versionFor f.day) = false then s.count .sheetNotNewer
    else s.applyFragment i f

/-- A SHEET frame taken by the store: the publication list first, then the checks (R46). -/
def State.takeSheet (s : State) (f : SheetFields) : State := (s.weighPublications f).acceptFragment f

/-- SHEET_FRAME (R46). -/
def execSheetFrame (dt : Nat) (s : State) : Answer :=
  .next (s.onDispatch dt .sheet fun g t => t.takeSheet (readSheet g.body))

/-! ### Timers (R50, R54, R59) -/

/-- The offer timer restarted with a fresh draw (R54). -/
def State.restartOffers (s : State) : State :=
  { s.afterDraw with sheets := { s.sheets with
      offerTimer := some (s.after (s.jittered s.loader.loaded.offerInterval)) } }

/-- The OFFER an offer-timer expiry places, or the skip (R54, R55). -/
def State.offerPlace (s : State) : State :=
  if s.planner.energy = .dormant then s.count .offerSkipped
  else if s.clock.timeValid then ((s.count .offerBuilt).placeOffer s.offerFrameNow).settleRadio
  else s

/-- OFFER_TIMER_EXPIRY (R54). -/
def execOfferTimerExpiry (s : State) : Answer :=
  .next (s.onTimer s.sheets.offerTimer fun t => t.restartOffers.offerPlace)

/-- The last addition of a slot's COLLECTING assembly. -/
def SlotSheets.collectingSince (h : SlotSheets) : Option Nat :=
  h.assembly.bind fun a => if a.state = .collecting then some a.lastAddition else none

/-- The slot whose COLLECTING assembly has waited longest, the first of equals in slot order, with its last
addition. -/
def longestCollecting (v : Vector SlotSheets 6) : List SlotIx → Option (SlotIx × Nat)
  | [] => none
  | i :: rest =>
    match (v.get i).collectingSince, longestCollecting v rest with
    | none, best => best
    | some t, none => some (i, t)
    | some t, some (j, u) => if t ≤ u then some (i, t) else some (j, u)

/-- An assembly timed out (R50). -/
def State.timeOutAssembly (s : State) (i : SlotIx) : State :=
  State.count { s with sheets := s.sheets.setAssembly i none } .assemblyTimedOut

/-- ASSEMBLY_TIMEOUT (R50): of the COLLECTING assembly that runs out first. -/
def execAssemblyTimeout (s : State) : Answer :=
  .next (s.whenStarted fun u =>
    match longestCollecting u.sheets.slots allSlots with
    | none => u
    | some (i, t) => (u.advanceTo (t + 1000 * u.loader.loaded.assemblyTimeout)).timeOutAssembly i)

/-- The end of a record's holdoff. -/
def Publication.holdoffEnd (p : Publication) : Option Nat :=
  match p.state with
  | .holdoff t => some t
  | .sending => none

/-- The place and instant of the holdoff that ends first, the first of equals in list order. -/
def firstHoldoff : List Publication → Option (Nat × Nat)
  | [] => none
  | p :: rest =>
    match p.holdoffEnd, (firstHoldoff rest).map fun x => (x.1 + 1, x.2) with
    | none, best => best
    | some t, none => some (0, t)
    | some t, some (j, u) => if t ≤ u then some (0, t) else some (j, u)

/-- A HOLDOFF record becomes SENDING, its cursor as it stands (R59). -/
def State.releaseHoldoff (s : State) (place : Nat) : State :=
  { s with sheets := { s.sheets with
      publications := s.sheets.publications.modify place fun p => { p with state := .sending } } }

/-- HOLDOFF_END (R59): of the record whose holdoff ends first; the send side then arbitrates (R161). -/
def execHoldoffEnd (s : State) : Answer :=
  .next (s.whenStarted fun u =>
    match firstHoldoff u.sheets.publications with
    | none => u
    | some (place, t) => (((u.advanceTo t).releaseHoldoff place).arbitrate).settleRadio)

end Sys2Proof.Machine
end

