-- ==== Sys2Proof/Machine/TableCommands.lean ====
section
/-! DEFINITION. The commands of the departure table: PASS_FRAME, SIGHT_FRAME and REBUILD_COMPLETION (chapter 1). -/

namespace Sys2Proof.Machine

open Sys2Proof

/-- The entries of a table changed where they are one run, and those entries evaluated (R2, R26). -/
def State.changeEntry (s : State) (slot : SlotIx) (day : Day) (run : Nat) (f : Entry → Entry) : State :=
  let changed := s.table.entries.map fun e => if e.isRun slot day run then f e else e
  let r := evaluateWhere s.loader.loaded s.clock.day s.now (fun e => e.isRun slot day run)
    { s.table with entries := changed } s.counters
  { s with table := r.1, counters := r.2 }

/-! ### PASS_FRAME (R14 to R17, R29) -/

/-- The table's entry for a PASS frame: its slot, a day D−1, D or D+1, its run number (R14). -/
def State.passEntry (s : State) (slot : SlotIx) (p : PassFields) : Option Entry :=
  if dayOffset s.clock.day p.day = -1 ∨ dayOffset s.clock.day p.day = 0 ∨ dayOffset s.clock.day p.day = 1 then
    s.table.entries.find? fun e => e.isRun slot p.day p.run
  else none

/-- The observation a PASS frame brings, its delay clamped and its time on the timeline (R14). -/
def passObservation (day : Day) (p : PassFields) : Observation where
  kind := .pass
  stop := p.stop
  delay := clampDelay p.delay
  time := p.time + 86400 * dayOffset day p.day

/-- Whether a report advances an entry that holds an observation, or none (R16). -/
def advancesOver (held : Option Observation) (o : Observation) : Bool :=
  match held with
  | none => true
  | some h => h.stop < o.stop || (o.stop = h.stop && h.time < o.time)

/-- The relay of an advancing report with hops left (R17). -/
def State.relayPass (s : State) (p : PassFields) : State :=
  if 0 < p.hops then
    s.placeRelay (passFrame { p with delay := clampDelay p.delay, hops := p.hops - 1 })
  else s

/-- A removal by a report from this stop or beyond (R15). -/
def State.removeDownstream (s : State) (slot : SlotIx) (p : PassFields) : State :=
  (s.takeOut fun e => e.isRun slot p.day p.run).count .downstreamRemoval

/-- A report from before this stop weighed against its entry (R16, R28, R29): the entry's own stale observation
is dropped first, and its shown minutes with it (R36). -/
def State.weighPass (s : State) (slot : SlotIx) (p : PassFields) (e : Entry) : State :=
  let c := s.loader.loaded
  let o := passObservation s.clock.day p
  let held := (e.dropStale c s.now).observation
  let counted := if e.stale c s.now then s.count .observationExpired else s
  if staleObservation c s.now o || !advancesOver held o then
    let weighed := counted.count .passNotAdvancing
    if e.stale c s.now then weighed.changeEntry slot p.day p.run (Entry.dropStale c s.now) else weighed
  else
    ((counted.count .passAdvanced).changeEntry slot p.day p.run fun x =>
      { x.dropStale c s.now with observation := some o }).relayPass p

/-- A PASS frame of a served route (R14 to R16). -/
def State.takeServedPass (s : State) (slot : SlotIx) (p : PassFields) : State :=
  match s.passEntry slot p with
  | none => s.count .passUnmatched
  | some e =>
    if (s.loader.loaded.slots.get slot).stopIndex ≤ p.stop then s.removeDownstream slot p
    else if e.state = .atStop then s.count .passUnmatched
    else s.weighPass slot p e

/-- A PASS frame taken by the table (R14). -/
def State.takePass (s : State) (p : PassFields) : State :=
  match servedSlot s.loader.loaded p.tag with
  | none => s.count .passUnmatched
  | some i => ((s.takeServedPass i p).composeAfter s.table.entries false).finish

/-- PASS_FRAME (R14). -/
def execPassFrame (dt : Nat) (s : State) : Answer :=
  .next (s.onDispatch dt .pass fun g t => t.takePass (readPass g.body))

/-! ### SIGHT_FRAME (R9 to R11, R29) -/

/-- Of some entries, the one with the smallest S, the first of equals. -/
def earliestScheduled : List Entry → Option Entry
  | [] => none
  | e :: rest =>
    match earliestScheduled rest with
    | none => some e
    | some x => if e.scheduled ≤ x.scheduled then some e else some x

/-- The slot of a sighting: enabled, with the frame's tag, its s the frame's q (R9). -/
def sightSlot (c : Loaded) (f : SightFields) : Option SlotIx :=
  (servedSlot c f.tag).filter fun i => (c.slots.get i).stopIndex = f.stop

/-- The entry a sighting is matched to (R9). -/
def State.sightEntry (s : State) (f : SightFields) : Option Entry :=
  (sightSlot s.loader.loaded f).bind fun i =>
    earliestScheduled (s.table.entries.filter fun e =>
      e.slot = i && e.run = f.run && heldDay s.clock.day e.day)

/-- The entry after an AT sighting (R10). -/
def Entry.sighted (stopIndex : Nat) (now : Int) (e : Entry) : Entry :=
  match e.state with
  | .atStop => { e with lastSight := some now }
  | .expected | .overdue =>
    { e with
      state := .atStop
      observation := some ⟨.sight, stopIndex, clampDelay (now - e.scheduled), now⟩
      lastSight := some now }

/-- A matched AT sighting (R10, R29): a stale observation is counted before it is replaced. -/
def State.takeAt (s : State) (e : Entry) : State :=
  let c := s.loader.loaded
  let counted := if e.stale c s.now then s.count .observationExpired else s
  (counted.count .sightingTaken).changeEntry e.slot e.day e.run
    (Entry.sighted (c.slots.get e.slot).stopIndex s.now)

/-- A matched LEAVING sighting (R11, R13). -/
def State.takeLeaving (s : State) (e : Entry) : State :=
  if e.state = .atStop then (s.takeOut fun x => x.isRun e.slot e.day e.run).reportDeparture e s.now
  else s.count .sightIgnored

/-- A SIGHT frame taken by the table (R9 to R11); a phase byte other than AT and LEAVING is ignored (R175). -/
def State.takeSight (s : State) (f : SightFields) : State :=
  match s.sightEntry f with
  | none => s.count .sightIgnored
  | some e =>
    if f.phase = 0 then ((s.takeAt e).composeAfter s.table.entries false).finish
    else if f.phase = 1 then ((s.takeLeaving e).composeAfter s.table.entries false).finish
    else s.count .sightIgnored

/-- SIGHT_FRAME (R9). -/
def execSightFrame (dt : Nat) (s : State) : Answer :=
  .next (s.onDispatch dt .sight fun g t => t.takeSight (readSight g.body))

/-! ### REBUILD_COMPLETION (R21) -/

/-- REBUILD_COMPLETION (R21): the table's changes with the closing fill pass and the next waiting assembly's commit
(R51) in the order chosen (DESIGN CHOICE, assumption log 10), and the composition they cause. The commit comes before
the dispatcher can hand on a held head (R154): a further choice of the model, assumption log 38. -/
def execRebuildCompletion (ending : RebuildEnd) (s : State) : Answer :=
  let t := s.advance ending.dt
  .next (t.whenStarted fun u =>
    match u.table.rebuild with
    | none => u
    | some r => (((u.completeRebuild r).fillAndCommit ending.commitFirst).composeAfter u.table.entries false).finish)

end Sys2Proof.Machine
end

