-- ==== Sys2Proof/Machine/NoticeCommands.lean ====
section
/-! DEFINITION. The command of the notice store: NOTICE_FRAME (5.8). -/

namespace Sys2Proof.Machine

open Sys2Proof

/-! ### The checks (R86) -/

/-- The scope a frame's bytes name, once the form check has passed; a route tag is the low 12 bits (R175). -/
def NoticeFields.scopeOf (f : NoticeFields) : Scope :=
  if f.scope = 1 then .route (f.scopeId % 4096)
  else if f.scope = 2 then .stop (BitVec.ofNat 16 f.scopeId)
  else .all (BitVec.ofNat 16 f.scopeId)

/-- The form check (R86). -/
def NoticeFields.malformed (f : NoticeFields) : Bool :=
  2 < f.scope || 1 < f.priority || (f.scope = 1 && f.scopeId % 4096 = 0) || 86399 < f.expirySecond || 15 < f.hops

/-- The scope check (R86). -/
def inScope (c : Loaded) : Scope → Bool
  | .all _ => true
  | .route tag => (servedSlot c tag).isSome
  | .stop id => id = c.stopId

/-- The notice a frame carries, its text cut to 30 codes (R86). -/
def NoticeFields.notice (f : NoticeFields) : Notice where
  origin := f.origin
  serial := f.serial
  scope := f.scopeOf
  urgent := f.priority = 1
  expiryDay := f.expiryDay
  expirySecond := f.expirySecond
  text := f.text.take 30

/-- The place of the stored notice of an origin (R85). -/
def originPlace (ns : List Notice) (origin : StopId) : Option Nat := placeWhere (fun n => n.origin = origin) ns

/-- Whether the newness check refuses a serial: the store holds a notice of the origin that it is not newer
than (R86, R87). -/
def notNewer (ns : List Notice) (origin : StopId) (serial : Byte) : Bool :=
  ns.any fun n => n.origin = origin && !newerSerial serial n.serial

/-- The first check of R86 a frame fails, as its counter. -/
def State.noticeRefusal (s : State) (f : NoticeFields) : Option Counter :=
  if f.malformed then some .noticeMalformed
  else if s.clock.timeValid = false then some .noticeOutOfDay
  else if inScope s.loader.loaded f.scopeOf = false then some .noticeOutOfScope
  else if f.notice.expired s.clock.day s.now then some .noticeOutOfDay
  else if notNewer s.board.notices f.origin f.serial then some .noticeNotNewer
  else none

/-! ### Storing (R87 to R89) -/

/-- The relay of a stored notice with hops left (R89). -/
def State.relayNotice (s : State) (n : Notice) (hops : Nat) : State :=
  if 0 < hops then (s.count .noticeRelayed).placeRelay (noticeFrame n (hops - 1)) else s

/-- An eviction and the store of the URGENT notice after it, settled as one change of the store: the notice at
`place` leaves, the new one is last (R88, R91, R93). -/
def State.evictNotice (s : State) (place : Nat) (n : Notice) : State :=
  let ns := s.board.notices.eraseIdx place ++ [n]
  let kept := s.board.current.bind fun i =>
    if i = place then none else if place < i then some (i - 1) else some i
  let next := settledCurrent ns s.board.current.isSome kept place
  s.setNotices ns next (kept.isSome && next = kept)

/-- A notice of a new origin (R87, R88). -/
def State.storeNew (s : State) (n : Notice) (hops : Nat) : State :=
  if s.board.notices.length < Config.noticeCapacity then
    ((s.appendNotice n).count .noticeStored).relayNotice n hops
  else if n.urgent then
    match evictionPlace s.clock.day s.board.notices with
    | some place => (((s.evictNotice place n).count .noticeEvicted).count .noticeStored).relayNotice n hops
    | none => s.count .noticeDiscarded
  else s.count .noticeDiscarded

/-- A notice that has passed the checks (R87): in place of the one of its origin, or new. -/
def State.storeNotice (s : State) (n : Notice) (hops : Nat) : State :=
  match originPlace s.board.notices n.origin with
  | some i => ((s.replaceNotice i n).count .noticeReplaced).relayNotice n hops
  | none => s.storeNew n hops

/-- The count of a text of 31 codes (R86). -/
def State.countTruncation (s : State) (f : NoticeFields) : State :=
  if 30 < f.text.length then s.count .noticeTruncated else s

/-- A NOTICE frame taken by the composer (R86 to R89), with the composition its change of the store calls for
(R77). -/
def State.takeNotice (s : State) (f : NoticeFields) : State :=
  match s.noticeRefusal f with
  | some c => s.count c
  | none => (((s.countTruncation f).storeNotice f.notice f.hops).compose).finish

/-- NOTICE_FRAME (R86). -/
def execNoticeFrame (dt : Nat) (s : State) : Answer :=
  .next (s.onDispatch dt .notice fun g t => t.takeNotice (readNotice g.body))

end Sys2Proof.Machine
end

