-- ==== Sys2Proof/Machine/Service.lean ====
section
/-! DEFINITION. The service responder: the payload of every page of every query code, written from one snapshot
(R173, R176). -/

namespace Sys2Proof.Machine

open Sys2Proof

/-! ### Field forms (R176) -/

/-- A flag: 1 when true, set or active. -/
def flagByte (b : Bool) : List Byte := [if b then 1#8 else 0#8]

/-- An unsigned quantity in `n` bytes, all ones where it is absent. -/
def optBytes (n : Nat) : Option Nat → List Byte
  | none => List.replicate n 0xFF#8
  | some v => bytesOf n v

/-- A signed timeline value in 4 bytes. -/
def timelineBytes (v : Int) : List Byte := bytesOfInt 4 v

/-- A signed timeline value in 4 bytes, 0x80000000 where it is absent. -/
def optTimeline : Option Int → List Byte
  | none => [0x80#8, 0#8, 0#8, 0#8]
  | some v => timelineBytes v

/-- Whole seconds from an instant to the snapshot, in 4 bytes. -/
def secondsSince (s : State) (t : Option Nat) : List Byte :=
  optBytes 4 (t.map fun x => (s.elapsed - x) / 1000)

def Energy.code : Energy → Nat
  | .ample => 0
  | .lean => 1
  | .scarce => 2
  | .dormant => 3

def Band.code : Band → Nat
  | .frozen => 0
  | .b1 => 1
  | .b2 => 2
  | .b3 => 3
  | .b4 => 4
  | .hot => 5
  | .unknown => 6

def ReceiveMode.code : ReceiveMode → Nat
  | .listen => 0
  | .doze => 1
  | .sniff => 2

def ConfigSource.code : ConfigSource → Nat
  | .image => 0
  | .absent => 1
  | .rejected => 2

def EntryState.code : EntryState → Nat
  | .expected => 0
  | .overdue => 1
  | .atStop => 2

def ObservationKind.code : ObservationKind → Nat
  | .sight => 1
  | .pass => 2

def Condition.code : Condition → Nat
  | .settled => 0
  | .unsettled => 1
  | .unknown => 2

def JobKind.code : JobKind → Nat
  | .normal => 0
  | .park => 1

def Mode.code : Mode → Nat
  | .partialMode => 0
  | .clearing => 1

def ActiveState.code : ActiveState → Nat
  | .running => 1
  | .suspended => 2

def PanelPort.code : PanelPort → Nat
  | .idle => 0
  | .loading => 1
  | .phase => 2
  | .reading => 3
  | .stopping => 4

def AssemblyState.code : AssemblyState → Nat
  | .collecting => 1
  | .complete => 2

/-! ### STATUS -/

/-- The presence byte, number, kind, lines, mode and cost of a job record; all 0 where it is absent. -/
def jobBytes : Option Job → List Byte
  | none => List.replicate 10 0#8
  | some j =>
    [1#8] ++ bytesOf 1 j.number.toNat ++ bytesOf 1 j.kind.code ++ bytesOf 1 j.first ++ bytesOf 1 j.last ++
      bytesOf 1 j.mode.code ++ bytesOf 4 j.cost

/-- STATUS page 0: clock, energy account, receive mode, configuration. -/
def statusPage0 (s : State) : List Byte :=
  flagByte s.clock.timeValid ++ bytesOf 2 s.clock.day.toNat ++ bytesOf 3 s.clock.second ++
    bytesOf 1 s.clock.stratum ++ secondsSince s s.clock.lastAdoption ++ bytesOf 1 s.planner.energy.code ++
    optBytes 2 s.planner.voltage ++ bytesOf 4 s.planner.available ++ bytesOf 4 s.planner.parkThreshold ++
    bytesOf 4 s.planner.leanThreshold ++ flagByte s.planner.boardParked ++ bytesOf 1 s.rx.mode.code ++
    bytesOf 1 s.loader.source.code ++ bytesOf 4 (s.counter .configurationClamp)

/-- STATUS page 1: sensing. -/
def statusPage1 (s : State) : List Byte :=
  bytesOf 1 s.sense.history.length ++
    ([0, 1, 2].flatMap fun i => optBytes 2 s.sense.history[i]?) ++
    flagByte s.sense.storeLow ++ bytesOfInt 1 (s.sense.temperature.getD 0) ++
    flagByte s.sense.temperature.isSome ++ bytesOf 1 s.sense.band.code ++ bytesOf 1 s.sense.failures

/-- The sweep flags as a number, bit n for line n. -/
def sweepBits (v : Vector Bool 10) : Nat := (allLines.map fun n => if v.get n then 2 ^ n.val else 0).sum

/-- STATUS page 2: the staged job and the planner. -/
def statusPage2 (s : State) : List Byte :=
  jobBytes s.planner.staged ++ flagByte s.planner.hold ++ flagByte s.planner.halt.isSome ++
    bytesOf 1 ((s.planner.halt.map (·.toNat)).getD 0) ++ bytesOf 2 (sweepBits s.planner.sweep) ++
    bytesOf 1 s.planner.nextJob.toNat

/-- Latched band, phase index and state of the active job; all 0 where there is none. -/
def activeBytes : Option ActiveJob → List Byte
  | none => List.replicate 3 0#8
  | some a => bytesOf 1 a.band.code ++ bytesOf 1 a.job.phaseIndex ++ bytesOf 1 a.state.code

/-- STATUS page 3: the active job and the engine. -/
def statusPage3 (s : State) : List Byte :=
  jobBytes (s.engine.active.map (·.job)) ++ activeBytes s.engine.active ++ bytesOf 1 s.engine.port.code ++
    flagByte s.engine.freshHold ++ bytesOf 1 s.engine.faults ++ flagByte s.engine.faulted ++
    flagByte s.engine.readRequest

/-! ### ENTRIES, LINES, SHEETS, METER -/

/-- The observation of an entry: its kind byte, then k, d and t, written as 0 where it is absent. -/
def observationBytes : Option Observation → List Byte
  | none => List.replicate 8 0#8
  | some o => bytesOf 1 o.kind.code ++ bytesOf 1 o.stop ++ bytesOfInt 2 o.delay ++ timelineBytes o.time

/-- An ENTRIES page. -/
def entryPage (e : Entry) : List Byte :=
  bytesOf 1 (e.slot.val + 1) ++ bytesOf 2 e.day.toNat ++ bytesOf 2 e.run ++ bytesOf 3 e.origin ++
    bytesOf 1 (e.terminal.getD 0) ++ timelineBytes e.scheduled ++ observationBytes e.observation ++
    timelineBytes e.predicted ++ bytesOf 1 e.state.code ++ optTimeline e.lastSight ++ optBytes 2 e.shown

/-- A LINES page of a line record with its sweep flag. -/
def linePage (s : State) (r : LineRecord) (sweep : Bool) : List Byte :=
  flagByte r.glass.isSome ++ r.glass.getD (List.replicate 32 0#8) ++ bytesOf 1 r.ghost ++
    bytesOf 1 r.condition.code ++ secondsSince s r.dirtySince ++ flagByte sweep

/-- Day, version and run count of a sheet position; 0 where it holds none. -/
def sheetBytes : Option Sheet → List Byte
  | none => List.replicate 5 0#8
  | some sh => bytesOf 2 sh.day.toNat ++ bytesOf 2 sh.version.toNat ++ bytesOf 1 sh.runs.length

/-- The received set of an assembly as a number, bit i for index i. -/
def receivedBits (a : Assembly) : Nat := (a.fragments.map fun f => 2 ^ f.1).sum

/-- The assembly of a slot; all 0 where there is none. -/
def assemblyBytes : Option Assembly → List Byte
  | none => List.replicate 8 0#8
  | some a =>
    bytesOf 1 a.state.code ++ bytesOf 2 a.day.toNat ++ bytesOf 2 a.version.toNat ++ bytesOf 1 a.count ++
      bytesOf 2 (receivedBits a)

/-- A SHEETS page of an enabled slot. -/
def slotPage (s : State) (i : SlotIx) : List Byte :=
  let h := s.sheets.slots.get i
  bytesOf 2 (s.loader.loaded.slots.get i).tag ++ sheetBytes (h.forDay s.clock.day) ++
    sheetBytes (h.forDay (s.clock.day + 1#16)) ++ assemblyBytes h.assembly

/-- The scope id of a notice; a notice of scope ALL has none (R85). -/
def Scope.id : Scope → Option Nat
  | .all _ => none
  | .route tag => some tag
  | .stop id => some id.toNat

/-- A SHEETS page of a notice store place. -/
def noticePage (n : Notice) (current : Bool) : List Byte :=
  bytesOf 2 n.origin.toNat ++ bytesOf 1 n.serial.toNat ++
    bytesOf 1 (n.scope.code + (if n.urgent then 4 else 0) + (if current then 8 else 0) +
      16 * (n.expirySecond / 65536 % 2)) ++
    optBytes 2 n.scope.id ++ bytesOf 2 n.expiryDay.toNat ++ bytesOf 2 (n.expirySecond % 65536) ++ n.text

/-- A METER page: ten counters in the order of R176. -/
def meterPage (s : State) (p : Nat) : List Byte :=
  ((s.counters.toList.drop (10 * p)).take 10).flatMap fun v => bytesOf 4 v

/-! ### Pages (R173) -/

/-- The payload of a STATUS page. -/
def statusPayload (s : State) : Nat → List Byte
  | 0 => statusPage0 s
  | 1 => statusPage1 s
  | 2 => statusPage2 s
  | 3 => statusPage3 s
  | _ => []

/-- The payload of a LINES page. -/
def linesPayload (s : State) (p : Nat) : List Byte :=
  if h : p < 10 then s.board.targets.get ⟨p, h⟩
  else if h : p - 10 < 10 then
    linePage s (s.engine.lines.get ⟨p - 10, h⟩) (s.planner.sweep.get ⟨p - 10, h⟩)
  else []

/-- The payload of a SHEETS page. -/
def sheetsPayload (s : State) (p : Nat) : List Byte :=
  if h : p < 6 then
    if (s.loader.loaded.slots.get ⟨p, h⟩).enabled then slotPage s ⟨p, h⟩ else []
  else if p < 10 then
    match s.board.notices[p - 6]? with
    | some n => noticePage n (s.board.current = some (p - 6))
    | none => []
  else []

/-- The payload of a page of a code; empty where R173 calls the page absent. -/
def payload (s : State) (code page : Nat) : List Byte :=
  match code with
  | 1 => statusPayload s page
  | 2 => (s.table.entries[page]?.map entryPage).getD []
  | 3 => linesPayload s page
  | 4 => sheetsPayload s page
  | 5 => if page < 12 then meterPage s page else []
  | _ => []

/-- Whether a code names one of the five (R172). -/
def queryCode (code : Nat) : Bool := 1 ≤ code && code ≤ 5

end Sys2Proof.Machine
end

