-- ==== Sys2Proof/Machine/ServiceCommands.lean ====
section
/-! DEFINITION. The command of the service responder: QUERY_FRAME (10.3). -/

namespace Sys2Proof.Machine

open Sys2Proof

/-- A query taken: counted, its page written from the state as it stands at that moment, the REPLY placed in
the reply slot (R172, R173). The snapshot holds the count of the query itself (assumption log 19). -/
def State.answerQuery (s : State) (q : QueryFields) : State :=
  let taken := s.count .queryTaken
  taken.placeReply (replyFrame q (payload taken q.code q.page))

/-- A QUERY judged by the responder (R172). -/
def State.takeQuery (s : State) (q : QueryFields) : State :=
  if queryCode q.code = false then s.count .queryMalformed
  else if q.target ≠ s.loader.loaded.stopId then s.count .queryOtherStop
  else if s.tx.reply.isSome then s.count .queryBusy
  else (s.answerQuery q).settleRadio

/-- QUERY_FRAME (R172). -/
def execQueryFrame (dt : Nat) (s : State) : Answer :=
  .next (s.onDispatch dt .query fun g t => t.takeQuery (readQuery g.body))

end Sys2Proof.Machine
end

