-- ==== Sys2Proof/Machine/Dispatch.lean ====
section
/-! DEFINITION. The meaning of every command: one arm for each constructor of `Instr`. -/

namespace Sys2Proof.Machine

open Sys2Proof

def exec (i : Instr) (s : State) : Host.Outcome State Fault Refusal :=
  match i with
  | .nporRelease => Sys2Proof.Machine.execNporRelease s
  | .configurationAbsent dt node => Sys2Proof.Machine.execConfigurationAbsent dt node s
  | .configurationReadComplete dt node image => Sys2Proof.Machine.execConfigurationReadComplete dt node image s
  | .character dt sample1 sample2 sample3 => Sys2Proof.Machine.execCharacter dt sample1 sample2 sample3 s
  | .idle dt => Sys2Proof.Machine.execIdle dt s
  | .clockFrame dt offerFirst passFirst => Sys2Proof.Machine.execClockFrame dt offerFirst passFirst s
  | .offerFrame turn => Sys2Proof.Machine.execOfferFrame turn s
  | .sheetFrame dt => Sys2Proof.Machine.execSheetFrame dt s
  | .passFrame dt => Sys2Proof.Machine.execPassFrame dt s
  | .sightFrame dt => Sys2Proof.Machine.execSightFrame dt s
  | .noticeFrame dt => Sys2Proof.Machine.execNoticeFrame dt s
  | .queryFrame dt => Sys2Proof.Machine.execQueryFrame dt s
  | .replyDiscarded dt => Sys2Proof.Machine.execReplyDiscarded dt s
  | .rebuildCompletion ending => Sys2Proof.Machine.execRebuildCompletion ending s
  | .countedSecond pass sweep => Sys2Proof.Machine.execCountedSecond pass sweep s
  | .agingTimerExpiry => Sys2Proof.Machine.execAgingTimerExpiry s
  | .beaconTimerExpiry => Sys2Proof.Machine.execBeaconTimerExpiry s
  | .offerTimerExpiry => Sys2Proof.Machine.execOfferTimerExpiry s
  | .assemblyTimeout => Sys2Proof.Machine.execAssemblyTimeout s
  | .holdoffEnd => Sys2Proof.Machine.execHoldoffEnd s
  | .scanTimerExpiry => Sys2Proof.Machine.execScanTimerExpiry s
  | .scanCompletion dt counts => Sys2Proof.Machine.execScanCompletion dt counts s
  | .storeLowActive change => Sys2Proof.Machine.execStoreLowActive change s
  | .storeLowInactive change => Sys2Proof.Machine.execStoreLowInactive change s
  | .temperatureTimerExpiry => Sys2Proof.Machine.execTemperatureTimerExpiry s
  | .temperatureAnswer dt value => Sys2Proof.Machine.execTemperatureAnswer dt value s
  | .readTimeout => Sys2Proof.Machine.execReadTimeout s
  | .loadStepEnd dt => Sys2Proof.Machine.execLoadStepEnd dt s
  | .ready dt promotionFirst => Sys2Proof.Machine.execReady dt promotionFirst s
  | .readyTimeout => Sys2Proof.Machine.execReadyTimeout s
  | .stopSent dt => Sys2Proof.Machine.execStopSent dt s
  | .suspendLimitExpiry => Sys2Proof.Machine.execSuspendLimitExpiry s
  | .quietTimerExpiry => Sys2Proof.Machine.execQuietTimerExpiry s
  | .sniffTimerExpiry => Sys2Proof.Machine.execSniffTimerExpiry s
  | .windowClose => Sys2Proof.Machine.execWindowClose s
  | .carrierDetectRise dt => Sys2Proof.Machine.execCarrierDetectRise dt s
  | .carrierQuiet dt => Sys2Proof.Machine.execCarrierQuiet dt s
  | .backoffSlot dt => Sys2Proof.Machine.execBackoffSlot dt s
  | .frameSent dt => Sys2Proof.Machine.execFrameSent dt s
  | .frameAbandoned => Sys2Proof.Machine.execFrameAbandoned s
  | .nporAsserted => Sys2Proof.Machine.execNporAsserted s

end Sys2Proof.Machine
end

