-- ==== Sys2Proof/Safety.lean ====
section
/-! DEFINITION. What the spec says of the part in every state: the laws that each step keeps. Each is a predicate
on states in the terms the claims use. -/

namespace Sys2Proof.Machine

open Sys2Proof

/-- The capacities of the part's lists (R1, R57, R85, R140, R151, R153, R160). -/
def State.Bounded (s : State) : Prop :=
  s.table.entries.length ≤ 48 ∧ s.rx.queue.length ≤ 4 ∧ s.rx.buffer.length ≤ 48 ∧ s.tx.relay.length ≤ 8 ∧
    s.sheets.publications.length ≤ 2 ∧ s.board.notices.length ≤ 4 ∧ s.sense.history.length ≤ 3

/-- The lengths a body of each kind may have (R150). -/
def bodyLengths : Kind → List Nat
  | .clock => [8]
  | .offer => [5, 11, 17, 23, 29, 35, 41]
  | .sheet => [9, 14, 19, 24, 29, 34, 39, 44]
  | .pass => [15]
  | .sight => [8]
  | .notice => (List.range 32).map (14 + ·)
  | .query => [6]
  | .reply => (List.range 41).map (4 + ·)

/-- Every frame of the receive queue has a body of a length its kind may have (R150, R152). -/
def State.QueueFits (s : State) : Prop :=
  ∀ g ∈ s.rx.queue, g.body.length ∈ bodyLengths (headerKind g.header)

/-- The ranges of five numbers the chapters' tables give (chapter 4: X, stratum; chapter 7: fault count; chapter
8: read failure count; chapter 9: LFSR). The clock's phase is not among them: it may pass 999 while a counted second
is due (assumption log 2). -/
def State.InRange (s : State) : Prop :=
  s.clock.second < 86400 ∧ s.clock.stratum ≤ 7 ∧ s.engine.faults ≤ 3 ∧ s.sense.failures ≤ 3 ∧ s.tx.lfsr ≠ 0#16

/-- Every counter is at or below the maximum at which counters stop (00_scope, Counters). -/
def State.CountersInRange (s : State) : Prop := ∀ k, s.counter k ≤ 4294967295

/-- No entry of a slot has a scheduled time greater than the slot's fill mark (R4). -/
def State.MarksCover (s : State) : Prop := ∀ e ∈ s.table.entries, e.scheduled ≤ s.table.marks.get e.slot

/-- No two entries are of one slot, service day and run number (R1). -/
def State.OneEntryEach (s : State) : Prop :=
  s.table.entries.Pairwise fun a b => ¬ (a.slot = b.slot ∧ a.day = b.day ∧ a.run = b.run)

/-- An entry's observed delay is at most its clamp, and its P lies between S − E and S + 5,400 (R31). -/
def predictionInRange (early : Nat) (e : Entry) : Prop :=
  (∀ o, e.observation = some o → o.delay ≤ 5400) ∧
    e.scheduled - early ≤ e.predicted ∧ e.predicted ≤ e.scheduled + 5400

/-- Every entry's predicted time is in range (R31); before the blocks start the table is empty (R3). -/
def State.PredictionsInRange (s : State) : Prop :=
  (∀ e ∈ s.table.entries, predictionInRange s.loader.loaded.early e) ∧
    (s.loader.state = .reading → s.table.entries = [])

/-- A job is CLEARING, or the ghost counts of all its lines are below a limit (R119). -/
def ghostRoom (limit : Nat) (lines : Vector LineRecord 10) (j : Job) : Prop :=
  j.mode = .clearing ∨ ∀ n : Fin 10, j.contains n.val = true → (lines.get n).ghost < limit

/-- No line's ghost count exceeds the ghost limit, and a PARTIAL job is active only over lines whose ghost count
is below it (R119); before the blocks start no line has one and no job is active (R118). -/
def State.GhostsInRange (s : State) : Prop :=
  (∀ n : Fin 10, (s.engine.lines.get n).ghost ≤ s.loader.loaded.ghostLimit) ∧
    (∀ a, s.engine.active = some a → ghostRoom s.loader.loaded.ghostLimit s.engine.lines a.job) ∧
    (s.loader.state = .reading → s.engine.active = none ∧ ∀ n : Fin 10, (s.engine.lines.get n).ghost = 0)

/-- No line belongs both to the staged and to the active job (R103). -/
def State.JobsApart (s : State) : Prop :=
  ∀ j a, s.planner.staged = some j → s.engine.active = some a →
    ∀ n : Fin 10, ¬ (j.contains n.val = true ∧ a.job.contains n.val = true)

/-- In DORMANT the staged slot holds no job but the PARK job (R111). -/
def State.DormantStagesPark (s : State) : Prop :=
  s.planner.energy = .dormant → ∀ j, s.planner.staged = some j → j.kind = .park

/-- The active job's latched band is a drive band (R120, R122). -/
def State.ActiveInDriveBand (s : State) : Prop := ∀ a, s.engine.active = some a → a.band.drive = true

/-- The active job is SUSPENDED exactly while there is a suspension instant (chapter 7, first table; R130). -/
def State.SuspensionMarked (s : State) : Prop :=
  s.engine.suspendedAt.isSome = true ↔ ∃ a, s.engine.active = some a ∧ a.state = .suspended

/-- The panel port's outstanding commands and deadlines go with its state (R123, R126, R136). -/
def State.PortSound (s : State) : Prop :=
  (s.engine.port = .idle ↔ s.engine.commands = []) ∧
    (s.engine.port = .phase ↔ s.engine.phaseDeadline.isSome = true) ∧
    (s.engine.port = .reading ↔ s.engine.readDeadline.isSome = true)

/-- The send side holds a granted frame exactly outside IDLE, and has characters on the line exactly in SENDING
(R161, R165). -/
def State.SendSound (s : State) : Prop :=
  (s.tx.state = .idle ↔ s.tx.granted = none) ∧ (s.tx.state = .sending ↔ s.tx.line ≠ [])

/-- Radio power is on only where the mode, a window, the send side or a sniff timer that has run out asks for it (the
last by assumption log 22), and in LISTEN and DOZE it is on from the blocks' start, before which no window stands; a
held window has its frame in ASSEMBLE; windows stand in SNIFF only; a part that sends is in HUNT; and SNIFF is the mode
of DORMANT, with no quiet timer (R155, R157, R158, R167). -/
def State.RadioSound (s : State) : Prop :=
  (s.rx.radio = true → s.radioWanted = true) ∧
    (s.started = true → s.rx.mode ≠ .sniff → s.rx.radio = true) ∧ (s.rx.window = .held → s.rx.state = .assemble) ∧
    (s.rx.window ≠ .closed → s.rx.mode = .sniff) ∧ (s.loader.state = .reading → s.rx.window = .closed) ∧
    (s.tx.state = .sending → s.rx.state = .hunt) ∧
    (s.rx.mode = .sniff → s.planner.energy = .dormant ∧ s.rx.quietTimer = none)

/-- A stored sheet has a nonzero version, at most 84 runs in ascending order and no run number twice (R44). -/
def sheetSound (sh : Sheet) : Prop :=
  sh.version ≠ 0#16 ∧ sh.runs.length ≤ 84 ∧ ascendingRuns sh.runs = true ∧ distinctRuns sh.runs = true

/-- Every stored sheet is sound, no slot holds two sheets for one day, and an assembly's fragment count is at
most 12 (R42, R44, R46). -/
def State.SheetsSound (s : State) : Prop :=
  ∀ i : SlotIx,
    (∀ sh ∈ (s.sheets.slots.get i).sheets, sheetSound sh) ∧
      ((s.sheets.slots.get i).sheets.map (·.day)).Nodup ∧
      (∀ a, (s.sheets.slots.get i).assembly = some a → a.count ≤ 12)

/-- The assemblies that wait are the COMPLETE ones, each once; and any wait only while a rebuild is in flight, which is
once time has become valid (R3, R47, R51). -/
def State.WaitingSound (s : State) : Prop :=
  s.sheets.waiting.Nodup ∧
    (∀ i, i ∈ s.sheets.waiting ↔ ∃ a, (s.sheets.slots.get i).assembly = some a ∧ a.state = .complete) ∧
    (s.sheets.waiting ≠ [] → s.table.rebuild ≠ none ∧ s.clock.timeValid = true)

/-- A store that holds notices has a current one, and the current notice is stored and eligible: URGENT, or any while
none is URGENT (R91). -/
def State.RotationSound (s : State) : Prop :=
  (s.board.notices ≠ [] → s.board.current ≠ none) ∧
    ∀ i, s.board.current = some i →
      ∃ n, s.board.notices[i]? = some n ∧ (n.urgent = true ∨ ∀ m ∈ s.board.notices, m.urgent = false)

/-- The part's blocks as power-on reset leaves them (the chapters' first tables; R167). -/
def State.AtPowerOn (s : State) : Prop :=
  s = { State.reset with
    pending := s.pending, elapsed := s.elapsed, loader := { State.loaderReset with released := s.loader.released } }

end Sys2Proof.Machine
end

