-- ==== Sys2Proof/Certificates/Slice0/Obligations.lean ====
section
/-! DEFINITION. The statements for the provers: what the rules of the spec say of each command, of the step and of
every state that a step keeps. -/

namespace Sys2Proof.Claims

open Sys2Proof Sys2Proof.Machine

/-! ### The words the statements are written in -/

/-- The parts of the state, the queue of waiting commands apart. -/
inductive Block where
  | elapsed | loader | clock | sheets | table | board | planner | engine | sense | rx | tx | counters
  deriving DecidableEq, Repr

/-- A part of the state is the same in two states. -/
def Block.Same : Block → State → State → Prop
  | .elapsed, s, t => t.elapsed = s.elapsed
  | .loader, s, t => t.loader = s.loader
  | .clock, s, t => t.clock = s.clock
  | .sheets, s, t => t.sheets = s.sheets
  | .table, s, t => t.table = s.table
  | .board, s, t => t.board = s.board
  | .planner, s, t => t.planner = s.planner
  | .engine, s, t => t.engine = s.engine
  | .sense, s, t => t.sense = s.sense
  | .rx, s, t => t.rx = s.rx
  | .tx, s, t => t.tx = s.tx
  | .counters, s, t => t.counters = s.counters

/-- The frame of a command: the waiting commands and every part of the state that is not listed are the same. -/
def OnlyChanges (bs : List Block) (s t : State) : Prop :=
  t.pending = s.pending ∧ ∀ b, b ∉ bs → b.Same s t

/-- The clock after `dt` ms in which no second was counted: the phase goes on while time is valid (R64). -/
def clockAfter (k : Clock) (dt : Nat) : Clock :=
  { k with phase := if k.timeValid then k.phase + dt else k.phase }

/-- `dt` ms have passed. -/
def Passes (dt : Nat) (s t : State) : Prop := t.elapsed = s.elapsed + dt ∧ t.clock = clockAfter s.clock dt

/-- The time left from now to an instant; 0 once it is reached. -/
def untilInstant (s : State) (instant : Nat) : Nat := instant - s.elapsed

/-- Of some counters, exactly the listed cases have been counted, one for each listing, each counter stopping at its
maximum; a counter's value is at most that maximum (00_scope, Counters; `CountersOnlyRise`). -/
def CountedOf (ks cs : List Counter) (s t : State) : Prop :=
  ∀ k ∈ ks, s.counter k ≤ 4294967295 → t.counter k = min (s.counter k + cs.count k) 4294967295

/-- Exactly the listed cases have been counted, and no counter but theirs has moved. -/
def Counted (cs : List Counter) (s t : State) : Prop :=
  ∀ k, s.counter k ≤ 4294967295 → t.counter k = min (s.counter k + cs.count k) 4294967295

/-- A frame of a kind stands at the head of the receive queue, not held, and the blocks have started. -/
def AtHead (k : Kind) (g : ReceivedFrame) (rest : List ReceivedFrame) (s : State) : Prop :=
  s.started = true ∧ s.rx.queue = g :: rest ∧ headerKind g.header = k ∧ s.headHeld = false

end Sys2Proof.Claims

open Sys2Proof Sys2Proof.Machine Sys2Proof.Claims

/-! ### The step -/

/-- The step takes the command at the front of the queue and runs it on the state with the queue's rest; on an empty
queue the part idles, which is the model's choice (assumption log 9). -/
def Obligations.StepRunsTheFrontCommand : Prop :=
  (∀ (c : Instr) (rest : List Instr) (s : State), s.pending = c :: rest →
    step s = exec c { s with pending := rest }) ∧
  ∀ s : State, s.pending = [] → step s = .next s

/-- No command meets a fault or a refusal, and none touches the commands that wait behind it. That NPOR_ASSERTED keeps
them too is the model's choice of assumption log 6, and that a command with an operand out of its range is answered as
well that of log 3. -/
def Obligations.ExecAnswersAndKeepsTheQueue : Prop :=
  ∀ (c : Instr) (s : State), ∃ t, exec c s = .next t ∧ t.pending = s.pending

/-- While the loader is READING, a command other than the release, the assertion and the read's two ends does nothing
but let time pass (R167; the model's choice of assumption log 6). And a dispatch command whose kind is not at the head
of the queue, or that meets a held head, does nothing but let time pass (R154; the model's choice of assumption log 7).
-/
def Obligations.CommandsOutOfPlaceDoNothing : Prop :=
  (∀ (c : Instr) (s : State), s.loader.state = .reading →
    (∀ dt node, c ≠ .configurationAbsent dt node) →
    (∀ dt node image, c ≠ .configurationReadComplete dt node image) →
    c ≠ .nporRelease → c ≠ .nporAsserted →
    ∃ t dt, exec c s = .next t ∧ OnlyChanges [.elapsed, .clock] s t ∧ Passes dt s t) ∧
  ∀ (s : State) (dt : Nat) (f p n : Bool) (k : Kind) (c : Instr),
    (k, c) ∈ [(Kind.clock, Instr.clockFrame dt f p), (.offer, .offerFrame ⟨dt, n⟩), (.sheet, .sheetFrame dt),
      (.pass, .passFrame dt), (.sight, .sightFrame dt), (.notice, .noticeFrame dt), (.query, .queryFrame dt),
      (.reply, .replyDiscarded dt)] →
    (∀ g rest, ¬ AtHead k g rest s) →
    ∃ t, exec c s = .next t ∧ OnlyChanges [.elapsed, .clock] s t ∧ Passes dt s t

/-- Once valid, time stays valid until the next power-on reset (R63). -/
def Obligations.TimeStaysValid : Prop :=
  ∀ (c : Instr) (s t : State), c ≠ .nporAsserted → s.clock.timeValid = true → exec c s = .next t →
    t.clock.timeValid = true

/-! ### What every step keeps -/

/-- The capacities of the part's lists are kept (R1, R57, R85, R140, R151, R153, R160); the receive queue holds only
frames whose bodies have a length of their kind (R150); and a store that holds notices has a current one, which is
stored and eligible (R91). -/
def Obligations.StepKeepsCapacities : Prop :=
  (∀ s t : State, s.Bounded → step s = .next t → t.Bounded) ∧
    (∀ s t : State, s.QueueFits → step s = .next t → t.QueueFits) ∧
    ∀ s t : State, s.RotationSound → step s = .next t → t.RotationSound

/-- The ranges of five numbers are kept: X, the stratum, the fault count, the read failure count and the LFSR; and no
ghost count exceeds the ghost limit (R119). The clock's phase is not among them: by assumption log 2 it may pass 999
while a counted second is due. -/
def Obligations.StepKeepsRanges : Prop :=
  (∀ s t : State, s.InRange → step s = .next t → t.InRange) ∧
    ∀ s t : State, s.GhostsInRange → step s = .next t → t.GhostsInRange

/-- Counters stop at their maximum, and none falls but at power-on reset (00_scope, Counters). -/
def Obligations.CountersOnlyRise : Prop :=
  ∀ (c : Instr) (s t : State), s.CountersInRange → exec c s = .next t →
    t.CountersInRange ∧ (c ≠ .nporAsserted → ∀ k, s.counter k ≤ t.counter k)

/-- No entry of a slot has a scheduled time greater than the slot's fill mark (R4); and the table never holds two
entries of one slot, service day and run number (R1), which for a pass that reads a new sheet before its rebuild rests
on assumption log 39. -/
def Obligations.StepKeepsFillMarks : Prop :=
  (∀ s t : State, s.MarksCover → step s = .next t → t.MarksCover) ∧
    ∀ s t : State, s.SheetsSound → s.OneEntryEach → step s = .next t → t.OneEntryEach

/-- Every entry's predicted time lies between S − E and S + 5,400 (R31). -/
def Obligations.StepKeepsPredictionsInRange : Prop :=
  ∀ s t : State, s.PredictionsInRange → step s = .next t → t.PredictionsInRange

/-- No line belongs both to the staged and to the active job (R103); in DORMANT nothing but the PARK job is staged
(R111); and the active job's band is a drive band (R120). -/
def Obligations.StepKeepsJobsApart : Prop :=
  (∀ s t : State, s.JobsApart → step s = .next t → t.JobsApart) ∧
    (∀ s t : State, s.DormantStagesPark → step s = .next t → t.DormantStagesPark) ∧
    ∀ s t : State, s.ActiveInDriveBand → step s = .next t → t.ActiveInDriveBand

/-- The suspension instant, the panel port's commands and deadlines, and the send side's granted frame and line go with
the states they belong to (R123, R126, R130, R136, R161, R165); so do radio power, the windows and the receive state:
in LISTEN and DOZE radio power is on, and in SNIFF only where a window, the send side or a sniff timer that has run out
asks for it, the last by assumption log 22; and before the blocks start no window stands (R157, R158, R167). -/
def Obligations.StepKeepsPortsSound : Prop :=
  (∀ s t : State, s.SuspensionMarked ∧ s.PortSound ∧ s.SendSound → step s = .next t →
    t.SuspensionMarked ∧ t.PortSound ∧ t.SendSound) ∧
    ∀ s t : State, s.RadioSound → step s = .next t → t.RadioSound

/-- Stored sheets stay sound (R42, R44); and the assemblies that wait are the COMPLETE ones, each once, and wait only
while a rebuild is in flight (R47, R51). -/
def Obligations.StepKeepsSheetsSound : Prop :=
  (∀ s t : State, s.SheetsSound → step s = .next t → t.SheetsSound) ∧
    ∀ s t : State, s.WaitingSound → step s = .next t → t.WaitingSound

/-- Every law above holds right after power-on reset. -/
def Obligations.ResetMeetsTheLaws : Prop :=
  State.reset.Bounded ∧ State.reset.QueueFits ∧ State.reset.RotationSound ∧ State.reset.InRange ∧
    State.reset.CountersInRange ∧ State.reset.MarksCover ∧ State.reset.OneEntryEach ∧
    State.reset.PredictionsInRange ∧ State.reset.GhostsInRange ∧ State.reset.JobsApart ∧
    State.reset.DormantStagesPark ∧ State.reset.ActiveInDriveBand ∧
    State.reset.SuspensionMarked ∧ State.reset.PortSound ∧ State.reset.SendSound ∧ State.reset.RadioSound ∧
    State.reset.SheetsSound ∧ State.reset.WaitingSound

/-! ### Start-up (chapter 10) -/

/-- The board at the blocks' start: the stop name, the standby text on line 1, blanks elsewhere (R79, R80, R83). -/
def Sys2Proof.Claims.startTargets (c : Loaded) : Vector Cells 10 :=
  let dark := List.replicate 32 32#8
  ⟨#[c.stopName ++ List.replicate 8 32#8, c.standby, dark, dark, dark, dark, dark, dark, dark, dark], rfl⟩

/-- From a part at power-on that reads its configuration, all blocks have started with loaded values `c` of a source
after `dt` ms, at a store voltage `node`; `cs` are the loader's own cases (R171, and the chapters' first tables). -/
def Sys2Proof.Claims.Started (dt node : Nat) (source : ConfigSource) (c : Loaded) (cs : List Counter)
    (s t : State) : Prop :=
  let e := s.elapsed + dt
  let low := decide (node < c.warning)
  t.pending = s.pending ∧ t.elapsed = e ∧ t.loader = ⟨true, .done, source, c⟩ ∧
    t.clock = State.clockReset ∧ t.sheets = State.sheetsReset ∧ t.table = State.tableReset ∧
    t.board = { State.boardReset with targets := startTargets c } ∧
    t.planner = State.plannerReset c ∧
    t.engine = { State.engineReset with
      lines := Vector.replicate 10 ⟨none, 0, .unknown, some e⟩
      port := .reading
      readDeadline := some (e + 20)
      commands := [.temperatureRead] } ∧
    t.sense = { State.senseReset with
      storeLow := low
      converting := true
      scanTimer := some (e + 1000 * c.scanPeriod)
      temperatureTimer := some (e + 1000 * c.temperaturePeriod) } ∧
    t.rx = { State.rxReset with radio := true } ∧
    t.tx = { State.txReset with lfsr := if c.stopId = 0#16 then 1#16 else c.stopId } ∧
    Counted (cs ++ (if low then [.storeLowActivation] else []) ++
      .boardRecomposed :: List.replicate 10 .targetChange) s t

/-- NPOR_RELEASE starts the configuration read and changes nothing else; NPOR_ASSERTED puts every block in its
power-on state with every counter at zero (R167). That the model's waiting commands stay is assumption log 6; that the
elapsed time starts again at 0 is log 15; the values of the registers to which the spec gives none are log 4's. -/
def Obligations.NporReleasesAndResets : Prop :=
  ∀ s : State,
    (∃ t, exec .nporRelease s = .next t ∧ OnlyChanges [.loader] s t ∧
      t.loader = { s.loader with released := true }) ∧
    ∃ t, exec .nporAsserted s = .next t ∧ t.AtPowerOn ∧ t.loader.released = false ∧ t.elapsed = 0 ∧
      t.pending = s.pending ∧ ∀ k, t.counter k = 0

/-- With an absent memory, or an image whose check fails, the blocks start on defaults; an image whose check passes
hands its values over (R168, R171). That the two commands bring the voltage the comparator meets as it is armed is
assumption log 32; the values of the registers to which the spec gives none are log 4's. That the read's two ends do
nothing but let time pass once the loader is DONE, and while NPOR is asserted, is the model's choice of log 6. -/
def Obligations.ConfigurationStartsTheBlocks : Prop :=
  (∀ (s : State) (dt node : Nat), s.AtPowerOn → s.loader.released = true →
    (∃ t, exec (.configurationAbsent dt node) s = .next t ∧
      Started dt node .absent Config.defaults [.configurationAbsent] s t) ∧
    ∀ image : List Byte, image.length = 512 →
      ∃ t, exec (.configurationReadComplete dt node image) s = .next t ∧
        if (crc (image.take 510)).toNat = 256 * (image.getD 510 0#8).toNat + (image.getD 511 0#8).toNat then
          Started dt node .image (loadImage image)
            (List.replicate (clampCount image) .configurationClamp ++
              List.replicate (disabledSlots image) .slotDisabled) s t
        else Started dt node .rejected Config.defaults [.configurationRejected] s t) ∧
  ∀ (s : State) (dt node : Nat) (image : List Byte),
    s.loader.state = .done ∨ s.loader.released = false →
    (∃ t, exec (.configurationAbsent dt node) s = .next t ∧ OnlyChanges [.elapsed, .clock] s t ∧ Passes dt s t) ∧
      ∃ t, exec (.configurationReadComplete dt node image) s = .next t ∧
        OnlyChanges [.elapsed, .clock] s t ∧ Passes dt s t

/-- The single numbers of the image: offset, bytes, lowest, highest, and where the loaded values hold them (11.4);
the AMPLE threshold and the warning voltage, which are settled as pairs, stand apart. -/
def Sys2Proof.Claims.imageNumbers : List (Nat × Nat × Nat × Nat × (Loaded → Nat)) :=
  [(0x002, 2, 0, 1439, (·.dayStart)), (0x150, 2, 900, 14400, (·.horizon)), (0x152, 2, 20, 300, (·.sightLoss)),
    (0x154, 1, 0, 15, (·.ttl)), (0x155, 1, 0, 30, (·.recovery)), (0x156, 2, 0, 300, (·.early)),
    (0x158, 2, 120, 3600, (·.trust)), (0x15A, 2, 30, 600, (·.grace)), (0x15C, 1, 0, 45, (·.hysteresis)),
    (0x15D, 1, 1, 15, (·.rotation)), (0x15E, 2, 30, 600, (·.assemblyTimeout)), (0x160, 2, 60, 3600, (·.offerInterval)),
    (0x162, 2, 60, 3600, (·.clockInterval)), (0x164, 1, 1, 255, (·.capacitance)), (0x165, 1, 1, 15, (·.ghostLimit)),
    (0x166, 2, 2000, 5000, (·.floorVoltage)), (0x168, 4, 0, 400000, (·.reserve)), (0x170, 4, 0, 400000, (·.lean)),
    (0x174, 2, 1, 4000, (·.partialCost.b1)), (0x176, 2, 1, 4000, (·.partialCost.b2)),
    (0x178, 2, 1, 4000, (·.partialCost.b3)), (0x17A, 2, 1, 4000, (·.partialCost.b4)),
    (0x17C, 2, 1, 4000, (·.clearingCost.b1)), (0x17E, 2, 1, 4000, (·.clearingCost.b2)),
    (0x180, 2, 1, 4000, (·.clearingCost.b3)), (0x182, 2, 1, 4000, (·.clearingCost.b4)),
    (0x184, 2, 0, 1439, (·.sweepMinute)), (0x186, 2, 60, 1800, (·.suspendLimit)),
    (0x188, 2, 20, 2000, (·.phaseDuration.b1)), (0x18A, 2, 20, 2000, (·.phaseDuration.b2)),
    (0x18C, 2, 20, 2000, (·.phaseDuration.b3)), (0x18E, 2, 20, 2000, (·.phaseDuration.b4)),
    (0x190, 1, 2, 60, (·.scanPeriod)), (0x191, 2, 30, 600, (·.temperaturePeriod)),
    (0x193, 2, 3000, 6600, (·.fullScale)), (0x197, 1, 5, 120, (·.quietInterval)), (0x198, 1, 4, 60, (·.sniffPeriod))]

/-- Every number of an accepted image is taken from its offset and moved into its range; Ta is at least Tl, and Vwarn
stands above Vf (R169, 11.4). A slot takes its values from its 46 bytes; it is enabled exactly where its tag is used,
carried by no earlier enabled slot, and its stop index is not above its terminal index; so enabled slots have distinct
tags (R170). -/
def Obligations.ImagesAreClampedAndSettled : Prop :=
  ∀ image : List Byte,
    (∀ x ∈ imageNumbers, x.2.2.2.2 (loadImage image) =
      max x.2.2.1 (min x.2.2.2.1 (field image x.1 x.2.1))) ∧
    (loadImage image).ample = max (min 400000 (field image 0x16C 4)) (loadImage image).lean ∧
    ((loadImage image).warning =
      let v := max 2100 (min 6000 (field image 0x195 2))
      if v ≤ (loadImage image).floorVoltage then (loadImage image).floorVoltage + 100 else v) ∧
    (loadImage image).stopId = BitVec.ofNat 16 (field image 0 2) ∧
    (loadImage image).stopName = slice image 0x004 24 ∧ (loadImage image).standby = slice image 0x01C 32 ∧
    ∀ k : Fin 6,
    let x := (loadImage image).slots.get k
    let at_ := 0x03C + 46 * k.val
    x.tag = field image at_ 2 % 4096 ∧
      x.stopIndex = min 62 (field image (at_ + 2) 1) ∧
      x.terminal = max 1 (min 63 (field image (at_ + 3) 1)) ∧
      x.offset = min 14400 (field image (at_ + 4) 2) ∧
      x.label = slice image (at_ + 6) 4 ∧ x.destination = slice image (at_ + 10) 18 ∧
      x.shortTurn = slice image (at_ + 28) 18 ∧
      (x.enabled = true ↔ x.tag ≠ 0 ∧ x.stopIndex ≤ x.terminal ∧
        ∀ j : Fin 6, j < k → ((loadImage image).slots.get j).enabled = true →
            ((loadImage image).slots.get j).tag ≠ x.tag)

/-! ### The receive side (9.1 to 9.5) -/

/-- What a character does to the receive state and the assembly buffer, and the cases it counts (the table of R151).
`heard` says that the mode judges its byte to start a frame. -/
def Sys2Proof.Claims.received (state : ReceiveState) (buffer : List Byte) (stop mark heard : Bool) (b : Byte) :
    ReceiveState × List Byte × List Counter :=
  let judged := if heard then (ReceiveState.assemble, [b], []) else (ReceiveState.skip, [], [Counter.filtered])
  match stop, mark, state with
  | false, _, .hunt => (.hunt, buffer, [.framingError])
  | false, _, .assemble => (.skip, [], [.framingError])
  | false, _, .skip => (.skip, buffer, [.framingError])
  | true, true, .hunt => judged
  | true, true, .assemble => (judged.1, judged.2.1, .truncated :: judged.2.2)
  | true, true, .skip => judged
  | true, false, .hunt => (.hunt, buffer, [.stray])
  | true, false, .assemble => if buffer.length < 48 then (.assemble, buffer ++ [b], []) else (.skip, [], [.overlong])
  | true, false, .skip => (.skip, buffer, [])

/-- Whether a header passes the wake filter (the table of R156): group 0 counts for a NOTICE only. -/
def Sys2Proof.Claims.passesFilter (c : Loaded) (b : Byte) : Prop :=
  let served := ∃ i, (c.slots.get i).enabled = true ∧ (c.slots.get i).tag % 32 = b.toNat % 32
  match headerKind b with
  | .clock | .query => True
  | .sheet | .pass | .sight => served
  | .notice => b.toNat % 32 = 0 ∨ served
  | .offer | .reply => False

/-- The receive side when nothing but the end of its frame may close a held window: the window closes once the receive
state has left ASSEMBLE, and with it radio power goes off where neither the mode, the send side nor a sniff timer that
has run out asks for it (R158; the sniff timer's part by assumption log 22). -/
def Sys2Proof.Claims.letGo (now : Nat) (send : SendState) (r : Receiver) : Receiver :=
  if r.window = .held ∧ r.state ≠ .assemble then
    if r.mode = .sniff ∧ send = .idle ∧ ¬ (∃ u ∈ r.sniffTimer, u ≤ now) then
      { r with window := .closed, radio := false, state := .hunt, buffer := [] }
    else { r with window := .closed }
  else r

/-- CHARACTER: of each bit the value of at least two samples counts; a character with a sample that disagrees is noise,
and the receive state moves by the table of R151. The receive side takes no character and reaches no idle while radio
power is off or the part sends (R148, R157). That a character whose start bit is judged 1 is taken all the same is
assumption log 25, and that radio power stays on for a sniff timer that has run out is log 22. -/
def Obligations.CharacterMovesTheReceiveState : Prop :=
  (∀ (s : State) (dt : Nat) (s1 s2 s3 bits : BitVec 11) (heard : Bool),
    s.started = true → s.hearing = true → s.radioWanted = true →
    (∀ i < 11, bits.getLsbD i = true ↔ 2 ≤ ([s1, s2, s3].countP fun x => x.getLsbD i)) →
    (heard = true ↔ s.rx.mode = .listen ∨ passesFilter s.loader.loaded (bits.extractLsb' 1 8)) →
    ∃ t, exec (.character dt s1 s2 s3) s = .next t ∧ OnlyChanges [.elapsed, .clock, .rx, .counters] s t ∧
      Passes dt s t ∧
      let r := received s.rx.state s.rx.buffer (bits.getLsbD 10) (bits.getLsbD 9) heard (bits.extractLsb' 1 8)
      t.rx = letGo t.elapsed s.tx.state
        { s.rx with state := r.1, buffer := r.2.1, lastCharacter := s.elapsed + dt } ∧
      Counted ((if s1 = s2 ∧ s2 = s3 then [] else [.noise]) ++ r.2.2) s t) ∧
  ∀ (s : State) (dt : Nat) (s1 s2 s3 : BitVec 11), s.rx.radio = false ∨ s.tx.state = .sending →
    ∀ c ∈ [Instr.character dt s1 s2 s3, .idle dt],
      ∃ t, exec c s = .next t ∧ OnlyChanges [.elapsed, .clock] s t ∧ Passes dt s t

/-- What idle finds in the assembly buffer: the case it counts, and the frame where that is a good one (R149, R150,
R152, R153). -/
def Sys2Proof.Claims.verdict (buffer : List Byte) (queued : Nat) : Counter :=
  let n := buffer.length
  if n < 4 then .malformed
  else if (crc (buffer.take (n - 2))).toNat ≠
      256 * (buffer.getD (n - 2) 0#8).toNat + (buffer.getD (n - 1) 0#8).toNat then .checkFailure
  else if n - 3 ∉ bodyLengths (headerKind (buffer.headD 0#8)) then .malformed
  else if queued < 4 then .frameReceived
  else .overrun

/-- IDLE: in ASSEMBLE it ends the frame, which is judged and, if good, joins the receive queue with the instant of its
last character; in SKIP it leads to HUNT (R151 to R153). In LEAN a good frame restarts the quiet timer and the mode is
LISTEN (R155). That radio power stays on for a sniff timer that has run out is assumption log 22. -/
def Obligations.IdleJudgesTheFrame : Prop :=
  ∀ (s : State) (dt : Nat), s.started = true → s.hearing = true → s.radioWanted = true →
    ∃ t, exec (.idle dt) s = .next t ∧ OnlyChanges [.elapsed, .clock, .rx, .counters] s t ∧ Passes dt s t ∧
      match s.rx.state with
      | .hunt => t.rx = letGo t.elapsed s.tx.state s.rx ∧ Counted [] s t
      | .skip => t.rx = letGo t.elapsed s.tx.state { s.rx with state := .hunt, buffer := [] } ∧ Counted [] s t
      | .assemble =>
        let v := verdict s.rx.buffer s.rx.queue.length
        let frame : ReceivedFrame :=
          ⟨s.rx.buffer.headD 0#8, (s.rx.buffer.drop 1).take (s.rx.buffer.length - 3), s.rx.lastCharacter⟩
        let good := v = .frameReceived
        let lean := good ∧ s.planner.energy = .lean
        t.rx = letGo t.elapsed s.tx.state
          { s.rx with
            state := .hunt
            buffer := []
            queue := if good then s.rx.queue ++ [frame] else s.rx.queue
            mode := if lean then .listen else s.rx.mode
            quietTimer :=
              if lean then some (s.elapsed + dt + 1000 * s.loader.loaded.quietInterval) else s.rx.quietTimer } ∧
        Counted [v] s t

/-- The later of two instants: a timer's expiry comes at its instant, or at once where that has been reached
(assumption log 1). -/
def Sys2Proof.Claims.comesAt (s : State) (u : Nat) : Nat := max s.elapsed u

/-- The quiet timer takes the mode from LISTEN to DOZE (R155); the scan timer starts a conversion and itself again
(R139); the aging timer raises the stratum by one, up to 7, and starts again below 7 (R73). -/
def Obligations.QuietScanAndAgingTimers : Prop :=
  ∀ (s : State) (u : Nat), s.started = true →
    (s.rx.quietTimer = some u → ∃ t, exec .quietTimerExpiry s = .next t ∧
      OnlyChanges [.elapsed, .clock, .rx] s t ∧ Passes (u - s.elapsed) s t ∧
      t.rx = { s.rx with mode := .doze, quietTimer := none }) ∧
    (s.sense.scanTimer = some u → ∃ t, exec .scanTimerExpiry s = .next t ∧
      OnlyChanges [.elapsed, .clock, .sense] s t ∧ Passes (u - s.elapsed) s t ∧
      t.sense = { s.sense with
        converting := true
        scanTimer := some (comesAt s u + 1000 * s.loader.loaded.scanPeriod) }) ∧
    (s.clock.agingTimer = some u → ∃ t, exec .agingTimerExpiry s = .next t ∧
      OnlyChanges [.elapsed, .clock, .counters] s t ∧ t.elapsed = comesAt s u ∧
      t.clock = { clockAfter s.clock (u - s.elapsed) with
        stratum := min 7 (s.clock.stratum + 1)
        agingTimer := if s.clock.stratum + 1 < 7 then some (comesAt s u + 21600000) else none } ∧
      Counted [.stratumAged] s t)

/-- The sniff timer opens a window of 2 s with radio power on and starts again; a window still held runs on (R158).
At the end of its 2 s a window closes, unless a frame in ASSEMBLE holds it open; radio power goes off with it where
nothing else asks for it. That no window is counted where one runs on, and that radio power stays on at the close for a
sniff timer that has run out, are the model's choices of assumption log 22. -/
def Obligations.SniffWindowsOpenAndClose : Prop :=
  ∀ (s : State) (u : Nat), s.started = true →
    (s.rx.sniffTimer = some u → ∃ t, exec .sniffTimerExpiry s = .next t ∧
      OnlyChanges [.elapsed, .clock, .rx, .counters] s t ∧ Passes (u - s.elapsed) s t ∧
      t.rx = { s.rx with
        window := .running (comesAt s u + 2000)
        sniffTimer := some (comesAt s u + 1000 * s.loader.loaded.sniffPeriod)
        radio := true } ∧
      Counted (if s.rx.window = .closed then [.sniffWindow] else []) s t) ∧
    (s.rx.window = .running u → s.rx.radio = true → ∃ t, exec .windowClose s = .next t ∧
      OnlyChanges [.elapsed, .clock, .rx] s t ∧ Passes (u - s.elapsed) s t ∧
      t.rx = letGo (comesAt s u) s.tx.state { s.rx with window := .held })

/-! ### Grants and relays (9.6, 9.7) -/

/-- The send side with a frame of a source granted at an instant: in ACCESS, in the first stage, no backoff drawn yet
(R161, R163). -/
def Sys2Proof.Claims.grantTo (tx : Sender) (source : Source) (f : SendFrame) (now : Nat) : Sender :=
  { tx with state := .access, granted := some ⟨source, f, now⟩, stage := .carrierWait, backoff := none }

/-- The header of a SHEET frame of a route tag: its route group in the low five bits (11.1, R60). -/
def Sys2Proof.Claims.sheetHeader (tag : Nat) : Byte := BitVec.ofNat 8 (64 + tag % 32)

/-- The fragments a list of runs is sent in: one of no runs, else one for each seven begun (R42). -/
def Sys2Proof.Claims.fragmentsOf (runs : List Run) : Nat := if runs = [] then 1 else (runs.length + 6) / 7

/-- The fragment a record offers: the one at its cursor, of the sheet its slot holds for its day (R60). -/
def Sys2Proof.Claims.fragmentAt (s : State) (p : Publication) : Option SendFrame :=
  ((s.sheets.slots.get p.slot).forDay p.day).map fun sh =>
    let tag := (s.loader.loaded.slots.get p.slot).tag
    ⟨sheetHeader tag, sheetBody s.loader.loaded.stopId tag p.day p.version p.cursor (fragmentsOf sh.runs)
      ((sh.runs.drop (7 * p.cursor)).take 7)⟩

/-- A grant of the relay queue: its head leaves it, and the pointer turns to the publication list (R160, R161). -/
def Sys2Proof.Claims.relayGrant (tx : Sender) (now : Nat) : Option Sender :=
  match tx.relay with
  | [] => none
  | f :: rest => some (grantTo { tx with relay := rest, pointer := .publication } .relay f now)

/-- A grant of the publication list, in AMPLE and LEAN: the fragment its first SENDING record offers, and the pointer
turns to the relay queue (R60, R159, R161). A record is known by the number it was made under, which is the model's own
(assumption log 34). -/
def Sys2Proof.Claims.publicationGrant (s : State) (tx : Sender) (now : Nat) : Option Sender :=
  match s.planner.energy, s.sheets.publications.filter fun p => decide (p.state = .sending) with
  | .ample, p :: _ | .lean, p :: _ => (fragmentAt s p).map fun f =>
      grantTo { tx with pointer := .relay } (.publication p.slot p.day p.version p.made) f now
  | _, _ => none

/-- What an IDLE send side comes to (R161): the reply slot first; then, but in DORMANT, the beacon slot, its CLOCK
before its OFFER; then of relay queue and publication list the one the pointer names, else the other; and IDLE as it is
where none of them has a frame. -/
def Sys2Proof.Claims.granting (s : State) (tx : Sender) (now : Nat) : Sender :=
  let beacon := if s.planner.energy = .dormant then none
    else if tx.clockWaiting then some (grantTo tx .clock ⟨0#8, []⟩ now)
    else tx.offerWaiting.map fun f => grantTo tx .offer f now
  let rotation := match tx.pointer with
    | .relay => [relayGrant tx now, publicationGrant s tx now]
    | .publication => [publicationGrant s tx now, relayGrant tx now]
  (((tx.reply.map fun f => grantTo tx .reply f now) :: beacon :: rotation).filterMap id).headD tx

/-- The send side after an occasion of arbitration: a frame that has been granted stays so, an IDLE side grants (R161).
-/
def Sys2Proof.Claims.arbitrated (s : State) (tx : Sender) (now : Nat) : Sender :=
  if tx.state = .idle then granting s tx now else tx

/-- The send side with a frame placed last on the relay queue; a full queue loses its oldest (R160). -/
def Sys2Proof.Claims.queued (tx : Sender) (f : SendFrame) : Sender :=
  { tx with relay := (if 8 ≤ tx.relay.length then tx.relay.drop 1 else tx.relay) ++ [f] }

/-- From `s` to `t` some frames have been placed on the relay queue, one after another, and nothing else has reached the
send side (R160, R161). -/
def Sys2Proof.Claims.Relayed (fs : List SendFrame) (s t : State) : Prop :=
  t.tx = fs.foldl (fun tx f => arbitrated t (queued tx f) t.elapsed) s.tx

/-! ### Publication requests and commits (3.3, 3.5) -/

/-- What a publication request finds and leaves: the list, the LFSR, the number of records made so far, which is the
model's own (assumption log 34), and the cases counted. -/
structure Sys2Proof.Claims.Desk where
  list : List Publication
  lfsr : BitVec 16
  made : Nat
  cases : List Counter

/-- A request for a slot and day at the version the slot holds (R58): merged into a listed record; refused by a full
list; or a record appended, in HOLDOFF for 1..8 s from now, its cursor at 0. -/
def Sys2Proof.Claims.Desk.asked (d : Desk) (now : Nat) (i : SlotIx) (day : Day) (version : Version) : Desk :=
  if ∃ p ∈ d.list, p.slot = i ∧ p.day = day then
    { d with
      list := d.list.map fun p => if p.slot = i ∧ p.day = day then { p with version := version } else p
      cases := d.cases ++ [.publicationMerged] }
  else if 2 ≤ d.list.length then { d with cases := d.cases ++ [.publicationRefused] }
  else
    let drawn := lfsrSteps 16 d.lfsr
    { list := d.list ++ [⟨i, day, version, 0, .holdoff (now + 1000 * (1 + drawn.toNat % 8)), d.made⟩]
      lfsr := drawn
      made := d.made + 1
      cases := d.cases ++ [.publicationRequested] }

/-- The runs of an assembly, its fragments taken in index order (R52). -/
def Sys2Proof.Claims.runsOf (a : Assembly) : List Run :=
  (List.range a.count).flatMap fun i => (a.fragments.lookup i).getD []

/-- An assembly passes validation against the version its slot holds for its day (R52). -/
def Sys2Proof.Claims.Good (h : SlotSheets) (a : Assembly) : Prop :=
  (∀ x ∈ a.fragments, if x.1 + 1 = a.count then x.2.length ≤ 7 else x.2.length = 7) ∧
    (runsOf a).Pairwise (fun x y => x.origin < y.origin ∨ (x.origin = y.origin ∧ x.number ≤ y.number)) ∧
    ((runsOf a).map (·.number)).Nodup ∧
    (∀ r ∈ runsOf a, r.origin ≤ 86399 ∧ ∀ i, r.terminal = some i → 1 ≤ i ∧ i ≤ 63) ∧
    newerVersion a.version (h.versionFor a.day) = true

/-- Some slots without their assemblies. -/
def Sys2Proof.Claims.emptied (slots : Vector SlotSheets 6) (is : List SlotIx) : Vector SlotSheets 6 :=
  Vector.ofFn fun i => if i ∈ is then { slots.get i with assembly := none } else slots.get i

/-- The counters a commit moves, its publication request's among them. -/
def Sys2Proof.Claims.commitCounters : List Counter :=
  [.sheetCommitted, .sheetRejected, .publicationRequested, .publicationMerged, .publicationRefused]

/-- The commit of a good assembly from a store: its sheet takes the place of the slot's for its day; its rebuild
starts; a listed record takes the new version with its cursor at 0 and keeps all else; and a publication is requested
(R53, R62, R58). The cases of `cs` go with it. -/
def Sys2Proof.Claims.Commits (st : SheetStore) (i : SlotIx) (a : Assembly) (cs : List Counter) (s t : State) : Prop :=
  let renewed := st.publications.map fun p =>
    if p.slot = i ∧ p.day = a.day then { p with version := a.version, cursor := 0 } else p
  let d := Desk.asked ⟨renewed, s.tx.lfsr, st.made, []⟩ t.elapsed i a.day a.version
  let sheets := (st.slots.get i).sheets.filter (fun x => decide (x.day ≠ a.day)) ++ [⟨a.day, a.version, runsOf a⟩]
  t.sheets = { st with slots := st.slots.set i ⟨sheets, none⟩, publications := d.list, made := d.made } ∧
    t.tx = { s.tx with lfsr := d.lfsr } ∧ t.table.rebuild = some ⟨i, a.day, runsOf a⟩ ∧
    CountedOf commitCounters (cs ++ .sheetCommitted :: d.cases) s t

/-- The flag has cleared over a store: the waiting assemblies are taken in their order, those that fail validation are
rejected, and the first good one commits, the rest waiting on (R51). -/
def Sys2Proof.Claims.Released (st : SheetStore) (s t : State) : Prop :=
  let bad := fun j => ∀ a, (st.slots.get j).assembly = some a → ¬ Good (st.slots.get j) a
  ((∀ j ∈ st.waiting, bad j) →
    t.sheets = { st with slots := emptied st.slots st.waiting, waiting := [] } ∧ t.tx = s.tx ∧ t.table.rebuild = none ∧
      CountedOf commitCounters (List.replicate st.waiting.length .sheetRejected) s t) ∧
  ∀ before i after a, st.waiting = before ++ i :: after → (∀ j ∈ before, bad j) →
    (st.slots.get i).assembly = some a → Good (st.slots.get i) a →
    Commits { st with slots := emptied st.slots before, waiting := after } i a
      (List.replicate before.length .sheetRejected) s t

/-- The store after D has changed: sheets, assemblies and publication records of other days than the new D and D+1 are
discarded, a waiting assembly with its place; all else stays (R45). -/
def Sys2Proof.Claims.discarded (day : Day) (st : SheetStore) : SheetStore :=
  let held := fun d : Day => decide (d = day ∨ d = day + 1#16)
  let slots := st.slots.map fun h => ⟨h.sheets.filter (fun sh => held sh.day), h.assembly.filter (fun a => held a.day)⟩
  { st with
    slots := slots
    waiting := st.waiting.filter fun i => (slots.get i).assembly.isSome
    publications := st.publications.filter fun p => held p.day }

/-- The sheets, assemblies and records a change of D discards are counted (R45). -/
def Sys2Proof.Claims.DiscardsCounted (day : Day) (s t : State) : Prop :=
  let gone := fun (n : SheetStore → Nat) => n s.sheets - n (discarded day s.sheets)
  CountedOf [.sheetExpired, .assemblyExpired, .publicationExpired]
    (List.replicate (gone fun st => (st.slots.toList.map (·.sheets.length)).sum) .sheetExpired ++
      List.replicate (gone fun st => st.slots.toList.countP (·.assembly.isSome)) .assemblyExpired ++
      List.replicate (gone fun st => st.publications.length) .publicationExpired) s t

/-! ### The notice rotation (5.9) -/

/-- The first of some notices from place `i` on, in store order with a wrap past the last, that is eligible: URGENT, or
any while none is URGENT (R91, R92). -/
def Sys2Proof.Claims.FirstFrom (ns : List Notice) (i j : Nat) : Prop :=
  let waits := fun k : Nat => ∃ n, ns[k]? = some n ∧ (n.urgent = true ∨ ∀ m ∈ ns, m.urgent = false)
  let turns := fun k : Nat => (k + ns.length - i) % ns.length
  waits j ∧ ∀ k, waits k → turns j ≤ turns k

/-- The search of R91 from place `i` on: the notice found becomes current, shown since now. That the shown-since instant
stays where none is found is the model's choice (assumption log 40). -/
def Sys2Proof.Claims.TurnsTo (i now : Nat) (b b' : Board) : Prop :=
  if b'.notices = [] then b'.current = none ∧ b'.shownSince = b.shownSince
  else b'.shownSince = now ∧ ∃ j, b'.current = some j ∧ FirstFrom b'.notices i j

/-- The rotation settled after a change of the store from `b` to `b'` (R91, R93): `place` says where the current notice
stands now, or where it stood if it has left (`stays` false). Kept and eligible it stays current; no longer eligible, it
gives way to the next after it; gone, to the next from its place on; with none current before, the first eligible one
becomes it. -/
def Sys2Proof.Claims.Settles (stays : Prop) (place now : Nat) (b b' : Board) : Prop :=
  match b.current with
  | none => TurnsTo 0 now b b'
  | some _ =>
    (stays → (∃ n, b'.notices[place]? = some n ∧ (n.urgent = true ∨ ∀ m ∈ b'.notices, m.urgent = false)) →
      b'.current = some place ∧ b'.shownSince = b.shownSince) ∧
    (stays → (∀ n, b'.notices[place]? = some n → n.urgent = false ∧ ∃ m ∈ b'.notices, m.urgent = true) →
      TurnsTo (place + 1) now b b') ∧
    (¬ stays → TurnsTo place now b b')

/-- The notices that have expired on a day and second have left, each counted, and the rotation is settled (R90, R91).
That it is settled once, after all of them, is assumption log 26. -/
def Sys2Proof.Claims.NoticesExpire (k : Clock) (now : Nat) (s t : State) (b' : Board) : Prop :=
  let stays := fun n : Notice => decide ((n.expiryDay = k.day ∨ n.expiryDay = k.day + 1#16) ∧
    (k.second : Int) < 86400 * (n.expiryDay - k.day).toInt + n.expirySecond)
  let i := s.board.current.getD 0
  b'.notices = s.board.notices.filter stays ∧
    Settles (∃ n, s.board.notices[i]? = some n ∧ stays n = true) ((s.board.notices.take i).countP stays) now
      s.board b' ∧
    CountedOf [.noticeExpired] (List.replicate (s.board.notices.length - b'.notices.length) .noticeExpired) s t

/-! ### The station clock (chapter 4) -/

/-- A time of day under a service day, in ms of the day. -/
structure Sys2Proof.Claims.Present where
  day : Day
  ms : Nat

/-- The present time of a CLOCK frame whose last character came `age` ms ago: its own time and that age, carried into
the next day past 24 hours (R66). -/
def Sys2Proof.Claims.presentOf (f : ClockFields) (age : Nat) : Present :=
  ⟨f.day + BitVec.ofNat 16 ((f.second * 1000 + age) / 86400000), (f.second * 1000 + age) % 86400000⟩

/-- The distance in ms of a present time from the clock's own time, `own` ms of day `day` (R67). -/
def Sys2Proof.Claims.distance (day : Day) (own : Nat) (p : Present) : Nat :=
  (86400000 * (p.day - day).toInt + p.ms - own).natAbs

/-- Whether a well-formed CLOCK frame is adopted (R67). -/
def Sys2Proof.Claims.Adopted (k : Clock) (own : Nat) (f : ClockFields) (p : Present) : Prop :=
  k.timeValid = false ∨ f.stratum + 1 < k.stratum ∨ (f.stratum + 1 = k.stratum ∧ 2000 ≤ distance k.day own p)

/-- The receive side has given one frame to its owner and, with the send side or the mode changed, at most brought its
window and radio power into line; in LISTEN and DOZE with radio power on nothing else in it changes (R158). -/
def Sys2Proof.Claims.RxSettles (queue : List ReceivedFrame) (s t : State) : Prop :=
  t.rx = { s.rx with
      queue := queue, state := t.rx.state, buffer := t.rx.buffer, window := t.rx.window, radio := t.rx.radio } ∧
    (s.rx.mode ≠ .sniff → s.rx.radio = true → s.rx.window ≠ .held → t.rx = { s.rx with queue := queue })

/-- The panel port has at most looked at what is waiting (R123). -/
def Sys2Proof.Claims.PortServes (s t : State) : Prop :=
  t.engine = { s.engine with
      port := t.engine.port, readRequest := t.engine.readRequest, phaseDeadline := t.engine.phaseDeadline,
      readDeadline := t.engine.readDeadline, commands := t.engine.commands } ∧
    (s.engine.port ≠ .idle → t.engine = s.engine)

/-- The table's order on two entries: P, S, route tag, run number, day offset, each used only where the earlier ones are
equal (R1). -/
def Sys2Proof.Claims.Precedes (c : Loaded) (day : Day) (a b : Entry) : Prop :=
  let tag := fun (e : Entry) => (c.slots.get e.slot).tag
  a.predicted < b.predicted ∨ a.predicted = b.predicted ∧
    (a.scheduled < b.scheduled ∨ a.scheduled = b.scheduled ∧
      (tag a < tag b ∨ tag a = tag b ∧
        (a.run < b.run ∨ a.run = b.run ∧ (a.day - day).toInt ≤ (b.day - day).toInt)))

/-- The table stands in its order (R1). -/
def Sys2Proof.Claims.InOrder (s : State) : Prop :=
  s.table.entries.Pairwise (Precedes s.loader.loaded s.clock.day)

/-- The kind of an adoption, as its counter (R69 to R72). -/
def Sys2Proof.Claims.adoptionKind (k : Clock) (own : Nat) (p : Present) : Counter :=
  if k.timeValid = false then .firstAdoption
  else if p.day = k.day then (if own ≤ p.ms then .stepForward else .stepBack)
  else if p.day = k.day + 1#16 then .nextDayAdoption
  else .dayJump

/-- An adopted CLOCK frame sets day, second and phase from its present time, the stratum one above the frame's, and
starts the aging timer anew; it is counted by its kind (R66 to R72). At the first adoption the beacon timer starts
within a quarter of the clock interval either way of it (R74) and the offer timer 5..15 s ahead (R54). Expired notices
leave, and the board shows the new time (R40, R77, R90, R91). An adoption that keeps D leaves the store as it is; one of
another day discards by the new days; and after a day jump, whose table clears the flag, a waiting assembly that is left
commits (R45, R51, R72). That the store takes the jump before the table is the model's choice of assumption log 37. -/
def Obligations.ClockFramesAdopted : Prop :=
  ∀ (s : State) (dt : Nat) (a b : Bool) (g : ReceivedFrame) (rest : List ReceivedFrame),
    AtHead .clock g rest s → s.RadioSound →
    let f := readClock g.body
    let p := presentOf f (s.elapsed + dt - g.stamp)
    let own := s.clock.second * 1000 + s.clock.phase + dt
    f.stratum ≠ 7 → f.second ≤ 86399 → Adopted s.clock own f p → s.RotationSound → s.WaitingSound →
    ∃ t, exec (.clockFrame dt a b) s = .next t ∧
      OnlyChanges [.elapsed, .clock, .sheets, .table, .board, .planner, .engine, .rx, .tx, .counters] s t ∧
      t.elapsed = s.elapsed + dt ∧
      t.clock = ⟨true, p.day, p.ms / 1000, p.ms % 1000, f.stratum + 1, some t.elapsed,
        if f.stratum + 1 < 7 then some (t.elapsed + 21600000) else none, t.clock.beaconTimer⟩ ∧
      (if s.clock.timeValid then
        t.clock.beaconTimer = s.clock.beaconTimer ∧ t.sheets.offerTimer = s.sheets.offerTimer
      else
        let i := s.loader.loaded.clockInterval
        (∃ x, t.clock.beaconTimer = some (t.elapsed + 1000 * x) ∧ i - i / 4 ≤ x ∧ x ≤ i + i / 4) ∧
          ∃ x, t.sheets.offerTimer = some (t.elapsed + 1000 * x) ∧ 5 ≤ x ∧ x ≤ 15) ∧
      CountedOf [.clockAdopted, .firstAdoption, .stepForward, .stepBack, .nextDayAdoption, .dayJump, .clockMalformed,
        .clockOutranked, .clockAgreeing] [.clockAdopted, adoptionKind s.clock own p] s t ∧
      RxSettles rest s t ∧ InOrder t ∧ t.board.targets = t.composedTargets ∧
      NoticesExpire t.clock t.elapsed s t t.board ∧
      (s.clock.timeValid = false → t.sheets = { s.sheets with offerTimer := t.sheets.offerTimer }) ∧
      (s.clock.timeValid = true → p.day = s.clock.day → t.sheets = s.sheets) ∧
      (s.clock.timeValid = true → p.day ≠ s.clock.day → DiscardsCounted p.day s t ∧
        (p.day = s.clock.day + 1#16 → t.sheets = discarded p.day s.sheets) ∧
        (p.day ≠ s.clock.day + 1#16 → Released (discarded p.day s.sheets) s t))

/-- A counted second adds one to X, which at 86,400 becomes 0 with D one further (R64, R65); an AT_STOP entry whose bus
was last seen too long ago is then gone (R12); at a board tick the table is in order, the board shows it as it stands,
the expired notices have left and the rotation is settled, and then a current notice that has stood for the rotation
period gives way to the next (R77, R90 to R93); at midnight the store discards by the new days (R45); at the sweep
time, and only then, the ghosted lines are flagged and the engine leaves FAULTED with its fault count at 2 (R109,
R135); and a second that is no tick, with no bus lost, touches nothing but the clock. -/
def Obligations.CountedSecondMovesTheClock : Prop :=
  ∀ (s : State) (pass : PassPlace) (sweepFirst : Bool) (sweep : SweepOrder), s.started = true → s.RadioSound →
    s.clock.timeValid = true → s.clock.second < 86400 → s.RotationSound →
    ∃ t, exec (.countedSecond pass ⟨sweepFirst, sweep⟩) s = .next t ∧
      OnlyChanges [.elapsed, .clock, .sheets, .table, .board, .planner, .engine, .rx, .tx, .counters] s t ∧
      t.elapsed = s.elapsed + (1000 - s.clock.phase) ∧
      t.clock = { s.clock with
        day := if s.clock.second + 1 = 86400 then s.clock.day + 1#16 else s.clock.day
        second := if s.clock.second + 1 = 86400 then 0 else s.clock.second + 1
        phase := s.clock.phase - 1000 } ∧
      RxSettles s.rx.queue s t ∧
      (∀ e ∈ t.table.entries, e.state = .atStop → ∀ u, e.lastSight = some u →
        (t.clock.second : Int) - u < s.loader.loaded.sightLoss) ∧
      (t.clock.second % 15 = 0 →
        InOrder t ∧ t.board.targets = t.composedTargets ∧
        ∃ m : Board, NoticesExpire t.clock t.elapsed s t m ∧ t.board.notices = m.notices ∧
          (∀ i, m.current = some i → m.shownSince + 60000 * s.loader.loaded.rotation ≤ t.elapsed →
            t.board.shownSince = t.elapsed ∧ ∃ j, t.board.current = some j ∧ FirstFrom m.notices (i + 1) j) ∧
          (m.current = none ∨ t.elapsed < m.shownSince + 60000 * s.loader.loaded.rotation →
            t.board.shownSince = m.shownSince ∧ t.board.current = m.current)) ∧
      (if s.clock.second + 1 = 86400 then t.sheets = discarded t.clock.day s.sheets ∧ DiscardsCounted t.clock.day s t
        else t.sheets = s.sheets) ∧
      (let due := t.clock.second % 60 = 0 ∧
          (s.loader.loaded.dayStart * 60 + t.clock.second) % 86400 = s.loader.loaded.sweepMinute * 60;
        (∀ n : Fin 10, t.planner.sweep.get n = true ↔
          s.planner.sweep.get n = true ∨ (due ∧ 0 < (s.engine.lines.get n).ghost)) ∧
        (t.engine.faulted = true ↔ s.engine.faulted = true ∧ ¬ due) ∧
        t.engine.faults = (if due ∧ s.engine.faulted = true then 2 else s.engine.faults) ∧
        CountedOf [.sweepMade] (if due then [.sweepMade] else []) s t) ∧
      (t.clock.second % 15 ≠ 0 →
        (∀ e ∈ s.table.entries, e.state = .atStop → ∀ u, e.lastSight = some u →
          (t.clock.second : Int) - u < s.loader.loaded.sightLoss) →
        OnlyChanges [.elapsed, .clock, .engine, .rx] s t ∧ PortServes s t)

/-- The seconds of a restarted timer: an interval less a quarter of it, and a draw from the whole numbers up to half of
it (R54, R74, R162). -/
def Sys2Proof.Claims.redrawn (interval : Nat) (lfsr : BitVec 16) : Nat :=
  interval - interval / 4 + lfsr.toNat % (2 * (interval / 4) + 1)

/-- The OFFER a part sends: its stop id, D, and for each enabled slot in slot order the tag and the versions held for D
and D+1 (R55). -/
def Sys2Proof.Claims.offerOf (s : State) : SendFrame :=
  ⟨0x20#8, offerBody s.loader.loaded.stopId s.clock.day
    (([0, 1, 2, 3, 4, 5].filter fun i : SlotIx => (s.loader.loaded.slots.get i).enabled).map fun i =>
      ⟨(s.loader.loaded.slots.get i).tag, (s.sheets.slots.get i).versionFor s.clock.day,
        (s.sheets.slots.get i).versionFor (s.clock.day + 1#16)⟩)⟩

/-- The beacon timer starts again with a fresh draw and places a CLOCK frame, unless the stratum is 7 or the state
DORMANT (R74, R159, R161). -/
def Obligations.BeaconTimerPlacesAClock : Prop :=
  ∀ (s : State) (u : Nat), s.started = true → s.RadioSound → s.clock.beaconTimer = some u →
    let e := comesAt s u
    let lfsr := lfsrSteps 16 s.tx.lfsr
    let drawn := { s.tx with lfsr := lfsr }
    ∃ t, exec .beaconTimerExpiry s = .next t ∧ OnlyChanges [.elapsed, .clock, .rx, .tx, .counters] s t ∧ t.elapsed = e ∧
      t.clock = { clockAfter s.clock (u - s.elapsed) with
        beaconTimer := some (e + 1000 * redrawn s.loader.loaded.clockInterval lfsr) } ∧
      if s.clock.stratum ≤ 6 ∧ s.planner.energy ≠ .dormant then
        Counted (.clockBuilt :: if s.tx.clockWaiting then [.beaconReplaced] else []) s t ∧ RxSettles s.rx.queue s t ∧
        t.tx = arbitrated t { drawn with clockWaiting := true } e
      else Counted [.clockSkipped] s t ∧ t.rx = s.rx ∧ t.tx = drawn

/-- The offer timer starts again with a fresh draw and places an OFFER of the sheets held now, but not in DORMANT (R54,
R55, R159, R161). -/
def Obligations.OfferTimerPlacesAnOffer : Prop :=
  ∀ (s : State) (u : Nat), s.started = true → s.RadioSound → s.sheets.offerTimer = some u → s.clock.timeValid = true →
    let e := comesAt s u
    let lfsr := lfsrSteps 16 s.tx.lfsr
    let drawn := { s.tx with lfsr := lfsr }
    let placed := { drawn with
      offerWaiting := some (offerOf s)
      granted := match s.tx.granted with
        | some ⟨.offer, f, g⟩ => some ⟨.offer, if s.tx.state = .access then offerOf s else f, g⟩
        | x => x }
    ∃ t, exec .offerTimerExpiry s = .next t ∧ OnlyChanges [.elapsed, .clock, .sheets, .rx, .tx, .counters] s t ∧
      Passes (u - s.elapsed) s t ∧
      t.sheets = { s.sheets with offerTimer := some (e + 1000 * redrawn s.loader.loaded.offerInterval lfsr) } ∧
      if s.planner.energy ≠ .dormant then
        Counted (.offerBuilt :: if s.tx.offerWaiting.isSome then [.beaconReplaced] else []) s t ∧
        RxSettles s.rx.queue s t ∧
        t.tx = arbitrated t placed e
      else Counted [.offerSkipped] s t ∧ t.rx = s.rx ∧ t.tx = drawn

/-! ### Sheets (chapter 3) -/

/-- Versions compare with wrap-around, and version 0 is older than every other (R43). -/
def Obligations.VersionsWrap : Prop :=
  ∀ a b : Version,
    (a ≠ 0#16 → b ≠ 0#16 → (newerVersion a b = true ↔
      1 ≤ ((a.toNat : Int) - b.toNat) % 65536 ∧ ((a.toNat : Int) - b.toNat) % 65536 ≤ 32767)) ∧
    (a ≠ 0#16 → newerVersion a 0#16 = true) ∧ newerVersion 0#16 b = false ∧ newerVersion a a = false ∧
    (((a.toNat : Int) - b.toNat) % 65536 = 32768 → a ≠ 0#16 → b ≠ 0#16 →
      newerVersion a b = false ∧ newerVersion b a = false) ∧
    newerVersion 1#16 65535#16 = true

/-- An enabled slot carries a tag. -/
def Sys2Proof.Claims.Serves (c : Loaded) (i : SlotIx) (tag : Nat) : Prop :=
  servedSlot c tag = some i

/-- The slots and days an OFFER makes requests for, listing by listing: D and D+1, where the version held is newer than
the listed one (R56). Which of a listing's two comes first is the command's operand (assumption log 10). -/
def Sys2Proof.Claims.demands (s : State) (f : OfferFields) (nextFirst : Bool) : List (SlotIx × Day) :=
  f.listings.flatMap fun l =>
    match servedSlot s.loader.loaded l.tag with
    | none => []
    | some i =>
      let ask := fun (day : Day) (listed : Version) =>
        if newerVersion ((s.sheets.slots.get i).versionFor day) listed then [(i, day)] else []
      let today := ask s.clock.day l.today
      let next := ask (s.clock.day + 1#16) l.next
      if nextFirst then next ++ today else today ++ next

/-- An OFFER of another day, or before time is valid, is counted and asks for nothing. Any other is answered listing by
listing: for each day where this part's version is newer a publication is requested, which is merged into a listed
record, refused by a full list, or appended in HOLDOFF (R56 to R58). -/
def Obligations.OffersAreAnswered : Prop :=
  ∀ (s : State) (dt : Nat) (nextFirst : Bool) (g : ReceivedFrame) (rest : List ReceivedFrame), AtHead .offer g rest s →
    let f := readOffer g.body
    let heeded := s.clock.timeValid = true ∧ f.day = s.clock.day
    ∃ t, exec (.offerFrame ⟨dt, nextFirst⟩) s = .next t ∧
      OnlyChanges [.elapsed, .clock, .sheets, .rx, .tx, .counters] s t ∧ Passes dt s t ∧
      t.rx = { s.rx with queue := rest } ∧
      (¬ heeded → t.sheets = s.sheets ∧ t.tx = s.tx ∧ Counted [.offerOtherDay] s t) ∧
      (heeded →
        let d := (demands s f nextFirst).foldl
          (fun (d : Desk) (x : SlotIx × Day) => d.asked t.elapsed x.1 x.2 ((s.sheets.slots.get x.1).versionFor x.2))
          ⟨s.sheets.publications, s.tx.lfsr, s.sheets.made, []⟩
        t.sheets = { s.sheets with publications := d.list, made := d.made } ∧ t.tx = { s.tx with lfsr := d.lfsr } ∧
          Counted d.cases s t)

/-- A record a SHEET frame cancels: in HOLDOFF, for its route tag and day, at its version or an older one (R59). -/
def Sys2Proof.Claims.Cancelled (c : Loaded) (f : SheetFields) (p : Publication) : Prop :=
  (c.slots.get p.slot).tag = f.tag ∧ p.day = f.day ∧ p.state ≠ .sending ∧
    (f.version = p.version ∨ newerVersion f.version p.version = true)

/-- The publication list after it has been weighed against a SHEET frame (R59). -/
def Sys2Proof.Claims.Weighed (c : Loaded) (f : SheetFields) (before after : List Publication) : Prop :=
  after.Sublist before ∧ ∀ p, p ∈ after ↔ p ∈ before ∧ ¬ Cancelled c f p

/-- The acceptance checks of R46 in their order: the first a fragment fails. -/
def Sys2Proof.Claims.sheetRefusal (s : State) (f : SheetFields) : Option Counter :=
  match servedSlot s.loader.loaded f.tag with
  | none => some .sheetUnserved
  | some i =>
    if f.version = 0#16 ∨ f.count = 0 ∨ 12 < f.count ∨ f.count ≤ f.index then some .sheetMalformed
    else if s.clock.timeValid = false ∨ (f.day ≠ s.clock.day ∧ f.day ≠ s.clock.day + 1#16) then some .sheetOutOfDay
    else if newerVersion f.version ((s.sheets.slots.get i).versionFor f.day) = false then some .sheetNotNewer
    else none

/-- What an accepted fragment leaves in its slot while the sheet is not whole, with the cases it counts (R48, R49);
absent where the assembly becomes COMPLETE. -/
def Sys2Proof.Claims.collected (today : Day) (now : Nat) (f : SheetFields) (held : Option Assembly) :
    Option (Option Assembly × List Counter) :=
  let fresh : Assembly := ⟨f.day, f.version, f.count, [(f.index, f.runs)], .collecting, now⟩
  let start (cs : List Counter) := if f.count ≤ 1 then none else some (some fresh, cs ++ [.fragmentAdded])
  match held with
  | none => start []
  | some a =>
    if a.state = .complete then some (held, [.fragmentSetAside])
    else if a.day ≠ f.day then
      if f.day = today then start [.assemblyReplaced] else some (held, [.fragmentSetAside])
    else if a.version = f.version then
      if f.count ≠ a.count then some (held, [.sheetMalformed])
      else if f.index ∈ a.fragments.map (·.1) then some (held, [.fragmentRepeated])
      else if a.count ≤ a.fragments.length + 1 then none
      else some (some { a with
        fragments := a.fragments ++ [(f.index, f.runs)], state := .collecting, lastAddition := now }, [.fragmentAdded])
    else if newerVersion f.version a.version then start [.assemblyReplaced]
    else some (held, [.fragmentSetAside])

/-- An accepted fragment that does not make a sheet whole starts, replaces, joins or leaves its slot's assembly by the
table of R48; the other slots, the waiting order and the offer timer are as they were. -/
def Obligations.FragmentsAreCollected : Prop :=
  ∀ (s : State) (dt : Nat) (g : ReceivedFrame) (rest : List ReceivedFrame) (i : SlotIx) (h : Option Assembly)
    (cs : List Counter), AtHead .sheet g rest s →
    let f := readSheet g.body
    sheetRefusal s f = none → Serves s.loader.loaded i f.tag →
    collected s.clock.day (s.elapsed + dt) f (s.sheets.slots.get i).assembly = some (h, cs) →
    ∃ t, exec (.sheetFrame dt) s = .next t ∧ OnlyChanges [.elapsed, .clock, .sheets, .rx, .counters] s t ∧
      Passes dt s t ∧ t.rx = { s.rx with queue := rest } ∧
      t.sheets = { s.sheets with slots := t.sheets.slots, publications := t.sheets.publications } ∧
      (∀ j, t.sheets.slots.get j =
        if j = i then { s.sheets.slots.get j with assembly := h } else s.sheets.slots.get j) ∧
      Weighed s.loader.loaded f s.sheets.publications t.sheets.publications ∧
      Counted
        (List.replicate (s.sheets.publications.length - t.sheets.publications.length) .publicationSuppressed ++ cs) s t

/-- The assembly an accepted fragment has made whole: the slot's own with the fragment added, or one of the fragment
alone; and the cases counted (R48, R49). -/
def Sys2Proof.Claims.madeWhole (now : Nat) (f : SheetFields) (held : Option Assembly) : Assembly × List Counter :=
  let alone : Assembly := ⟨f.day, f.version, f.count, [(f.index, f.runs)], .complete, now⟩
  match held with
  | none => (alone, [.fragmentAdded])
  | some a =>
    if a.day = f.day ∧ a.version = f.version then
      ({ a with fragments := a.fragments ++ [(f.index, f.runs)], state := .complete, lastAddition := now },
        [.fragmentAdded])
    else (alone, [.assemblyReplaced, .fragmentAdded])

/-- An accepted fragment that makes its assembly whole, be it of one fragment or of several. With a rebuild in flight
the assembly waits, last in the order (R51). Otherwise it is validated at once (R52): a good one becomes the slot's
sheet for its day, its rebuild starts, listed records take the new version and its publication is requested (R53, R58,
R62); one that fails is rejected and leaves the held sheets, the list and the table as they were. -/
def Obligations.WholeSheetsCommit : Prop :=
  ∀ (s : State) (dt : Nat) (g : ReceivedFrame) (rest : List ReceivedFrame) (i : SlotIx), AtHead .sheet g rest s →
    s.WaitingSound →
    let f := readSheet g.body
    let x := madeWhole (s.elapsed + dt) f (s.sheets.slots.get i).assembly
    sheetRefusal s f = none → Serves s.loader.loaded i f.tag →
    collected s.clock.day (s.elapsed + dt) f (s.sheets.slots.get i).assembly = none →
    ∃ t ps, exec (.sheetFrame dt) s = .next t ∧
      OnlyChanges [.elapsed, .clock, .sheets, .table, .rx, .tx, .counters] s t ∧ Passes dt s t ∧
      t.rx = { s.rx with queue := rest } ∧ t.table = { s.table with rebuild := t.table.rebuild } ∧
      Weighed s.loader.loaded f s.sheets.publications ps ∧
      CountedOf [.publicationSuppressed, .fragmentAdded, .assemblyReplaced]
        (List.replicate (s.sheets.publications.length - ps.length) .publicationSuppressed ++ x.2) s t ∧
      (s.table.rebuild ≠ none →
        t.sheets = { s.sheets with
          slots := s.sheets.slots.set i { s.sheets.slots.get i with assembly := some x.1 }
          waiting := s.sheets.waiting ++ [i], publications := ps } ∧
        t.table = s.table ∧ t.tx = s.tx ∧ CountedOf commitCounters [] s t) ∧
      (s.table.rebuild = none → Good (s.sheets.slots.get i) x.1 →
        Commits { s.sheets with publications := ps } i x.1 [] s t) ∧
      (s.table.rebuild = none → ¬ Good (s.sheets.slots.get i) x.1 →
        t.sheets = { s.sheets with slots := emptied s.sheets.slots [i], publications := ps } ∧ t.table = s.table ∧
        t.tx = s.tx ∧ CountedOf commitCounters [.sheetRejected] s t)

/-- A COLLECTING assembly's last addition. -/
def Sys2Proof.Claims.CollectsSince (s : State) (i : SlotIx) (u : Nat) : Prop :=
  ∃ a, (s.sheets.slots.get i).assembly = some a ∧ a.state = .collecting ∧ a.lastAddition = u

/-- The COLLECTING assembly whose last addition is oldest is discarded at the assembly timeout (R50); of equal instants
the lowest slot's, which is the model's choice of assumption log 28. -/
def Obligations.AssembliesTimeOut : Prop :=
  ∀ (s : State) (i : SlotIx) (u : Nat), s.started = true → CollectsSince s i u →
    (∀ j v, CollectsSince s j v → u < v ∨ (u = v ∧ i ≤ j)) →
    let limit := u + 1000 * s.loader.loaded.assemblyTimeout
    ∃ t, exec .assemblyTimeout s = .next t ∧ OnlyChanges [.elapsed, .clock, .sheets, .counters] s t ∧
      Passes (limit - s.elapsed) s t ∧
      t.sheets = { s.sheets with slots := t.sheets.slots } ∧
      (∀ j, t.sheets.slots.get j =
        if j = i then { s.sheets.slots.get j with assembly := none } else s.sheets.slots.get j) ∧
      Counted [.assemblyTimedOut] s t

/-- At the end of its holdoff a record becomes SENDING with its cursor as it stands (R59), of equal instants the earlier
record, which is the model's choice of assumption log 28; and an IDLE send side grants the first source that has a frame
(R60, R161). -/
def Obligations.HoldoffsEnd : Prop :=
  ∀ (s : State) (before after : List Publication) (p : Publication) (u : Nat), s.started = true → s.RadioSound →
    s.sheets.publications = before ++ p :: after → p.state = .holdoff u →
    (∀ q ∈ before, ∀ v, q.state = .holdoff v → u < v) → (∀ q ∈ after, ∀ v, q.state = .holdoff v → u ≤ v) →
    ∃ t, exec .holdoffEnd s = .next t ∧ OnlyChanges [.elapsed, .clock, .sheets, .rx, .tx] s t ∧
      Passes (u - s.elapsed) s t ∧ RxSettles s.rx.queue s t ∧
      t.sheets = { s.sheets with publications := before ++ { p with state := .sending } :: after } ∧
      t.tx = arbitrated t s.tx t.elapsed

/-! ### The departure table and its predicted times (chapters 1 and 2) -/

/-- The projected delay of an observation at stop index `stop` (R30). -/
def Sys2Proof.Claims.delayOf (c : Loaded) (stop : Nat) : Option Observation → Int
  | none => 0
  | some o =>
    let hops : Int := if o.kind = .pass then (stop - o.stop : Nat) else 0
    if 0 ≤ o.delay then max 0 (o.delay - c.recovery * hops) else max o.delay (-(c.early : Int))

/-- The shown minutes at a remaining time `r`: the figure held before while `r` lies in its band, else the plain figure
(R34, R35). -/
def Sys2Proof.Claims.figureOf (c : Loaded) (held : Option Nat) (r : Int) : Nat :=
  let plain := if r < -30 then 0 else ((r + 30) / 60).toNat
  match held with
  | none => plain
  | some m => if 60 * (m : Int) - 30 - c.hysteresis ≤ r ∧ r < 60 * (m : Int) + 30 + c.hysteresis then m else plain

/-- What an evaluation leaves of an entry whose observation is not stale: P, state and shown minutes worked out anew, or
nothing where it is past its overdue grace (R27, R31 to R36). -/
def Sys2Proof.Claims.judgedEntry (c : Loaded) (now : Int) (e : Entry) : Option Entry :=
  let p := e.scheduled + delayOf c (c.slots.get e.slot).stopIndex e.observation
  let st := if e.state = .atStop then EntryState.atStop else if now < p then .expected else .overdue
  if st = .overdue ∧ p + c.grace ≤ now then none
  else some { e with
    predicted := p
    state := st
    shown := if st = .expected ∧ e.observation ≠ none then some (figureOf c e.shown (p - now)) else none }

/-- An evaluation first drops an observation older than the trust window, but not an AT_STOP entry's (R28); then it
projects, tests the state and updates the figure (R27, R30 to R36). A held figure changes only outside its band, then by
at least one minute (R35). -/
def Obligations.EvaluationFollowsItsSteps : Prop :=
  (∀ (c : Loaded) (now : Int) (e : Entry),
    e.evaluate c now =
      judgedEntry c now
        (if e.state ≠ .atStop ∧ ∃ o, e.observation = some o ∧ c.trust < now - o.time then { e with observation := none }
        else e)) ∧
  ∀ (c : Loaded) (m : Nat) (r : Int),
    let m' := nextFigure c (some m) r
    (r < 60 * (m : Int) - 30 - c.hysteresis → m' < m ∨ m = 0) ∧
    (60 * (m : Int) + 30 + c.hysteresis ≤ r → m < m') ∧
    (60 * (m : Int) - 30 - c.hysteresis ≤ r → r < 60 * (m : Int) + 30 + c.hysteresis → m' = m)

/-- The codes of the time field (R37, R38). -/
def Obligations.TimeFieldIsWrittenInCodes : Prop :=
  ∀ (c : Loaded) (e : Entry),
    let field := timeField c e
    let two := fun n : Nat => [BitVec.ofNat 8 (48 + n / 10), BitVec.ofNat 8 (48 + n % 10)]
    let blanks := fun n : Nat => List.replicate n 32#8
    let clock := fun (y : Int) =>
      let l := (c.dayStart * 60 + y) % 86400
      blanks 3 ++ two (l / 3600).toNat ++ [58#8] ++ two (l % 3600 / 60).toNat
    let min := [109#8, 105#8, 110#8]
    field.length = 8 ∧
    (e.state = .atStop → field = [32#8, 32#8, 32#8, 32#8, 32#8, 110#8, 111#8, 119#8]) ∧
    (e.state = .overdue → field = [32#8, 32#8, 32#8, 32#8, 32#8, 100#8, 117#8, 101#8]) ∧
    (e.state = .expected → e.shown = none → field = clock e.scheduled) ∧
    ∀ m, e.state = .expected → e.shown = some m →
      (m = 0 → field = [32#8, 32#8, 32#8, 32#8, 32#8, 100#8, 117#8, 101#8]) ∧
      (1 ≤ m → m ≤ 9 → field = blanks 3 ++ [BitVec.ofNat 8 (48 + m)] ++ [32#8] ++ min) ∧
      (m = 9 → field = [32#8, 32#8, 32#8, 57#8, 32#8, 109#8, 105#8, 110#8]) ∧
      (10 ≤ m → m ≤ 59 → field = blanks 2 ++ two m ++ [32#8] ++ min) ∧
      (60 ≤ m → field = clock e.predicted ∧
        ((c.dayStart * 60 + e.predicted) % 86400 / 60 = 12 * 60 + 27 →
          field = [32#8, 32#8, 32#8, 49#8, 50#8, 58#8, 50#8, 55#8]) ∧
        ((c.dayStart * 60 + e.predicted) % 86400 / 60 = 3 * 60 + 40 →
          field = [32#8, 32#8, 32#8, 48#8, 51#8, 58#8, 52#8, 48#8]))

/-- The texts of the loaded values have the lengths of their fields (5.1). -/
def Sys2Proof.Claims.TextsFit (c : Loaded) : Prop :=
  c.stopName.length = 24 ∧ c.standby.length = 32 ∧
    ∀ i : SlotIx, (c.slots.get i).label.length = 4 ∧ (c.slots.get i).destination.length = 18 ∧
      (c.slots.get i).shortTurn.length = 18

/-- Ten lines read as the rules give them. While time is invalid they are the standby board (R79). While it is valid:
line 0 the stop name and, in AMPLE, the station clock (R80); row r the label, the destination or, for a run that ends
before the slot's terminal, the short-turn text, and the time field of the table's r-th entry, blank where there is
none, but the standby text in row 1 of an empty table (R81 to R83); line 9 the current notice, blank where there is
none (R84). -/
def Sys2Proof.Claims.BoardReads (s : State) (lines : Vector Cells 10) : Prop :=
  let c := s.loader.loaded
  let blanks := fun n : Nat => List.replicate n 32#8
  let two := fun n : Nat => [BitVec.ofNat 8 (48 + n / 10), BitVec.ofNat 8 (48 + n % 10)]
  let x := (c.dayStart * 60 + s.clock.second) % 86400
  (s.clock.timeValid = false →
    lines.get 0 = c.stopName ++ blanks 8 ∧ lines.get 1 = c.standby ∧
    ∀ n : Fin 10, 2 ≤ n.val → lines.get n = blanks 32) ∧
  (s.clock.timeValid = true →
    lines.get 0 = c.stopName ++ blanks 3 ++
      (if s.planner.energy = .ample then two (x / 3600) ++ [58#8] ++ two (x % 3600 / 60) else blanks 5) ∧
    (∀ (n : Fin 10) (e : Entry), 1 ≤ n.val → n.val ≤ 8 → s.table.entries[n.val - 1]? = some e →
      let conf := c.slots.get e.slot
      let text := match e.terminal with
        | none => conf.destination
        | some i => if i < conf.terminal then conf.shortTurn else conf.destination
      lines.get n = conf.label ++ blanks 1 ++ text ++ blanks 1 ++ timeField c e) ∧
    (∀ n : Fin 10, 1 ≤ n.val → n.val ≤ 8 → s.table.entries.length < n.val →
      lines.get n = if n.val = 1 then c.standby else blanks 32) ∧
    (∀ i n, s.board.current = some i → s.board.notices[i]? = some n → n.text.length ≤ 30 →
      lines.get 9 = n.text ++ blanks (32 - n.text.length)) ∧
    (s.board.current = none → lines.get 9 = blanks 32))

/-- The targets worked out afresh read line by line as R79 to R84 give them, and they stand on the board after a board
tick and after an adopted CLOCK frame (R76, R77). -/
def Obligations.TargetsReadLineByLine : Prop :=
  (∀ s : State, TextsFit s.loader.loaded → BoardReads s s.composedTargets) ∧
  (∀ (s : State) (pass : PassPlace) (sweepFirst : Bool) (sweep : SweepOrder), s.started = true → s.RadioSound →
    TextsFit s.loader.loaded → s.clock.timeValid = true → (s.clock.second + 1) % 15 = 0 → s.clock.second < 86400 →
    ∃ t, exec (.countedSecond pass ⟨sweepFirst, sweep⟩) s = .next t ∧ BoardReads t t.board.targets) ∧
  ∀ (s : State) (dt : Nat) (o p : Bool) (g : ReceivedFrame) (rest : List ReceivedFrame), AtHead .clock g rest s →
    s.RadioSound → TextsFit s.loader.loaded →
    let f := readClock g.body
    f.stratum ≠ 7 → f.second ≤ 86399 →
    Adopted s.clock (s.clock.second * 1000 + s.clock.phase + dt) f (presentOf f (s.elapsed + dt - g.stamp)) →
    ∃ t, exec (.clockFrame dt o p) s = .next t ∧ t.clock.timeValid = true ∧ BoardReads t t.board.targets

/-- An entry is the one of a slot, day and run number (1.2). -/
def Sys2Proof.Claims.IsRun (e : Entry) (i : SlotIx) (day : Day) (run : Nat) : Prop :=
  e.slot = i ∧ e.day = day ∧ e.run = run

/-- An entry is the only one of its slot, day and run number among others (R1). -/
def Sys2Proof.Claims.Alone (e : Entry) (others : List Entry) : Prop :=
  ∀ x ∈ others, ¬ IsRun x e.slot e.day e.run

/-- The frame of a command of the table that may have changed the board: what it may touch, and the board at its end
(R2, R77). -/
def Sys2Proof.Claims.TableChanges (dt : Nat) (rest : List ReceivedFrame) (s t : State) : Prop :=
  OnlyChanges [.elapsed, .clock, .table, .board, .planner, .engine, .rx, .tx, .counters] s t ∧ Passes dt s t ∧
    RxSettles rest s t ∧ t.table = { s.table with entries := t.table.entries } ∧
    t.board = { s.board with
      targets := if t.table.entries = s.table.entries then s.board.targets else t.composedTargets }

/-- The table's own counters that its frames move. -/
def Sys2Proof.Claims.tableCounters : List Counter :=
  [.sightingTaken, .sightIgnored, .departure, .passageOriginated, .passAdvanced, .passNotAdvancing, .passUnmatched,
    .downstreamRemoval, .overdueRemoval, .observationExpired]

/-- The PASS frame of a report, its header carrying the tag's route group (11.1, R13). -/
def Sys2Proof.Claims.passOf (p : PassFields) : SendFrame := ⟨BitVec.ofNat 8 (96 + p.tag % 32), passBody p⟩

/-- A PASS frame from this stop or beyond removes its entry, in any state; nothing is relayed (R15). -/
def Obligations.PassFramesFromBeyondRemove : Prop :=
  ∀ (s : State) (dt : Nat) (g : ReceivedFrame) (rest : List ReceivedFrame) (i : SlotIx) (e : Entry)
    (before after : List Entry), AtHead .pass g rest s → s.RadioSound →
    let p := readPass g.body
    let off := (p.day - s.clock.day).toInt
    Serves s.loader.loaded i p.tag → (off = -1 ∨ off = 0 ∨ off = 1) →
    s.table.entries = before ++ e :: after → IsRun e i p.day p.run → Alone e before → Alone e after →
    (s.loader.loaded.slots.get i).stopIndex ≤ p.stop →
    ∃ t, exec (.passFrame dt) s = .next t ∧ TableChanges dt rest s t ∧ t.tx = s.tx ∧
      t.table.entries = before ++ after ∧ CountedOf tableCounters [.downstreamRemoval] s t

/-- A fresh PASS frame from before this stop that is ahead of the entry's observation, or meets a stale one, replaces
it, its delay clamped and its time placed on the timeline. A stale observation is dropped first and counted, and its
shown minutes with it (R28, R36). The entry is evaluated and takes its place, the others stay; and with hops left a
copy with one hop less is queued for relay (R14, R16, R17, R26). -/
def Obligations.PassFramesAdvance : Prop :=
  ∀ (s : State) (dt : Nat) (g : ReceivedFrame) (rest : List ReceivedFrame) (i : SlotIx) (e : Entry)
    (before after : List Entry), AtHead .pass g rest s → s.RadioSound →
    let p := readPass g.body
    let off := (p.day - s.clock.day).toInt
    let now : Int := s.clock.second
    let o : Observation := ⟨.pass, p.stop, max (-1800) (min 5400 p.delay), p.time + 86400 * off⟩
    Serves s.loader.loaded i p.tag → (off = -1 ∨ off = 0 ∨ off = 1) →
    s.table.entries = before ++ e :: after → IsRun e i p.day p.run → Alone e before → Alone e after →
    p.stop < (s.loader.loaded.slots.get i).stopIndex → e.state ≠ .atStop → now - o.time ≤ s.loader.loaded.trust →
    (∀ h, e.observation = some h → s.loader.loaded.trust < now - h.time ∨
      h.stop < o.stop ∨ (h.stop = o.stop ∧ h.time < o.time)) →
    let stale : Bool := match e.observation with
      | none => false
      | some h => decide (s.loader.loaded.trust < now - h.time)
    let weighed := judgedEntry s.loader.loaded now
      { e with observation := some o, shown := if stale then none else e.shown }
    let cases := (if stale then [.observationExpired] else []) ++ [Counter.passAdvanced]
    ∃ t, exec (.passFrame dt) s = .next t ∧ TableChanges dt rest s t ∧ InOrder t ∧
      (∀ x, weighed = some x →
        t.table.entries.Perm (x :: (before ++ after)) ∧ CountedOf tableCounters cases s t) ∧
      (weighed = none →
        t.table.entries.Perm (before ++ after) ∧ CountedOf tableCounters (cases ++ [.overdueRemoval]) s t) ∧
      Relayed (if p.hops = 0 then [] else [passOf { p with delay := o.delay, hops := p.hops - 1 }]) s t

/-- A PASS frame of no enabled slot's tag, or one that finds no entry, or one from before this stop for an entry that
is AT_STOP, is counted as unmatched; one that is not ahead of the entry's fresh observation, or is itself stale, is
counted as not advancing. Neither changes the table or is relayed (R14 to R17). A stale one that meets a stale
observation is not advancing either, but the entry's own observation is dropped and counted, and the entry evaluated
without it (R28). -/
def Obligations.PassFramesWithoutEffect : Prop :=
  (∀ (s : State) (dt : Nat) (g : ReceivedFrame) (rest : List ReceivedFrame), AtHead .pass g rest s → s.RadioSound →
    let p := readPass g.body
    (∀ i, Serves s.loader.loaded i p.tag →
      let off := (p.day - s.clock.day).toInt
      (off = -1 ∨ off = 0 ∨ off = 1) → ∀ e ∈ s.table.entries, IsRun e i p.day p.run →
        e.state = .atStop ∧ p.stop < (s.loader.loaded.slots.get i).stopIndex) →
    ∃ t, exec (.passFrame dt) s = .next t ∧ OnlyChanges [.elapsed, .clock, .engine, .rx, .counters] s t ∧
      Passes dt s t ∧
      RxSettles rest s t ∧ PortServes s t ∧ Counted [.passUnmatched] s t) ∧
  (∀ (s : State) (dt : Nat) (g : ReceivedFrame) (rest : List ReceivedFrame) (i : SlotIx) (e : Entry)
    (before after : List Entry), AtHead .pass g rest s → s.RadioSound →
    let p := readPass g.body
    let off := (p.day - s.clock.day).toInt
    let now : Int := s.clock.second
    let time := p.time + 86400 * off
    Serves s.loader.loaded i p.tag → (off = -1 ∨ off = 0 ∨ off = 1) →
    s.table.entries = before ++ e :: after → IsRun e i p.day p.run → Alone e before → Alone e after →
    p.stop < (s.loader.loaded.slots.get i).stopIndex → e.state ≠ .atStop →
    (∀ h, e.observation = some h → now - h.time ≤ s.loader.loaded.trust) →
    (s.loader.loaded.trust < now - time ∨
      ∃ h, e.observation = some h ∧ (p.stop < h.stop ∨ (p.stop = h.stop ∧ time ≤ h.time))) →
    ∃ t, exec (.passFrame dt) s = .next t ∧ OnlyChanges [.elapsed, .clock, .engine, .rx, .counters] s t ∧
      Passes dt s t ∧
      RxSettles rest s t ∧ PortServes s t ∧ Counted [.passNotAdvancing] s t) ∧
  ∀ (s : State) (dt : Nat) (g : ReceivedFrame) (rest : List ReceivedFrame) (i : SlotIx) (e : Entry)
    (before after : List Entry) (h : Observation), AtHead .pass g rest s → s.RadioSound →
    let p := readPass g.body
    let off := (p.day - s.clock.day).toInt
    let now : Int := s.clock.second
    Serves s.loader.loaded i p.tag → (off = -1 ∨ off = 0 ∨ off = 1) →
    s.table.entries = before ++ e :: after → IsRun e i p.day p.run → Alone e before → Alone e after →
    p.stop < (s.loader.loaded.slots.get i).stopIndex → e.state ≠ .atStop →
    e.observation = some h → s.loader.loaded.trust < now - h.time →
    s.loader.loaded.trust < now - (p.time + 86400 * off) →
    let judged := judgedEntry s.loader.loaded now { e with observation := none, shown := none }
    ∃ t, exec (.passFrame dt) s = .next t ∧ TableChanges dt rest s t ∧ InOrder t ∧ t.tx = s.tx ∧
      (∀ x, judged = some x → t.table.entries.Perm (x :: (before ++ after)) ∧
        CountedOf tableCounters [.observationExpired, .passNotAdvancing] s t) ∧
      (judged = none → t.table.entries.Perm (before ++ after) ∧
        CountedOf tableCounters [.observationExpired, .passNotAdvancing, .overdueRemoval] s t)

/-- A SIGHT frame fits an entry: an enabled slot's tag with its own stop index, the entry's run, a day D or D+1 (R9). -/
def Sys2Proof.Claims.Sees (s : State) (f : SightFields) (e : Entry) : Prop :=
  Serves s.loader.loaded e.slot f.tag ∧ (s.loader.loaded.slots.get e.slot).stopIndex = f.stop ∧ e.run = f.run ∧
    (e.day = s.clock.day ∨ e.day = s.clock.day + 1#16)

/-- An entry is the one a SIGHT frame is for: of those that fit, the one with the smallest S (R9). -/
def Sys2Proof.Claims.Sighted (s : State) (f : SightFields) (e : Entry) (before after : List Entry) : Prop :=
  Sees s f e ∧ (∀ x ∈ before, Sees s f x → e.scheduled < x.scheduled) ∧
  ∀ x ∈ after, Sees s f x → e.scheduled ≤ x.scheduled

/-- A SIGHT frame AT puts its entry AT_STOP with a SIGHT observation of this moment, its delay clamped; at an AT_STOP
entry it only moves the last sight time; the entry is evaluated and takes its place, the others stay (R9, R10). That a
stale observation it replaces is counted as expired is the model's choice of assumption log 13: R29 does not say that
the check is made. -/
def Obligations.SightAtPutsTheEntryAtStop : Prop :=
  ∀ (s : State) (dt : Nat) (g : ReceivedFrame) (rest : List ReceivedFrame) (e : Entry) (before after : List Entry),
    AtHead .sight g rest s → s.RadioSound →
    let f := readSight g.body
    let now : Int := s.clock.second
    f.phase = 0 → s.table.entries = before ++ e :: after → Alone e before → Alone e after → Sighted s f e before after →
    let seen : Entry := { e with
      state := .atStop
      lastSight := some now
      observation := if e.state = .atStop then e.observation
        else some ⟨.sight, f.stop, max (-1800) (min 5400 (now - e.scheduled)), now⟩ }
    let stale := e.state ≠ .atStop ∧ ∃ o, e.observation = some o ∧ s.loader.loaded.trust < now - o.time
    ∃ t, exec (.sightFrame dt) s = .next t ∧ TableChanges dt rest s t ∧ t.tx = s.tx ∧ InOrder t ∧
      (∀ x, judgedEntry s.loader.loaded now seen = some x → t.table.entries.Perm (x :: (before ++ after))) ∧
      judgedEntry s.loader.loaded now seen ≠ none ∧
      (stale → CountedOf tableCounters [.sightingTaken, .observationExpired] s t) ∧
      (¬ stale → CountedOf tableCounters [.sightingTaken] s t)

/-- The PASS frame a departure originates (R13). -/
def Sys2Proof.Claims.departureOf (s : State) (e : Entry) (leave : Int) : SendFrame :=
  passOf ⟨s.loader.loaded.stopId, (s.loader.loaded.slots.get e.slot).tag, e.run, e.day,
    (s.loader.loaded.slots.get e.slot).stopIndex, max (-1800) (min 5400 (leave - e.scheduled)),
    leave - 86400 * (e.day - s.clock.day).toInt, s.loader.loaded.ttl⟩

/-- A SIGHT frame LEAVING departs an AT_STOP entry: it is removed and counted, and with a hop limit above zero a
passage report is placed on the relay queue. An entry that is not AT_STOP stays, and the frame is counted as ignored
(R11, R13). So is a SIGHT frame that fits no entry, its tag and stop index being no enabled slot's or its run not in
the table under D or D+1, and one whose phase is neither AT nor LEAVING (R9, R175). -/
def Obligations.SightLeavingDepartsTheEntry : Prop :=
  (∀ (s : State) (dt : Nat) (g : ReceivedFrame) (rest : List ReceivedFrame) (e : Entry) (before after : List Entry),
    AtHead .sight g rest s → s.RadioSound →
    let f := readSight g.body
    f.phase = 1 → s.table.entries = before ++ e :: after → Alone e before → Alone e after → Sighted s f e before after →
    (e.state = .atStop →
      ∃ t, exec (.sightFrame dt) s = .next t ∧ TableChanges dt rest s t ∧ t.table.entries = before ++ after ∧
        CountedOf tableCounters (.departure :: if s.loader.loaded.ttl = 0 then [] else [.passageOriginated]) s t ∧
        Relayed (if s.loader.loaded.ttl = 0 then [] else [departureOf s e s.clock.second]) s t) ∧
    (e.state ≠ .atStop →
      ∃ t, exec (.sightFrame dt) s = .next t ∧ OnlyChanges [.elapsed, .clock, .engine, .rx, .counters] s t ∧
        Passes dt s t ∧ RxSettles rest s t ∧ PortServes s t ∧ Counted [.sightIgnored] s t)) ∧
  ∀ (s : State) (dt : Nat) (g : ReceivedFrame) (rest : List ReceivedFrame), AtHead .sight g rest s →
    let f := readSight g.body
    ((∀ e ∈ s.table.entries, ¬ Sees s f e) ∨ 1 < f.phase) →
    ∃ t, exec (.sightFrame dt) s = .next t ∧ OnlyChanges [.elapsed, .clock, .rx, .counters] s t ∧ Passes dt s t ∧
      t.rx = { s.rx with queue := rest } ∧ Counted [.sightIgnored] s t

/-- A run of an enabled slot's sheet under its day. -/
structure Sys2Proof.Claims.Call where
  slot : SlotIx
  day : Day
  run : Run

/-- The scheduled time of a call (R6). -/
def Sys2Proof.Claims.Call.comes (x : Call) (s : State) : Int :=
  86400 * (x.day - s.clock.day).toInt + x.run.origin + (s.loader.loaded.slots.get x.slot).offset

/-- A call of some slots' sheets is a candidate above some fill marks (R6): one whose entry the table holds is none, so
that there are never two (R1; assumption log 39). -/
def Sys2Proof.Claims.Due (s : State) (slots : Vector SlotSheets 6) (held : List Entry) (marks : Vector Int 6)
    (x : Call) : Prop :=
  let conf := s.loader.loaded.slots.get x.slot
  conf.enabled = true ∧ (x.day = s.clock.day ∨ x.day = s.clock.day + 1#16) ∧
    (∃ sh ∈ (slots.get x.slot).sheets, sh.day = x.day ∧ x.run ∈ sh.runs) ∧
    (∀ e ∈ held, ¬ IsRun e x.slot x.day x.run.number) ∧
    marks.get x.slot < x.comes s ∧ x.comes s ≤ s.clock.second + s.loader.loaded.horizon ∧
    ∀ i, x.run.terminal = some i → conf.stopIndex ≤ i

/-- The pass order: S, route tag, run number, day offset, each used only where the earlier ones are equal (R7). -/
def Sys2Proof.Claims.Ahead (s : State) (x y : Call) : Prop :=
  let tag := fun z : Call => (s.loader.loaded.slots.get z.slot).tag
  x.comes s < y.comes s ∨ x.comes s = y.comes s ∧
    (tag x < tag y ∨ tag x = tag y ∧
      (x.run.number < y.run.number ∨ x.run.number = y.run.number ∧
        (x.day - s.clock.day).toInt ≤ (y.day - s.clock.day).toInt))

/-- Two calls belong to one group: of one slot, with one S (R7). -/
def Sys2Proof.Claims.Together (s : State) (x y : Call) : Prop := x.slot = y.slot ∧ x.comes s = y.comes s

/-- All candidates above some fill marks, in pass order, parted into their groups (R6, R7). -/
def Sys2Proof.Claims.Grouped (s : State) (slots : Vector SlotSheets 6) (held : List Entry) (marks : Vector Int 6)
    (gs : List (List Call)) : Prop :=
  gs.flatten.Nodup ∧ (∀ x, x ∈ gs.flatten ↔ Due s slots held marks x) ∧ gs.flatten.Pairwise (Ahead s) ∧
    (∀ g ∈ gs, g ≠ [] ∧ ∀ x ∈ g, ∀ y ∈ g, Together s x y) ∧
    ∀ before g h after, gs = before ++ g :: h :: after → ∀ x ∈ g, ∀ y ∈ h, ¬ Together s x y

/-- What a pass takes of its groups where `used` of the 48 places are taken: whole groups up to the first that does not
fit, at which it ends; or, of a first group larger than the table that meets every place free, the first 48, the others
being lost (R7). -/
def Sys2Proof.Claims.Admits (used : Nat) (gs : List (List Call)) (taken lost : List Call) : Prop :=
  if used = 0 ∧ (∃ g, gs.head? = some g ∧ 48 < g.length) then
    ∃ g, gs.head? = some g ∧ taken = g.take 48 ∧ lost = g.drop 48
  else
    lost = [] ∧ ∃ n ≤ gs.length, taken = (gs.take n).flatten ∧ (n = 0 ∨ used + taken.length ≤ 48) ∧
      ∀ g, gs[n]? = some g → 48 < used + taken.length + g.length

/-- The entry of an admitted call (R8). -/
def Sys2Proof.Claims.entryOf (s : State) (x : Call) : Entry :=
  ⟨x.slot, x.day, x.run.number, x.run.origin, x.run.terminal, x.comes s, none, x.comes s, .expected, none, none⟩

/-- Whether an entry holds an observation older than the trust window, which an evaluation drops (R28). -/
def Sys2Proof.Claims.outdated (s : State) (e : Entry) : Bool :=
  match e.observation with
  | none => false
  | some o => decide (e.state ≠ .atStop ∧ s.loader.loaded.trust < (s.clock.second : Int) - o.time)

/-- An entry through an evaluation (R27). -/
def Sys2Proof.Claims.evaluated (s : State) (e : Entry) : Option Entry :=
  judgedEntry s.loader.loaded s.clock.second (if outdated s e then { e with observation := none } else e)

/-- Whether an entry's bus stands at the stop and was last seen the sight-loss time ago or more (R12). -/
def Sys2Proof.Claims.lostSight (s : State) (e : Entry) : Bool :=
  match e.lastSight with
  | none => false
  | some u => decide (e.state = .atStop ∧ (s.loader.loaded.sightLoss : Int) ≤ s.clock.second - u)

/-- The entries after a day rollover: S, P, observation time and last sight one day back, and those more than an hour in
the past removed (R23). -/
def Sys2Proof.Claims.overnight (es : List Entry) : List Entry :=
  (es.map fun e => { e with
    scheduled := e.scheduled - 86400
    predicted := e.predicted - 86400
    observation := e.observation.map fun o => { o with time := o.time - 86400 }
    lastSight := e.lastSight.map fun u => u - 86400 }).filter fun e => decide (-3600 ≤ e.scheduled)

/-- The fill marks after a day rollover (R23). -/
def Sys2Proof.Claims.marksBack (marks : Vector Int 6) : Vector Int 6 := marks.map fun m => m - 86400

/-- A fill pass at `t` over some slots' sheets, that finds the entries `held` and the fill marks `marks`: it admits the
calls `taken`, loses the calls `lost`, and leaves each slot's mark at the S of its last (R5 to R7). -/
def Sys2Proof.Claims.Filled (slots : Vector SlotSheets 6) (held : List Entry) (marks : Vector Int 6)
    (taken lost : List Call) (t : State) : Prop :=
  (∃ gs, Grouped t slots held marks gs ∧ Admits held.length gs taken lost) ∧ t.table.passOwed = false ∧
    ∀ i, t.table.marks.get i =
      match ((taken ++ lost).filter fun x => x.slot = i).getLast? with
      | none => marks.get i
      | some x => x.comes t

/-- The table has turned from `s` to `t`: of the entries `before`, those whose bus is lost have gone; a fill pass over
the sheets of `slots` and the marks `marks`, which found the entries `held`, has admitted its candidates; or, with a
rebuild in flight (`owes`), the pass is owed; and every entry has been evaluated (R5 to R8, R12, R20, R26). -/
def Sys2Proof.Claims.Turned (owes : Bool) (slots : Vector SlotSheets 6) (held before : List Entry)
    (marks : Vector Int 6) (s t : State) : Prop :=
  ∃ taken lost,
    (if owes then taken = [] ∧ lost = [] ∧ t.table.passOwed = true ∧ t.table.marks = marks
      else Filled slots held marks taken lost t) ∧
    let kept := before.filter fun e => !lostSight t e
    let all := kept ++ taken.map (entryOf t)
    t.table.entries.Perm (all.filterMap (evaluated t)) ∧
    CountedOf [.admission, .admissionLoss, .overdueRemoval, .observationExpired, .departure]
      (List.replicate taken.length .admission ++ List.replicate lost.length .admissionLoss ++
        List.replicate (all.length - t.table.entries.length) .overdueRemoval ++
        List.replicate (kept.countP (outdated t)) .observationExpired ++
        List.replicate (before.length - kept.length) .departure) s t

/-- The entries of `before` whose bus is lost depart, each with its last sight time as leave time in its report (R12,
R13); in table order where `ordered`. -/
def Sys2Proof.Claims.LostDepart (ordered : Prop) (before : List Entry) (s t : State) : Prop :=
  ∃ left : List Entry, left.Perm (before.filter fun e => lostSight t e) ∧
    (ordered → left = before.filter fun e => lostSight t e) ∧
    let reports := if s.loader.loaded.ttl = 0 then [] else left.map fun e => departureOf t e (e.lastSight.getD 0)
    CountedOf [.departure, .passageOriginated]
      (List.replicate left.length .departure ++ List.replicate reports.length .passageOriginated) s t ∧
    Relayed reports s t

/-- A fill pass admits only runs of enabled slots' sheets for D and D+1 that this stop serves, above their slot's fill
mark and within the horizon, with neither observation nor figure, and none that it holds already (R1; assumption log
39); and it takes no entry out (R6 to R8). At an adopted clock step the table's lost buses depart with their reports
and a fill pass admits, in pass order and group by group, until a group does not fit, each admitted entry evaluated and
its slot's mark moved to its S; at a next-day adoption after a rollover (R7, R8, R12, R13, R23, R24, R71). A first
adoption or a day jump empties the table, sets every enabled slot's mark to now and then fills (R22, R25), before the
commit that a jump lets happen or after it, as the command's operand says (assumption log 10), and after the store has
discarded by the new days, which is assumption log 37's. The place an entry admitted past its grace uses up is
assumption log 35's. -/
def Obligations.FillPassesAdmitCandidates : Prop :=
  (∀ (s : State) (e : Entry), s.clock.timeValid = true →
    (e ∈ s.table.entries → e ∈ s.fillPass.table.entries) ∧
    (e ∈ s.fillPass.table.entries → e ∈ s.table.entries ∨
      ∃ sh ∈ (s.sheets.slots.get e.slot).sheets, ∃ r ∈ sh.runs,
        let conf := s.loader.loaded.slots.get e.slot
        let off : Int := if sh.day = s.clock.day then 0 else 1
        conf.enabled = true ∧ (sh.day = s.clock.day ∨ sh.day = s.clock.day + 1#16) ∧
          e.day = sh.day ∧ e.run = r.number ∧ e.origin = r.origin ∧ e.terminal = r.terminal ∧
          e.scheduled = 86400 * off + r.origin + conf.offset ∧
          s.table.marks.get e.slot < e.scheduled ∧ e.scheduled ≤ s.clock.second + s.loader.loaded.horizon ∧
          (∀ x, r.terminal = some x → conf.stopIndex ≤ x) ∧ (∀ x ∈ s.table.entries, ¬ IsRun x e.slot e.day e.run) ∧
          e.observation = none ∧ e.lastSight = none ∧ e.shown = none)) ∧
  ∀ (s : State) (dt : Nat) (o passFirst : Bool) (g : ReceivedFrame) (rest : List ReceivedFrame),
    AtHead .clock g rest s → s.RadioSound → s.SheetsSound →
    let f := readClock g.body
    let p := presentOf f (s.elapsed + dt - g.stamp)
    f.stratum ≠ 7 → f.second ≤ 86399 → Adopted s.clock (s.clock.second * 1000 + s.clock.phase + dt) f p →
    ∃ t, exec (.clockFrame dt o passFirst) s = .next t ∧
      (s.clock.timeValid = true → p.day = s.clock.day ∨ p.day = s.clock.day + 1#16 →
        let rolls := p.day ≠ s.clock.day
        let before := if rolls then overnight s.table.entries else s.table.entries
        let marks := if rolls then marksBack s.table.marks else s.table.marks
        let held := if passFirst then before else before.filter fun e => !lostSight t e
        t.table.rebuild = s.table.rebuild ∧ Turned s.table.rebuild.isSome t.sheets.slots held before marks s t ∧
        LostDepart True before s t ∧
        CountedOf [.rolloverRemoval] (List.replicate (s.table.entries.length - before.length) .rolloverRemoval) s t) ∧
      (s.clock.timeValid = false ∨ (p.day ≠ s.clock.day ∧ p.day ≠ s.clock.day + 1#16) →
        let jumps := s.clock.timeValid = true
        let slots := if jumps ∧ passFirst then (discarded p.day s.sheets).slots else t.sheets.slots
        let marks : Vector Int 6 := Vector.ofFn fun i =>
          if (s.loader.loaded.slots.get i).enabled then (t.clock.second : Int) else s.table.marks.get i
        Turned false slots [] [] marks s t ∧ (¬ jumps → t.table.rebuild = none) ∧
        CountedOf [.flushed] (List.replicate s.table.entries.length .flushed) s t)

/-- A counted second in the table. At X = 0 the day has rolled over (R23). An entry whose bus is lost departs, with its
last sight time as leave time in its report (R12, R13). At a minute boundary a fill pass admits, in pass order and
group by group, until a group does not fit, or is owed while a rebuild is in flight (R5, R7, R20); at a board tick
every entry is evaluated (R26); and no other second does either. The place of the pass among the checks and evaluations
is the command's operand (assumption log 10); that reports of one second go in table order is log 23. What a pass takes
of a run it holds is log 39, and of a run past its grace log 35. -/
def Obligations.SecondsTurnTheTable : Prop :=
  ∀ (s : State) (pass : PassPlace) (sweepFirst : Bool) (sweep : SweepOrder), s.started = true → s.RadioSound →
    s.SheetsSound → s.clock.timeValid = true → s.clock.second < 86400 →
    let rolls := s.clock.second + 1 = 86400
    let before := if rolls then overnight s.table.entries else s.table.entries
    let marks := if rolls then marksBack s.table.marks else s.table.marks
    ∃ t, exec (.countedSecond pass ⟨sweepFirst, sweep⟩) s = .next t ∧
      let kept := before.filter fun e => !lostSight t e
      let held := match pass with
        | .first => before
        | .afterChecks => kept
        | .afterEvaluations => before.filterMap (evaluated t)
        | .last => kept.filterMap (evaluated t)
      t.table.rebuild = s.table.rebuild ∧
      CountedOf [.rolloverRemoval] (List.replicate (s.table.entries.length - before.length) .rolloverRemoval) s t ∧
      (t.clock.second % 60 = 0 → Turned s.table.rebuild.isSome t.sheets.slots held before marks s t) ∧
      (t.clock.second % 60 ≠ 0 → t.table.marks = s.table.marks ∧ t.table.passOwed = s.table.passOwed ∧
        CountedOf [.admission, .admissionLoss] [] s t ∧
        (t.clock.second % 15 = 0 → t.table.entries.Perm (kept.filterMap (evaluated t))) ∧
        (t.clock.second % 15 ≠ 0 → t.table.entries = kept)) ∧
      LostDepart (pass ≠ .afterEvaluations) before s t

/-- An entry of a rebuild's slot and day as the recorded sheet gives it, its state, observation, last sight and figure
as they were; nothing where its run is missing, turns back before this stop, lies beyond the horizon or more than an
hour in the past; and any other entry as it is (R21). -/
def Sys2Proof.Claims.resheeted (s : State) (r : Rebuild) (e : Entry) : Option Entry :=
  let off := (r.day - s.clock.day).toInt
  if e.slot = r.slot ∧ e.day = r.day ∧ (off = -1 ∨ off = 0 ∨ off = 1) then
    match r.runs.filter fun x => decide (x.number = e.run) with
    | [] => none
    | x :: _ =>
      let conf := s.loader.loaded.slots.get r.slot
      let at_ : Int := 86400 * off + x.origin + conf.offset
      if (∃ i, x.terminal = some i ∧ i < conf.stopIndex) ∨ s.clock.second + s.loader.loaded.horizon < at_ ∨
          at_ < -3600 then none
      else some { e with origin := x.origin, terminal := x.terminal, scheduled := at_ }
  else some e

/-- An entry through a rebuild: evaluated where its S, O or terminal index has changed (R21, R26). -/
def Sys2Proof.Claims.rebuilt (s : State) (r : Rebuild) (e : Entry) : Option Entry :=
  match resheeted s r e with
  | none => none
  | some x => if x = e then some e else evaluated s x

/-- A rebuild completes (R21): each entry of its slot and day follows the recorded sheet or is removed, the changed
ones evaluated; others stay. The slot's fill mark rises to the largest S of its entries that are left; those the
evaluation removed count no more, which is assumption log 29. Then the flag clears: a fill pass admits as in the turn
of the list and settles an owed one, and the assembly that waits first and is good commits (R5 to R8, R51). Which of
the two comes first, and so whether the pass sees the new sheet, is the command's operand (assumption log 10). With the
commit first the pass takes no run whose old entry still stands (R1; log 39); the place an entry admitted past its
grace uses up is log 35's. -/
def Obligations.RebuildsComplete : Prop :=
  ∀ (s : State) (dt : Nat) (commitFirst : Bool) (r : Rebuild), s.started = true → s.RadioSound → s.SheetsSound →
    s.WaitingSound → s.clock.timeValid = true → s.table.rebuild = some r →
    let held := s.table.entries.filterMap (rebuilt s r)
    let changed := s.table.entries.filterMap fun e => (resheeted s r e).filter fun x => decide (x ≠ e)
    let marks : Vector Int 6 := Vector.ofFn fun i =>
      let off := (r.day - s.clock.day).toInt
      if i = r.slot ∧ (off = -1 ∨ off = 0 ∨ off = 1) then
        ((held.filter fun e => decide (e.slot = i)).map (·.scheduled)).foldl max (s.table.marks.get i)
      else s.table.marks.get i
    ∃ t taken lost, exec (.rebuildCompletion ⟨dt, commitFirst⟩) s = .next t ∧
      OnlyChanges [.elapsed, .clock, .sheets, .table, .board, .planner, .engine, .rx, .tx, .counters] s t ∧
      Passes dt s t ∧
      RxSettles s.rx.queue s t ∧ Released s.sheets s t ∧
      Filled (if commitFirst then t.sheets.slots else s.sheets.slots) held marks taken lost t ∧
      (let admitted := taken.filterMap fun x => evaluated t (entryOf t x)
      t.table.entries.Perm (held ++ admitted) ∧ (InOrder s → InOrder t) ∧
      CountedOf [.rebuildRemoval, .admission, .admissionLoss, .overdueRemoval, .observationExpired]
        (List.replicate (s.table.entries.countP fun e => (resheeted s r e).isNone) .rebuildRemoval ++
          List.replicate taken.length .admission ++ List.replicate lost.length .admissionLoss ++
          List.replicate (changed.countP (fun x => (evaluated t x).isNone) + (taken.length - admitted.length))
            .overdueRemoval ++
          List.replicate (changed.countP (outdated t)) .observationExpired) s t) ∧
      t.board = { s.board with
        targets := if t.table.entries = s.table.entries then s.board.targets else t.composedTargets }

/-! ### Notices (5.8) -/

/-- A notice's expiry on the timeline of a day (R86). -/
def Sys2Proof.Claims.expiryOf (day : Day) (n : Notice) : Int := 86400 * (n.expiryDay - day).toInt + n.expirySecond

/-- The notice a frame's fields make, its text cut to 30 codes; the scope byte names ALL, ROUTE or STOP (R85, R86). -/
def Sys2Proof.Claims.noticeOf (f : NoticeFields) : Notice :=
  ⟨f.origin, f.serial,
    match f.scope with
    | 1 => .route (f.scopeId % 4096)
    | 2 => .stop (BitVec.ofNat 16 f.scopeId)
    | _ => .all (BitVec.ofNat 16 f.scopeId),
    f.priority = 1, f.expiryDay, f.expirySecond, f.text.take 30⟩

/-- The checks of R86 in their order: the first a NOTICE frame fails, as its counter. -/
def Sys2Proof.Claims.noticeRefusal (s : State) (f : NoticeFields) : Option Counter :=
  let n := noticeOf f
  let stranger : Bool :=
    match n.scope with
    | .all _ => false
    | .route tag => (servedSlot s.loader.loaded tag).isNone
    | .stop id => id != s.loader.loaded.stopId
  if 2 < f.scope ∨ 1 < f.priority ∨ (f.scope = 1 ∧ f.scopeId % 4096 = 0) ∨ 86399 < f.expirySecond ∨ 15 < f.hops then
    some .noticeMalformed
  else if s.clock.timeValid = false then some .noticeOutOfDay
  else if stranger then some .noticeOutOfScope
  else if (n.expiryDay ≠ s.clock.day ∧ n.expiryDay ≠ s.clock.day + 1#16) ∨ expiryOf s.clock.day n ≤ s.clock.second then
    some .noticeOutOfDay
  else if ∃ m ∈ s.board.notices, m.origin = n.origin ∧
      ¬ (1 ≤ (n.serial - m.serial).toNat ∧ (n.serial - m.serial).toNat ≤ 127)
  then some .noticeNotNewer
  else none

/-- A CLOCK frame that is malformed, outranked or agreeing is counted and has no effect (R66, R67). A SHEET frame that
fails an acceptance check cancels what records it cancels, and is counted under the first check it fails (R46, R59). A
NOTICE frame that fails a check is counted under the first it fails and changes nothing (R86). -/
def Obligations.ClockSheetAndNoticeFramesRefused : Prop :=
  (∀ (s : State) (dt : Nat) (a b : Bool) (g : ReceivedFrame) (rest : List ReceivedFrame), AtHead .clock g rest s →
    let f := readClock g.body
    let p := presentOf f (s.elapsed + dt - g.stamp)
    let bad := f.stratum = 7 ∨ 86399 < f.second
    bad ∨ ¬ Adopted s.clock (s.clock.second * 1000 + s.clock.phase + dt) f p →
    ∃ t, exec (.clockFrame dt a b) s = .next t ∧ OnlyChanges [.elapsed, .clock, .rx, .counters] s t ∧ Passes dt s t ∧
      t.rx = { s.rx with queue := rest } ∧
      Counted [if bad then .clockMalformed
        else if s.clock.stratum ≤ f.stratum then .clockOutranked
        else .clockAgreeing] s t) ∧
  (∀ (s : State) (dt : Nat) (g : ReceivedFrame) (rest : List ReceivedFrame) (c : Counter), AtHead .sheet g rest s →
    let f := readSheet g.body
    sheetRefusal s f = some c →
    ∃ t, exec (.sheetFrame dt) s = .next t ∧ OnlyChanges [.elapsed, .clock, .sheets, .rx, .counters] s t ∧
      Passes dt s t ∧ t.rx = { s.rx with queue := rest } ∧
      t.sheets = { s.sheets with publications := t.sheets.publications } ∧
      Weighed s.loader.loaded f s.sheets.publications t.sheets.publications ∧
      Counted
        (List.replicate (s.sheets.publications.length - t.sheets.publications.length) .publicationSuppressed ++ [c]) s t) ∧
  ∀ (s : State) (dt : Nat) (g : ReceivedFrame) (rest : List ReceivedFrame) (c : Counter), AtHead .notice g rest s →
    noticeRefusal s (readNotice g.body) = some c →
    ∃ t, exec (.noticeFrame dt) s = .next t ∧ OnlyChanges [.elapsed, .clock, .rx, .counters] s t ∧ Passes dt s t ∧
      t.rx = { s.rx with queue := rest } ∧ Counted [c] s t

/-- The part after a NOTICE frame that passes the checks: the store holds `ns`, the cases `cs` are counted, the board
shows the store, and a stored notice with hops left is relayed with one hop less (R87 to R89, R77). `stays` and `place`
say whether the current notice is still stored and where it stands or stood, for the settling of the rotation (R91). -/
def Sys2Proof.Claims.NoticeTaken (dt : Nat) (rest : List ReceivedFrame) (f : NoticeFields) (ns : List Notice)
    (stays : Prop) (place : Nat) (cs : List Counter) (isStored : Bool) (s t : State) : Prop :=
  let n := noticeOf f
  let group := match n.scope with
    | .route tag => tag % 32
    | _ => 0
  let relays := isStored && decide (0 < f.hops)
  OnlyChanges [.elapsed, .clock, .board, .planner, .engine, .rx, .tx, .counters] s t ∧ Passes dt s t ∧
    RxSettles rest s t ∧ t.board.notices = ns ∧ t.board.targets = t.composedTargets ∧
    (isStored = true → Settles stays place t.elapsed s.board t.board) ∧
    (isStored = false → t.board = { s.board with targets := t.board.targets }) ∧
    CountedOf [.noticeTruncated, .noticeStored, .noticeReplaced, .noticeEvicted, .noticeDiscarded, .noticeRelayed]
      (cs ++ (if 30 < f.text.length then [.noticeTruncated] else []) ++ if relays then [.noticeRelayed] else []) s t ∧
    Relayed (if relays then [⟨BitVec.ofNat 8 (160 + group), noticeBody n (f.hops - 1)⟩] else []) s t

/-- A notice that passes the checks takes the place of the one of its origin; or is stored last while a place is free;
or, if URGENT and the store is full, evicts the NORMAL notice that expires first; and is discarded otherwise (R87,
R88). The rotation is settled once after the change, which for an eviction is assumption log 26 (R91, R93). -/
def Obligations.NoticesAreStored : Prop :=
  ∀ (s : State) (dt : Nat) (g : ReceivedFrame) (rest : List ReceivedFrame), AtHead .notice g rest s → s.RadioSound →
    s.RotationSound →
    let f := readNotice g.body
    let n := noticeOf f
    let i := s.board.current.getD 0
    noticeRefusal s f = none →
    (∀ before m after, s.board.notices = before ++ m :: after → m.origin = n.origin →
      (∀ x ∈ before, x.origin ≠ n.origin) →
      ∃ t, exec (.noticeFrame dt) s = .next t ∧
        NoticeTaken dt rest f (before ++ n :: after) True i [.noticeReplaced] true s t) ∧
    ((∀ x ∈ s.board.notices, x.origin ≠ n.origin) →
      (s.board.notices.length < 4 → ∃ t, exec (.noticeFrame dt) s = .next t ∧
        NoticeTaken dt rest f (s.board.notices ++ [n]) True i [.noticeStored] true s t) ∧
      (4 ≤ s.board.notices.length → n.urgent = true → ∀ before m after, s.board.notices = before ++ m :: after →
        m.urgent = false →
        (∀ x ∈ before, x.urgent = false → expiryOf s.clock.day m < expiryOf s.clock.day x) →
        (∀ x ∈ after, x.urgent = false → expiryOf s.clock.day m ≤ expiryOf s.clock.day x) →
        ∃ t, exec (.noticeFrame dt) s = .next t ∧
          NoticeTaken dt rest f (before ++ after ++ [n]) (i ≠ before.length) (if before.length < i then i - 1 else i)
            [.noticeEvicted, .noticeStored] true s t) ∧
      (4 ≤ s.board.notices.length → n.urgent = false ∨ (∀ x ∈ s.board.notices, x.urgent = true) →
        ∃ t, exec (.noticeFrame dt) s = .next t ∧
          NoticeTaken dt rest f s.board.notices True i [.noticeDiscarded] false s t))

/-! ### Service (10.3) -/

/-- A QUERY is judged in the order of R172. A taken one puts into the reply slot a REPLY with the tool id, code and
page of the QUERY and the page's payload as the state stands once the QUERY is taken; an IDLE send side grants it at
once (R173, R161). That the page counts the QUERY itself is the model's choice of assumption log 19. A REPLY heard from
another sign is discarded (R154). -/
def Obligations.ServiceFramesAreAnswered : Prop :=
  ∀ (s : State) (dt : Nat) (g : ReceivedFrame) (rest : List ReceivedFrame),
    (AtHead .query g rest s → s.RadioSound →
      let q := readQuery g.body
      let refused : Option Counter :=
        if q.code < 1 ∨ 5 < q.code then some .queryMalformed
        else if q.target ≠ s.loader.loaded.stopId then some .queryOtherStop
        else if s.tx.reply ≠ none then some .queryBusy
        else none
      (∀ c, refused = some c → ∃ t, exec (.queryFrame dt) s = .next t ∧
        OnlyChanges [.elapsed, .clock, .rx, .counters] s t ∧ Passes dt s t ∧ t.rx = { s.rx with queue := rest } ∧
        Counted [c] s t) ∧
      (refused = none → ∃ t v, exec (.queryFrame dt) s = .next t ∧
        OnlyChanges [.elapsed, .clock, .rx, .tx, .counters] s t ∧ Passes dt s t ∧ RxSettles rest s t ∧
        Counted [.queryTaken] s t ∧
        OnlyChanges [.elapsed, .clock, .rx, .counters] s v ∧ Passes dt s v ∧ v.rx = { s.rx with queue := rest } ∧
        Counted [.queryTaken] s v ∧
        let reply : SendFrame := ⟨0xE0#8, bytesOf 2 q.tool.toNat ++ bytesOf 1 q.code ++ bytesOf 1 q.page ++
          payload v q.code q.page⟩
        t.tx = arbitrated t { s.tx with reply := some reply } t.elapsed)) ∧
    (AtHead .reply g rest s → s.RadioSound → ∃ t, exec (.replyDiscarded dt) s = .next t ∧
      OnlyChanges [.elapsed, .clock, .rx, .counters] s t ∧ Passes dt s t ∧ t.rx = { s.rx with queue := rest } ∧
      Counted [.replyDiscarded] s t)

/-! ### Sensing and the energy account (chapters 6 and 8) -/

/-- The energy state after an evaluation (the table of R98). -/
def Sys2Proof.Claims.energyAfter (c : Loaded) (before : Energy) (eav tp tl : Nat) : Energy :=
  if eav ≤ tp then .dormant
  else if (before = .dormant ∨ before = .scarce) ∧ tl + 500 ≤ eav then
    if c.ample + 500 ≤ eav then .ample else .lean
  else if before = .dormant ∨ before = .scarce then before
  else if eav < tl then .scarce
  else if before = .ample then (if c.ample ≤ eav then .ample else .lean)
  else if c.ample + 500 ≤ eav then .ample else .lean

/-- The counter of an energy state entered (R117). -/
def Sys2Proof.Claims.entryCounter : Energy → Counter
  | .ample => .ampleEntered
  | .lean => .leanEntered
  | .scarce => .scarceEntered
  | .dormant => .dormantEntered

/-- The receive side in the mode an energy state sets, with its timers and windows (R155, R158); radio power is on, in
SNIFF before the sniff timer's expiry by assumption log 22. -/
def Sys2Proof.Claims.rxInMode (c : Loaded) (now : Nat) (e : Energy) (r : Receiver) : Receiver :=
  { r with
    mode := if e = .dormant then .sniff else if e = .scarce then .doze else .listen
    quietTimer := if e = .lean then some (now + 1000 * c.quietInterval) else none
    sniffTimer := if e = .dormant then some now else none
    window := .closed
    radio := true }

/-- The remaining cost of a job: its cost by the share of its phases not completed, rounded up (R96). -/
def Sys2Proof.Claims.costLeft (j : Job) : Nat :=
  let n := if j.mode = .clearing then 10 else 4
  (j.cost * (n - j.phaseIndex) + (n - 1)) / n

/-- A conversion that completes gives a voltage, which joins the last three; from their median the planner works out V,
Eav, Tp, Tl* and the energy state (R95, R97, R98, R139, R140). A change of the state, and the first scan, set the
receive mode (R155), where radio power stays on in SNIFF before the sniff timer's expiry by assumption log 22; at a
change the board is composed anew and an IDLE send side arbitrates (R99, R161); leaving DORMANT sets the fresh-band
hold and clears the halt request, entering it clears the hold (R115, R121). A SUSPENDED job resumes where the
conditions of R132 hold, with its phase index, band and content as they stood, and stays SUSPENDED otherwise. -/
def Obligations.ScansDriveTheEnergyState : Prop :=
  ∀ (s : State) (dt : Nat) (counts : BitVec 12), s.started = true → s.RadioSound → s.sense.converting = true →
    s.sense.history.length ≤ 3 →
    let c := s.loader.loaded
    let h := (s.sense.history ++ [counts.toNat * c.fullScale / 4096]).drop (s.sense.history.length - 2)
    let tp := c.reserve + 9 * (match s.sense.band with
      | .b2 => c.clearingCost.b2
      | .b3 => c.clearingCost.b3
      | .b4 => c.clearingCost.b4
      | _ => c.clearingCost.b1)
    let tl := max c.lean (tp + 1)
    ∃ t v, exec (.scanCompletion dt counts) s = .next t ∧
      OnlyChanges [.elapsed, .clock, .board, .planner, .engine, .sense, .rx, .tx, .counters] s t ∧ Passes dt s t ∧
      (match h with
        | [a] => v = a
        | [a, b] => v = min a b
        | [a, b, d] => (v = a ∨ v = b ∨ v = d) ∧ ∃ x y, ([a, b, d].Perm [x, v, y] ∧ x ≤ v ∧ v ≤ y)
        | _ => False) ∧
      t.sense = { s.sense with history := h, median := some v, converting := false } ∧
      let eav := if v > c.floorVoltage then
        (100 * c.capacitance * (v ^ 2 - c.floorVoltage ^ 2)) / 2000000 else 0
      let e := energyAfter c s.planner.energy eav tp tl
      t.planner.voltage = some v ∧ t.planner.available = eav ∧ t.planner.parkThreshold = tp ∧
        t.planner.leanThreshold = tl ∧ t.planner.energy = e ∧
        (if e ≠ s.planner.energy ∨ s.sense.history = [] then t.rx = rxInMode c t.elapsed e s.rx
          else RxSettles s.rx.queue s t) ∧
        t.board = { s.board with
          targets := if e = s.planner.energy then s.board.targets else t.composedTargets } ∧
        t.tx = (if e = s.planner.energy then s.tx else arbitrated t s.tx t.elapsed) ∧
        (e = s.planner.energy → t.engine.freshHold = s.engine.freshHold) ∧
        (e ≠ s.planner.energy → t.engine.freshHold = if e = .dormant then false
          else (s.engine.freshHold || s.planner.energy = .dormant)) ∧
        (e ≠ .dormant → s.planner.energy = .dormant → t.planner.halt = none ∧
          (t.engine.readRequest = true ∨ t.engine.port = .reading)) ∧
        CountedOf [.scanCompleted, .ampleEntered, .leanEntered, .scarceEntered, .dormantEntered]
          (.scanCompleted :: if e = s.planner.energy then [] else [entryCounter e]) s t ∧
        ∀ a, s.engine.active = some a → a.state = .suspended → (a.job.kind = .normal → e ≠ .dormant) →
          let resumes := s.sense.storeLow = false ∧ s.sense.band.drive = true ∧ t.engine.freshHold = false ∧
            t.planner.halt ≠ some a.job.number ∧
            costLeft a.job + (if a.job.kind = .normal then c.reserve else 0) ≤ eav ∧
            (a.job.mode = .partialMode → ∀ n : Fin 10, a.job.first ≤ n.val → n.val ≤ a.job.last →
              (s.engine.lines.get n).ghost < c.ghostLimit ∧ (s.engine.lines.get n).condition = .settled)
          (resumes → t.engine.active = some { a with state := .running, loaded := false } ∧
            t.engine.suspendedAt = none ∧ CountedOf [.resumptions] [.resumptions] s t) ∧
          (¬ resumes → t.engine.active = some a ∧ t.engine.suspendedAt = s.engine.suspendedAt ∧
            CountedOf [.resumptions] [] s t)

/-- The lines after an abandonment, from the records `before`: a job's lines are UNSETTLED and dirty, from then on if
not before, their glass and ghost counts as recorded; other lines keep their records (R133). -/
def Sys2Proof.Claims.LinesAbandoned (j : Job) (before : Fin 10 → LineRecord) (t : State) : Prop :=
  ∀ n : Fin 10, t.engine.lines.get n =
    let old := before n
    if j.first ≤ n.val ∧ n.val ≤ j.last then
      { old with condition := .unsettled, dirtySince := some (old.dirtySince.getD t.elapsed) }
    else old

/-- A line's record after the targets have changed from those of `s` to those of `t`: on a line whose target has
changed, dirty-since is that moment where the line was clean and is dirty, stays where it was dirty and is, and is
absent where the target has returned to what the glass shows; all else stays (R100). That a line dirty without a time
takes the moment of the report is assumption log 27. -/
def Sys2Proof.Claims.reportedLine (s t : State) (n : Fin 10) : LineRecord :=
  let r := s.engine.lines.get n
  let dirty := fun target : Cells => r.glass ≠ some target ∨ r.condition ≠ .settled
  let since :=
    if ¬ dirty (t.board.targets.get n) then none
    else if dirty (s.board.targets.get n) then some (r.dirtySince.getD t.elapsed)
    else some t.elapsed
  if t.board.targets.get n = s.board.targets.get n then r else { r with dirtySince := since }

/-- A line is dirty: its glass is not known or is not its target, or its condition is not SETTLED (R100). -/
def Sys2Proof.Claims.Dirty (s : State) (n : Fin 10) : Prop :=
  (s.engine.lines.get n).glass ≠ some (s.board.targets.get n) ∨ (s.engine.lines.get n).condition ≠ .settled

/-- The mode a line requires (R101). -/
def Sys2Proof.Claims.needs (s : State) (n : Fin 10) : Mode :=
  if (s.engine.lines.get n).condition ≠ .settled ∨ (s.engine.lines.get n).ghost = s.loader.loaded.ghostLimit ∨
    (s.planner.sweep.get n = true ∧ s.planner.energy = .ample) then .clearing else .partialMode

/-- A line may be planned: it is none of the active job's, and the energy state allows it (R102). -/
def Sys2Proof.Claims.Open (s : State) (n : Fin 10) : Prop :=
  (∀ a, s.engine.active = some a → ¬ (a.job.first ≤ n.val ∧ n.val ≤ a.job.last)) ∧
    match s.planner.energy with
    | .ample | .lean => True
    | .scarce => 1 ≤ n.val ∧ n.val ≤ 3
    | .dormant => False

/-- The seed of a band by the three tests of R104: of the lines dirty for 120 s or more the one dirty longest, else the
first dirty line, else in AMPLE the first flagged one, in the order 1..8, 9, 0. -/
def Sys2Proof.Claims.Seed (s : State) (n : Fin 10) : Prop :=
  let rank := fun k : Fin 10 => if k.val = 0 then 10 else k.val
  let waits := fun k : Fin 10 => Open s k ∧ Dirty s k
  let since := fun k : Fin 10 => (s.engine.lines.get k).dirtySince
  let starved := fun k : Fin 10 => waits k ∧ ∃ u, since k = some u ∧ u + 120000 ≤ s.elapsed
  let flagged := fun k : Fin 10 => Open s k ∧ s.planner.sweep.get k = true
  (starved n ∧ ∀ u k v, since n = some u → waits k → since k = some v → u < v ∨ (u = v ∧ rank n ≤ rank k)) ∨
  ((∀ k, ¬ starved k) ∧ waits n ∧ ∀ k, waits k → rank n ≤ rank k) ∨
  ((∀ k, ¬ waits k) ∧ s.planner.energy = .ample ∧ flagged n ∧ ∀ k, flagged k → rank n ≤ rank k)

/-- The line of a number fits a band of a mode (R105). -/
def Sys2Proof.Claims.Fits (s : State) (m : Mode) (number : Nat) : Prop :=
  ∃ n : Fin 10, n.val = number ∧ Open s n ∧ needs s n = m ∧
    (Dirty s n ∨ (m = .clearing ∧ s.planner.energy = .ample ∧ s.planner.sweep.get n = true))

/-- The band `first..last` grown from a seed: upward while lines fit, then downward, to four lines at most (R105). -/
def Sys2Proof.Claims.BandGrows (s : State) (m : Mode) (seed first last : Nat) : Prop :=
  first ≤ seed ∧ seed ≤ last ∧ last ≤ first + 3 ∧
    (∀ k, first ≤ k → k ≤ last → k ≠ seed → Fits s m k) ∧
    (last = seed + 3 ∨ ¬ Fits s m (last + 1)) ∧
    (last = first + 3 ∨ first = 0 ∨ ¬ Fits s m (first - 1))

/-- What planning outside DORMANT comes to from an empty staged slot and the next job number `next` (R104 to R107,
R96): nothing without a seed; else the band staged at its cost, or its seed alone, if the available energy less the
active job's remaining cost and the reserve covers it; else the planning hold. -/
def Sys2Proof.Claims.PlansBand (s : State) (next : BitVec 8) (staged : Option Job) (after : BitVec 8) (hold : Bool)
    (cs : List Counter) : Prop :=
  let left := match s.engine.active with
    | none => 0
    | some a => costLeft a.job
  ((∀ n, ¬ Seed s n) ∧ staged = none ∧ after = next ∧ hold = false ∧ cs = []) ∨
  ∃ n first last, Seed s n ∧ BandGrows s (needs s n) n.val first last ∧
    let line := match needs s n with
      | .partialMode => perBand s.loader.loaded.partialCost s.sense.band
      | .clearing => perBand s.loader.loaded.clearingCost s.sense.band
    let covers := fun cost : Nat => cost + left + s.loader.loaded.reserve ≤ s.planner.available
    let whole := (last + 1 - first) * line
    if covers whole then
      staged = some ⟨next, .normal, first, last, needs s n, whole, 0⟩ ∧ after = next + 1#8 ∧ hold = false ∧
        cs = [.jobStaged]
    else if first < last ∧ covers line then
      staged = some ⟨next, .normal, n.val, n.val, needs s n, line, 0⟩ ∧ after = next + 1#8 ∧ hold = false ∧
        cs = [.jobStaged, .bandNarrowed]
    else staged = none ∧ after = next ∧ hold = true ∧ cs = [.stagingHeld]

/-- Planning outside DORMANT stages a band or sets the hold as R104 to R107 say, and nothing while the slot is full, the
hold set, the band no drive band or the engine FAULTED (R102, R103). So it does at a scan completion that leaves the
energy state as it is and finds a job RUNNING: the hold ends, and the state's lines and the new available energy decide
(R106, R140). -/
def Obligations.PlanningStagesABand : Prop :=
  (∀ s : State, s.planner.energy ≠ .dormant →
    let free := s.planner.staged = none ∧ s.planner.hold = false ∧ s.sense.band.drive = true ∧ s.engine.faulted = false
    (¬ free → s.plan = s) ∧
    (free → OnlyChanges [.planner, .counters] s s.plan ∧
      s.plan.planner = { s.planner with
        staged := s.plan.planner.staged, nextJob := s.plan.planner.nextJob, hold := s.plan.planner.hold } ∧
      ∃ cs, PlansBand s s.planner.nextJob s.plan.planner.staged s.plan.planner.nextJob s.plan.planner.hold cs ∧
        Counted cs s s.plan)) ∧
  ∀ (s : State) (dt : Nat) (counts : BitVec 12) (a : ActiveJob), s.started = true → s.RadioSound →
    s.sense.converting = true → s.engine.active = some a → a.state = .running → s.planner.staged = none →
    s.sense.band.drive = true → s.engine.faulted = false → s.planner.energy ≠ .dormant →
    ∃ t, exec (.scanCompletion dt counts) s = .next t ∧
      (t.planner.energy = s.planner.energy →
        t.engine.active = some a ∧ t.engine.lines = s.engine.lines ∧ t.board = s.board ∧
        ∃ cs, PlansBand t s.planner.nextJob t.planner.staged t.planner.nextJob t.planner.hold cs ∧
          CountedOf [.jobStaged, .bandNarrowed, .stagingHeld] cs s t)

/-- Planning has found an empty staged slot, at a moment that promotes nothing: where it is `free` to plan it has
staged a band or set the hold as R104 to R107 say, and else it has done nothing (R103). -/
def Sys2Proof.Claims.Replans (free : Prop) (s t : State) : Prop :=
  (free → ∃ cs, PlansBand t s.planner.nextJob t.planner.staged t.planner.nextJob t.planner.hold cs ∧
    CountedOf [.jobStaged, .bandNarrowed, .stagingHeld] cs s t) ∧
  (¬ free → t.planner.staged = none ∧ t.planner.nextJob = s.planner.nextJob ∧
    CountedOf [.jobStaged, .bandNarrowed, .stagingHeld] [] s t)

/-- The staged job is a NORMAL one, which an occasion of R108 withdraws. -/
def Sys2Proof.Claims.withdrawals (s : State) : List Counter :=
  match s.planner.staged with
  | some ⟨_, .normal, _, _, _, _, _⟩ => [.stagedWithdrawn]
  | _ => []

/-- The commands whose work on the table, the clock or the notices may change the board (R77). -/
def Sys2Proof.Claims.Composes : Instr → Prop
  | .clockFrame .. | .countedSecond .. | .passFrame .. | .sightFrame .. | .rebuildCompletion ..
  | .noticeFrame .. => True
  | _ => False

/-- A service second is the minute boundary of the sweep time (R109). -/
def Sys2Proof.Claims.AtSweep (c : Loaded) (second : Nat) : Prop :=
  second % 60 = 0 ∧ (c.dayStart * 60 + second) % 86400 = c.sweepMinute * 60

/-- A staged NORMAL job is withdrawn, once, by reported target changes, by a change of the energy state, by a change of
the band and by the sweep time; and where no promotion can follow, the active slot being taken or store-low active, the
planner plans anew as R104 to R107 say, outside DORMANT (R103, R108). A reported target change sets the line's
dirty-since time, but no other line's (R100); in DORMANT, the sweep's second apart, the planning that follows may
abandon a NORMAL job for the PARK job, whose lines are then UNSETTLED and dirty (R112, R133). -/
def Obligations.StagedJobsAreWithdrawn : Prop :=
  (∀ (c : Instr) (s t : State), Composes c → s.started = true → exec c s = .next t →
    t.board.targets ≠ s.board.targets →
    (s.planner.energy ≠ .dormant ∨ s.planner.boardParked = true → ∀ n, t.engine.lines.get n = reportedLine s t n) ∧
    ((∀ pass turn, c ≠ .countedSecond pass turn) ∨ ¬ AtSweep s.loader.loaded t.clock.second →
      ((∀ n, t.engine.lines.get n = reportedLine s t n) ∧ CountedOf [.abandonments] [] s t ∨
        s.planner.energy = .dormant ∧ s.planner.boardParked = false ∧
          ∃ a, s.engine.active = some a ∧ a.job.kind = .normal ∧ LinesAbandoned a.job (reportedLine s t) t ∧
            CountedOf [.abandonments] [.abandonments] s t) ∧
      CountedOf [.stagedWithdrawn] (withdrawals s) s t ∧
      (s.planner.staged = none ∨ withdrawals s ≠ [] → s.engine.active ≠ none ∨ s.sense.storeLow = true →
        s.planner.energy ≠ .dormant →
        Replans (s.planner.hold = false ∧ s.sense.band.drive = true ∧ s.engine.faulted = false) s t))) ∧
  (∀ (s t : State) (pass : PassPlace) (first : Bool) (order : SweepOrder), s.started = true → s.clock.timeValid = true →
    exec (.countedSecond pass ⟨first, order⟩) s = .next t → AtSweep s.loader.loaded t.clock.second →
    t.board.targets = s.board.targets → s.engine.active ≠ none ∨ s.sense.storeLow = true →
    CountedOf [.stagedWithdrawn] (withdrawals s) s t ∧
    (s.planner.staged = none ∨ withdrawals s ≠ [] → s.planner.energy ≠ .dormant →
      Replans
        (s.planner.hold = false ∧ s.sense.band.drive = true ∧ (s.engine.faulted = true → order ≠ .planner)) s t)) ∧
  (∀ (s t : State) (dt : Nat) (counts : BitVec 12), s.started = true → exec (.scanCompletion dt counts) s = .next t →
    t.planner.energy ≠ s.planner.energy →
    CountedOf [.stagedWithdrawn] (withdrawals s) s t ∧
    (t.planner.energy ≠ .dormant →
      (∀ n, t.engine.lines.get n = reportedLine s t n) ∧
      (s.planner.staged = none ∨ withdrawals s ≠ [] → s.engine.active ≠ none ∨ s.sense.storeLow = true →
        Replans (s.sense.band.drive = true ∧ s.engine.faulted = false) s t))) ∧
  ∀ (c : Instr) (s t : State), (∃ dt value, c = .temperatureAnswer dt value) ∨ c = .readTimeout → s.started = true →
    exec c s = .next t → t.sense.band ≠ s.sense.band →
    CountedOf [.stagedWithdrawn] (withdrawals s) s t ∧
    (s.planner.staged = none ∨ withdrawals s ≠ [] → s.engine.active ≠ none ∨ s.sense.storeLow = true →
      s.planner.energy ≠ .dormant →
      Replans (s.planner.hold = false ∧ t.sense.band.drive = true ∧ s.engine.faulted = false) s t)

/-- The PARK job: lines 1..9 in CLEARING at nine times the band's cost (R96, R112). -/
def Sys2Proof.Claims.parkJob (s : State) : Job :=
  ⟨s.planner.nextJob, .park, 1, 9, .clearing, 9 * perBand s.loader.loaded.clearingCost s.sense.band, 0⟩

/-- The PARK job as it stands right after its promotion, with the content of R113 (R122). -/
def Sys2Proof.Claims.parkActive (s : State) : ActiveJob :=
  ⟨parkJob s, s.sense.band, s.loader.loaded.standby :: List.replicate 8 (List.replicate 32 32#8), .running, false,
    false⟩

/-- The conditions on band, engine, store-low and energy under which the PARK job is staged (R112). -/
def Sys2Proof.Claims.ParkPossible (s : State) (available : Nat) : Prop :=
  s.sense.band.drive = true ∧ s.engine.faulted = false ∧ s.sense.storeLow = false ∧
    9 * perBand s.loader.loaded.clearingCost s.sense.band ≤ available

/-- A scan completion that leaves the part in DORMANT, entered by it or held. The staged NORMAL job of another state is
withdrawn (R108, R111). With board-parked set or a PARK job in hand nothing is staged. Otherwise the PARK job is
wanted: a RUNNING NORMAL job is asked once in all to halt (log 14), which stops it at once where it waits for a read
(before its load step too by log 36); with the slot empty, or a SUSPENDED NORMAL job in it, which is then abandoned,
the PARK job is staged and promoted at once where the band is a drive band, the engine not FAULTED, store-low inactive
and the available energy covers it; and else it waits (R111 to R113, R120, R130). -/
def Obligations.PlanningParksTheBoard : Prop :=
  ∀ (s : State) (dt : Nat) (counts : BitVec 12), s.started = true → s.RadioSound → s.sense.converting = true →
    (∀ j, s.planner.staged = some j → j.kind = .normal ∧ s.planner.energy ≠ .dormant) →
    (s.planner.energy = .dormant → s.engine.freshHold = false) → s.loader.loaded.standby.length = 32 →
    ∃ t, exec (.scanCompletion dt counts) s = .next t ∧ (t.planner.energy = .dormant →
      let own : List Counter :=
        [.stagedWithdrawn, .parkStaged, .jobPromoted, .suspensions, .abandonments, .haltRequested, .jobStaged]
      let counted := fun cs : List Counter => CountedOf own (withdrawals s ++ cs) s t
      let waits := t.planner.nextJob = s.planner.nextJob ∧ ∀ n, t.engine.lines.get n = reportedLine s t n
      let possible := ParkPossible s t.planner.available
      t.planner.staged = none ∧
      (s.planner.boardParked = true ∨ (∃ a, s.engine.active = some a ∧ a.job.kind = .park) →
        waits ∧ t.planner.halt = s.planner.halt ∧ counted []) ∧
      (s.planner.boardParked = false →
        (s.engine.active = none →
          (possible → t.engine.active = some (parkActive s) ∧ t.planner.nextJob = s.planner.nextJob + 1#8 ∧
            (∀ n, t.engine.lines.get n = reportedLine s t n) ∧ counted [.parkStaged, .jobPromoted]) ∧
          (¬ possible → t.engine.active = none ∧ waits ∧ counted [])) ∧
        ∀ a, s.engine.active = some a → a.job.kind = .normal →
          let asks := a.state = .running ∧ a.haltAsked = false
          let stops := asks ∧ s.engine.port = .reading
          let stopped : ActiveJob := if asks then
              { a with
                haltAsked := true
                state := if s.engine.port = .reading then .suspended else a.state
                loaded := if s.engine.port = .reading then false else a.loaded }
            else a
          let cs := (if asks then [.haltRequested] else []) ++ if stops then [Counter.suspensions] else []
          (stopped.state = .suspended ∧ possible →
            t.engine.active = some (parkActive s) ∧ LinesAbandoned a.job (reportedLine s t) t ∧
            t.planner.nextJob = s.planner.nextJob + 1#8 ∧ t.engine.suspendedAt = none ∧
            counted (cs ++ [.abandonments, .parkStaged, .jobPromoted])) ∧
          (¬ (stopped.state = .suspended ∧ possible) →
            t.engine.active = some stopped ∧ waits ∧
            t.planner.halt = (if asks then some a.job.number else s.planner.halt) ∧
            t.engine.suspendedAt = (if stops then some t.elapsed else s.engine.suspendedAt) ∧ counted cs)))

/-- What the panel port does when it has become IDLE (R123): a pending read first, else the load step of a RUNNING job,
else its next phase with the timeout of one and a half durations (R125, R126, R136). -/
def Sys2Proof.Claims.served (c : Loaded) (now : Nat) (e : Engine) : Engine :=
  let free := { e with port := .idle, phaseDeadline := none, readDeadline := none, commands := [] }
  if e.readRequest then
    { free with
      port := .reading, readRequest := false, readDeadline := some (now + 20), commands := [.temperatureRead] }
  else
    match e.active with
    | none => free
    | some a =>
      let d := perBand c.phaseDuration a.band
      let n := match a.job.mode with
        | .partialMode => 4
        | .clearing => 10
      if a.state = .suspended then free
      else if a.loaded = false then
        { free with
          port := .loading
          commands := .window a.job.first a.job.last ::
            ((List.range 10).filter fun l => a.job.first ≤ l ∧ l ≤ a.job.last).map fun l =>
              .lineLoad l (a.content.getD (l - a.job.first) (List.replicate 32 32#8)) }
      else if a.job.phaseIndex < n then
        { free with
          port := .phase
          phaseDeadline := some (now + 3 * d / 2)
          commands := [.phase (a.job.phaseIndex + 1) a.job.mode d] }
      else free

/-- The comparator: store-low becomes active where the node falls below Vwarn, and inactive where it rises above Vwarn
+ 50; in between it stays as it is, and a fall or rise that it already shows is no change (R141). Becoming active, it
stops at once a RUNNING job that waits for a read, also one whose load step has not been made (the latter by assumption
log 36); becoming inactive, it lets a frame that waited on it take the first stage once more, and lets a staged NORMAL
job be promoted with its band and its lines' targets latched, if the conditions of R120 hold (R130, R142, R163, R120,
R122). That the commands bring the node's voltage is assumption log 32. -/
def Obligations.StoreLowHoldsAndReleases : Prop :=
  ∀ (s : State) (dt node : Nat), s.started = true → s.RadioSound →
    let warning := s.loader.loaded.warning
    (∀ c, (c = .storeLowActive ⟨dt, node⟩ ∧ (s.sense.storeLow = true ∨ warning ≤ node)) ∨
        (c = .storeLowInactive ⟨dt, node⟩ ∧ (s.sense.storeLow = false ∨ node ≤ warning + 50)) →
      ∃ t, exec c s = .next t ∧ OnlyChanges [.elapsed, .clock] s t ∧ Passes dt s t) ∧
    (s.sense.storeLow = false → node < warning → ∃ t, exec (.storeLowActive ⟨dt, node⟩) s = .next t ∧
      OnlyChanges [.elapsed, .clock, .planner, .engine, .sense, .rx, .counters] s t ∧ Passes dt s t ∧
      RxSettles s.rx.queue s t ∧ t.sense = { s.sense with storeLow := true } ∧
      (∀ a, s.engine.active = some a → a.state = .running → s.engine.port = .reading →
        t.engine = { s.engine with
          active := some { a with state := .suspended, loaded := false }, suspendedAt := some t.elapsed } ∧
        CountedOf [.storeLowActivation, .suspensions] [.storeLowActivation, .suspensions] s t) ∧
      ((∀ a, s.engine.active = some a → a.state = .running → s.engine.port ≠ .reading) →
        PortServes s t ∧ t.planner = s.planner ∧ Counted [.storeLowActivation] s t)) ∧
    (s.sense.storeLow = true → warning + 50 < node → ∃ t, exec (.storeLowInactive ⟨dt, node⟩) s = .next t ∧
      OnlyChanges [.elapsed, .clock, .planner, .engine, .sense, .rx, .tx, .counters] s t ∧ Passes dt s t ∧
      RxSettles s.rx.queue s t ∧ t.sense = { s.sense with storeLow := false } ∧
      t.tx = { s.tx with stage := if s.tx.stage = .storeLowWait then .carrierWait else s.tx.stage } ∧
      (s.planner.staged = none ∨ s.engine.active ≠ none → PortServes s t ∧ t.planner = s.planner ∧ Counted [] s t) ∧
      ∀ j, s.planner.staged = some j → j.kind = .normal → s.planner.energy ≠ .dormant → s.engine.active = none →
        s.sense.band.drive = true → s.engine.freshHold = false → s.engine.faulted = false →
        j.remaining + s.loader.loaded.reserve ≤ s.planner.available →
        (j.mode = .partialMode → ∀ n : Fin 10, j.first ≤ n.val → n.val ≤ j.last →
          (s.engine.lines.get n).ghost < s.loader.loaded.ghostLimit ∧ (s.engine.lines.get n).condition = .settled) →
        ∃ a, t.engine.active = some a ∧ a.job = { j with phaseIndex := 0 } ∧ a.band = s.sense.band ∧
          a.state = .running ∧ a.loaded = false ∧
          (∀ n : Fin 10, j.first ≤ n.val → n.val ≤ j.last →
            a.content.getD (n.val - j.first) [] = s.board.targets.get n) ∧
          (s.engine.port = .idle → s.engine.phaseDeadline = none → s.engine.readDeadline = none →
            t.engine = served s.loader.loaded t.elapsed { s.engine with active := some a }) ∧
          CountedOf [.jobPromoted] [.jobPromoted] s t)

/-- The temperature timer starts again and asks for a read, which an IDLE panel port makes at once; a request during a
read is merged with it (R136, R143). -/
def Obligations.TemperatureTimerAsksForARead : Prop :=
  ∀ (s : State) (u : Nat), s.started = true → s.RadioSound → s.sense.temperatureTimer = some u →
    let e := comesAt s u
    ∃ t, exec .temperatureTimerExpiry s = .next t ∧ OnlyChanges [.elapsed, .clock, .engine, .sense, .rx] s t ∧
      Passes (u - s.elapsed) s t ∧ RxSettles s.rx.queue s t ∧
      t.sense = { s.sense with temperatureTimer := some (e + 1000 * s.loader.loaded.temperaturePeriod) } ∧
      t.engine =
        if s.engine.port = .reading then s.engine
        else if s.engine.port = .idle then
          { s.engine with
            port := .reading, readRequest := false, readDeadline := some (e + 20), commands := [.temperatureRead] }
        else { s.engine with readRequest := true }

/-- The plain ranges of the bands (the table of R145). -/
def Sys2Proof.Claims.plainRange : Band → Option (Int × Int)
  | .frozen => some (-128, -16)
  | .b1 => some (-15, -6)
  | .b2 => some (-5, 4)
  | .b3 => some (5, 24)
  | .b4 => some (25, 50)
  | .hot => some (51, 127)
  | .unknown => none

/-- The band after a successful read of `v`: the one held while `v` lies in its range widened by 1 at both ends, else
the one whose plain range holds `v` (R145). -/
def Sys2Proof.Claims.JudgedBand (before : Band) (v : Int) (after : Band) : Prop :=
  let kept := ∃ r, plainRange before = some r ∧ r.1 - 1 ≤ v ∧ v ≤ r.2 + 1
  (kept → after = before) ∧ (¬ kept → ∃ r, plainRange after = some r ∧ r.1 ≤ v ∧ v ≤ r.2)

/-- An answer in READING is a successful read, which sets the temperature and judges the band, and ends the fresh-band
hold; in any other port state it is stray. Without an answer in time the read has failed, and at the third failure in a
row the band is UNKNOWN (R121, R124, R136, R144 to R146). -/
def Obligations.TemperatureReadsEnd : Prop :=
  ∀ (s : State), s.started = true → s.RadioSound →
    (∀ dt (value : Byte), s.engine.port = .reading → ∃ t b, exec (.temperatureAnswer dt value) s = .next t ∧
      OnlyChanges [.elapsed, .clock, .planner, .engine, .sense, .rx, .counters] s t ∧ Passes dt s t ∧
      RxSettles s.rx.queue s t ∧ JudgedBand s.sense.band value.toInt b ∧
      t.sense = { s.sense with temperature := some value.toInt, failures := 0, band := b } ∧
      t.engine.freshHold = false ∧ t.engine.faults = s.engine.faults ∧
      CountedOf [.temperatureRead, .bandChanged] (.temperatureRead :: if b = s.sense.band then [] else [.bandChanged])
        s t) ∧
    (∀ dt (value : Byte), s.engine.port ≠ .reading → ∃ t, exec (.temperatureAnswer dt value) s = .next t ∧
      OnlyChanges [.elapsed, .clock, .counters] s t ∧ Passes dt s t ∧ Counted [.strayAnswer] s t) ∧
    (∀ u, s.engine.port = .reading → s.engine.readDeadline = some u → ∃ t, exec .readTimeout s = .next t ∧
      OnlyChanges [.elapsed, .clock, .planner, .engine, .sense, .rx, .counters] s t ∧ Passes (u - s.elapsed) s t ∧
      RxSettles s.rx.queue s t ∧
      t.sense = { s.sense with
        failures := min 3 (s.sense.failures + 1)
        band := if 3 ≤ s.sense.failures + 1 then .unknown else s.sense.band } ∧
      t.engine.freshHold = s.engine.freshHold ∧ t.engine.faults = s.engine.faults ∧
      CountedOf [.temperatureReadFailed] [.temperatureReadFailed] s t)

/-! ### The drive engine (chapter 7) -/

/-- Whether a job stops at a boundary: store-low is active, or a halt request names it (R130). -/
def Sys2Proof.Claims.Stops (s : State) (j : Job) : Prop := s.sense.storeLow = true ∨ s.planner.halt = some j.number

/-- The PARK job takes a job's place as soon as that is SUSPENDED (R111, R112): in DORMANT, with board-parked clear, the
staged slot empty, a NORMAL job and the conditions of R112. -/
def Sys2Proof.Claims.ParkNow (s : State) (j : Job) : Prop :=
  s.planner.energy = .dormant ∧ s.planner.boardParked = false ∧ s.planner.staged = none ∧ j.kind = .normal ∧
    ParkPossible s s.planner.available

/-- A RUNNING job `a` of `s` has stopped at a boundary and is SUSPENDED (R130); or, where the PARK job can take its
place, it is abandoned at once and the PARK job staged and promoted, but for a fresh-band hold, under which it stays
staged (R112, R116, R120, R133). The port then goes on with what is waiting. `cs` are the cases counted before. -/
def Sys2Proof.Claims.Stopped (a : ActiveJob) (cs : List Counter) (s t : State) : Prop :=
  let own := [.phasesDriven, .suspensions, .abandonments, .parkStaged, .jobPromoted]
  (¬ ParkNow s a.job →
    t.engine = served s.loader.loaded t.elapsed { s.engine with
      active := some { a with state := .suspended, loaded := false }, suspendedAt := some t.elapsed } ∧
    CountedOf own (cs ++ [.suspensions]) s t) ∧
  (ParkNow s a.job → s.loader.loaded.standby.length = 32 →
    let holds := s.engine.freshHold = true
    LinesAbandoned a.job s.engine.lines.get t ∧
    t.engine = served s.loader.loaded t.elapsed { s.engine with
      lines := t.engine.lines, active := if holds then none else some (parkActive s), suspendedAt := none } ∧
    t.planner = { s.planner with
      staged := if holds then some (parkJob s) else none
      nextJob := s.planner.nextJob + 1#8
      halt := if s.planner.halt = some a.job.number then none else s.planner.halt } ∧
    CountedOf own (cs ++ [.suspensions, .abandonments, .parkStaged] ++ if holds then [] else [.jobPromoted]) s t)

/-- At the end of the load step the job goes on with what the port has waiting; if store-low is active or a halt
request names the job, it is SUSPENDED at its phase index instead, or at once gives way to the PARK job (R112, R123,
R125, R130). -/
def Obligations.LoadStepsEnd : Prop :=
  ∀ (s : State) (dt : Nat) (a : ActiveJob), s.started = true → s.RadioSound → s.engine.port = .loading →
    s.engine.active = some a → a.state = .running →
    (¬ Stops s a.job → ∃ t, exec (.loadStepEnd dt) s = .next t ∧
      OnlyChanges [.elapsed, .clock, .engine, .rx] s t ∧ Passes dt s t ∧ RxSettles s.rx.queue s t ∧
      t.engine = served s.loader.loaded t.elapsed { s.engine with active := some { a with loaded := true } }) ∧
    (Stops s a.job → ∃ t, exec (.loadStepEnd dt) s = .next t ∧
      OnlyChanges [.elapsed, .clock, .planner, .engine, .rx, .counters] s t ∧ Passes dt s t ∧
      RxSettles s.rx.queue s t ∧ Stopped a [] s t)

/-- READY in PHASE ends the phase. With phases left the job goes on with what the port has waiting, or is SUSPENDED at
its new phase index where store-low is active or a halt request names it, or at once gives way to the PARK job; READY in
any other port state is stray (R112, R123, R124, R127, R130). -/
def Obligations.ReadyEndsThePhase : Prop :=
  ∀ (s : State) (dt : Nat) (first : Bool), s.started = true → s.RadioSound →
    (s.engine.port ≠ .phase → ∃ t, exec (.ready dt first) s = .next t ∧
      OnlyChanges [.elapsed, .clock, .counters] s t ∧ Passes dt s t ∧ Counted [.strayReady] s t) ∧
    ∀ a : ActiveJob, s.engine.port = .phase → s.engine.active = some a → a.state = .running → a.loaded = true →
      a.job.phaseIndex + 1 < (if a.job.mode = .clearing then 10 else 4) →
      let further : ActiveJob := { a with job := { a.job with phaseIndex := a.job.phaseIndex + 1 } }
      (¬ Stops s a.job → ∃ t, exec (.ready dt first) s = .next t ∧
        OnlyChanges [.elapsed, .clock, .engine, .rx, .counters] s t ∧ Passes dt s t ∧ RxSettles s.rx.queue s t ∧
        t.engine = served s.loader.loaded t.elapsed { s.engine with active := some further } ∧
        Counted [.phasesDriven] s t) ∧
      (Stops s a.job → ∃ t, exec (.ready dt first) s = .next t ∧
        OnlyChanges [.elapsed, .clock, .planner, .engine, .rx, .counters] s t ∧ Passes dt s t ∧
        RxSettles s.rx.queue s t ∧ Stopped further [.phasesDriven] s t)

/-- READY at the last phase completes the job: each of its lines takes the latched content, SETTLED, its ghost count one
more after PARTIAL and 0 after CLEARING, dirty anew only if its target has moved on; other lines keep their records. The
fault count falls to 0, the job's cost is spent, its sweep flags end with CLEARING, and board-parked follows the job's
kind (R110, R114, R127, R129). -/
def Obligations.ReadyCompletesTheJob : Prop :=
  ∀ (s : State) (dt : Nat) (first : Bool) (a : ActiveJob), s.started = true → s.RadioSound → s.engine.port = .phase →
    s.engine.active = some a → a.job.phaseIndex + 1 = (if a.job.mode = .clearing then 10 else 4) →
    ∃ t, exec (.ready dt first) s = .next t ∧
      OnlyChanges [.elapsed, .clock, .planner, .engine, .rx, .counters] s t ∧ Passes dt s t ∧
      RxSettles s.rx.queue s t ∧
      (∀ n : Fin 10, t.engine.lines.get n =
        let old := s.engine.lines.get n
        let content := a.content.getD (n.val - a.job.first) (List.replicate 32 32#8)
        if a.job.first ≤ n.val ∧ n.val ≤ a.job.last then
          ⟨some content, if a.job.mode = .clearing then 0 else old.ghost + 1, .settled,
            if s.board.targets.get n = content then none else some t.elapsed⟩
        else old) ∧
      t.engine.faults = 0 ∧ t.engine.suspendedAt = none ∧
      (∀ b, t.engine.active = some b → b.job.phaseIndex = 0 ∧ b.state = .running ∧ b.band = s.sense.band) ∧
      (∀ n : Fin 10, t.planner.sweep.get n =
        (s.planner.sweep.get n &&
          !(a.job.mode = .clearing && decide (a.job.first ≤ n.val) && decide (n.val ≤ a.job.last)))) ∧
      t.planner.boardParked =
        (if a.job.kind = .park then true else if 1 ≤ a.job.last then false else s.planner.boardParked) ∧
      t.counter .energySpent = min (s.counter .energySpent + a.job.cost) 4294967295 ∧
      CountedOf [.phasesDriven, .partialJobs, .clearingJobs, .parkJobs]
        [.phasesDriven,
          if a.job.kind = .park then .parkJobs else if a.job.mode = .clearing then .clearingJobs else .partialJobs] s t

/-- A phase without READY in time is a drive fault: counted, and the stop command goes out. Once it is sent, the engine
is FAULTED if the fault count has reached 3, and the job is abandoned (R134). That the count rises at the timeout and
FAULTED is set only once the stop command is sent is the model's choice of assumption log 21. A job SUSPENDED for the
suspend limit is abandoned (R133). -/
def Obligations.JobsAreAbandoned : Prop :=
  (∀ (s : State), s.started = true → s.RadioSound →
    (∀ u, s.engine.port = .phase → s.engine.phaseDeadline = some u → ∃ t, exec .readyTimeout s = .next t ∧
      OnlyChanges [.elapsed, .clock, .engine, .counters] s t ∧ Passes (u - s.elapsed) s t ∧
      t.engine = { s.engine with
        port := .stopping, phaseDeadline := none, faults := min 3 (s.engine.faults + 1), commands := [.stop] } ∧
      Counted [.driveFaults] s t) ∧
    ∀ dt a, s.engine.port = .stopping → s.engine.active = some a → ∃ t, exec (.stopSent dt) s = .next t ∧
      OnlyChanges [.elapsed, .clock, .planner, .engine, .rx, .counters] s t ∧ Passes dt s t ∧
      RxSettles s.rx.queue s t ∧ LinesAbandoned a.job s.engine.lines.get t ∧
      t.engine.faulted = (s.engine.faulted || decide (3 ≤ s.engine.faults)) ∧ t.engine.faults = s.engine.faults ∧
      t.engine.suspendedAt = none ∧ t.engine.port ≠ .stopping ∧
      CountedOf [.abandonments, .driveFaults] [.abandonments] s t) ∧
  ∀ (s : State) (a : ActiveJob) (u : Nat), s.started = true → s.RadioSound →
    s.engine.active = some a → a.state = .suspended →
    s.engine.suspendedAt = some u → s.DormantStagesPark →
    ∃ t, exec .suspendLimitExpiry s = .next t ∧
      OnlyChanges [.elapsed, .clock, .planner, .engine, .rx, .counters] s t ∧
      Passes (u + 1000 * s.loader.loaded.suspendLimit - s.elapsed) s t ∧ RxSettles s.rx.queue s t ∧
      LinesAbandoned a.job s.engine.lines.get t ∧ t.engine.suspendedAt = none ∧ t.engine.faults = s.engine.faults ∧
      CountedOf [.abandonments] [.abandonments] s t

/-- A READY that completes the active job: it ends an outstanding phase, and no phase of the job is left (R127). -/
def Sys2Proof.Claims.Completes (c : Instr) (s : State) : Prop :=
  (∃ dt first, c = .ready dt first) ∧ s.engine.port = .phase ∧
    ∃ a, s.engine.active = some a ∧ (if a.job.mode = .clearing then 10 else 4) ≤ a.job.phaseIndex + 1

/-- A line's glass and ghost count move only where READY completes a job, or at power-on reset: not at a READY in
mid-job, nor at a stray one (R128, R129, R133). -/
def Obligations.GlassMovesOnlyAtCompletion : Prop :=
  ∀ (c : Instr) (s t : State), ¬ Completes c s → c ≠ .nporAsserted → exec c s = .next t →
    ∀ n : Fin 10, (t.engine.lines.get n).glass = (s.engine.lines.get n).glass ∧
      (t.engine.lines.get n).ghost = (s.engine.lines.get n).ghost

/-! ### Channel access and sending (9.8) -/

/-- A character on the line: start bit 0 first, eight data bits least significant first, the mark, stop bit 1 (R148). -/
def Sys2Proof.Claims.lineBits (mark : Bool) (b : Byte) : BitVec 11 :=
  BitVec.ofNat 11 (1024 + (if mark then 512 else 0) + 2 * b.toNat)

/-- The granted frame with the fields it takes at its start: a CLOCK frame the stratum, day and second (R75, R165). -/
def Sys2Proof.Claims.atStart (s : State) (g : Granted) : SendFrame :=
  if g.source = .clock then
    ⟨g.frame.header, bytesOf 2 s.loader.loaded.stopId.toNat ++ bytesOf 1 s.clock.stratum ++
      bytesOf 2 s.clock.day.toNat ++ bytesOf 3 s.clock.second⟩
  else g.frame

/-- The frame in ASSEMBLE that is lost as truncated where radio power goes off (R151, R158). -/
def Sys2Proof.Claims.cutOff (s t : State) : List Counter :=
  if s.rx.state = .assemble ∧ t.rx.state = .hunt then [.truncated] else []

/-- The send side back in IDLE, no frame granted and nothing on the line (R164, R165). -/
def Sys2Proof.Claims.freed (tx : Sender) : Sender :=
  { tx with state := .idle, granted := none, stage := .carrierWait, backoff := none, line := [] }

/-- The countdown of a granted frame at 0 (R163, R165): with store-low active it waits; a CLOCK frame of stratum 7 is
withdrawn and the send side arbitrates (R75, R161); otherwise the frame is on the air, header marked, body and check
unmarked, and the receiver is blanked in HUNT (R157). `tx` is the send side with its countdown at 0. -/
def Sys2Proof.Claims.StartsFrame (tx : Sender) (g : Granted) (s t : State) : Prop :=
  if s.sense.storeLow = true then
    t.tx = { tx with stage := .storeLowWait } ∧ RxSettles s.rx.queue s t ∧ Counted [] s t
  else if g.source = .clock ∧ s.clock.stratum = 7 then
    RxSettles s.rx.queue s t ∧ Counted (.clockWithdrawn :: cutOff s t) s t ∧
    t.tx = granting t (freed { tx with clockWaiting := false }) t.elapsed
  else
    let f := atStart s g
    let check := (crc (f.header :: f.body)).toNat
    t.tx = { tx with
      state := .sending
      granted := some { g with frame := f }
      clockWaiting := tx.clockWaiting && g.source != .clock
      offerWaiting := if g.source = .offer then none else tx.offerWaiting
      line := lineBits true f.header ::
        (f.body ++ [BitVec.ofNat 8 (check / 256), BitVec.ofNat 8 (check % 256)]).map (lineBits false) } ∧
    t.rx = { s.rx with
      state := .hunt, buffer := [], radio := true
      window := if s.rx.window = .held then .closed else s.rx.window } ∧
    Counted (if s.rx.state = .assemble then [.truncated] else []) s t

/-- Channel access (R163): the first stage's end draws a backoff of 0..15 slots where none has been drawn since the
grant; each slot counts it down; at 0 the frame starts; a rise of carrier detect freezes the countdown. That a rise
outside the countdown changes nothing is the model's choice of assumption log 33: R163 has a rise in the first stage
start the wait again, which the model keeps no measure of. -/
def Obligations.FramesGainTheChannel : Prop :=
  ∀ (s : State) (dt : Nat) (g : Granted), s.started = true → s.RadioSound → s.tx.granted = some g →
    let drawn := lfsrSteps 16 s.tx.lfsr
    let quiet := match s.tx.backoff with
      | none => { s.tx with stage := .countdown, lfsr := drawn, backoff := some (drawn.toNat % 16) }
      | some n => { s.tx with stage := .countdown, backoff := some n }
    (s.tx.state = .access → s.tx.stage = .carrierWait → ∃ t, exec (.carrierQuiet dt) s = .next t ∧
      OnlyChanges [.elapsed, .clock, .rx, .tx, .counters] s t ∧ Passes dt s t ∧
      (quiet.backoff = some 0 → StartsFrame quiet g s t) ∧
      (quiet.backoff ≠ some 0 → t.tx = quiet ∧ RxSettles s.rx.queue s t ∧ Counted [] s t)) ∧
    (s.tx.state = .access → s.tx.stage = .countdown → ∀ n, s.tx.backoff = some n →
      ∃ t, exec (.backoffSlot dt) s = .next t ∧
      OnlyChanges [.elapsed, .clock, .rx, .tx, .counters] s t ∧ Passes dt s t ∧
      (n ≤ 1 → StartsFrame { s.tx with backoff := some 0 } g s t) ∧
      (1 < n → t.tx = { s.tx with backoff := some (n - 1) } ∧ RxSettles s.rx.queue s t ∧ Counted [] s t)) ∧
    (s.tx.state = .access → s.tx.stage = .countdown → ∃ t, exec (.carrierDetectRise dt) s = .next t ∧
      OnlyChanges [.elapsed, .clock, .tx, .counters] s t ∧ Passes dt s t ∧
      t.tx = { s.tx with stage := .carrierWait } ∧ Counted [.accessDeferred] s t) ∧
    (s.tx.state ≠ .access ∨ s.tx.stage ≠ .countdown → ∃ t, exec (.carrierDetectRise dt) s = .next t ∧
      OnlyChanges [.elapsed, .clock] s t ∧ Passes dt s t)

/-- The publication list after a fragment of a record was sent: its cursor one further, the record gone once the cursor
has reached its sheet's fragment count; a record the fragment did not come from, and one at another version, stay as
they are (R61). -/
def Sys2Proof.Claims.afterSent (s : State) (i : SlotIx) (day : Day) (version : Version) (made : Nat) :
    List Publication :=
  s.sheets.publications.filterMap fun p =>
    if p.slot = i ∧ p.day = day ∧ p.version = version ∧ p.made = made then
      match (s.sheets.slots.get i).forDay day with
      | none => some { p with cursor := p.cursor + 1 }
      | some sh =>
        if fragmentsOf sh.runs ≤ p.cursor + 1 then none else some { p with cursor := p.cursor + 1 }
    else some p

/-- The send side after a frame has ended: it is IDLE again and arbitrates (R161, R164, R165). -/
def Sys2Proof.Claims.SendSideEnds (tx : Sender) (t : State) : Prop := t.tx = granting t (freed tx) t.elapsed

/-- A frame that has gone out is counted and its source told: the reply slot frees, a publication's cursor moves on
(R61, R165). One still in ACCESS 8 s after its grant is abandoned: it leaves the reply or the beacon slot, a relay
frame is lost, a publication keeps its cursor (R61, R164). A record is known by the number it was made under, which is
the model's own (assumption log 34). The send side then arbitrates. -/
def Obligations.FramesEnd : Prop :=
  ∀ (s : State) (g : Granted), s.started = true → s.RadioSound → s.tx.granted = some g →
    (∀ dt, s.tx.state = .sending → ∃ t, exec (.frameSent dt) s = .next t ∧
      OnlyChanges [.elapsed, .clock, .sheets, .rx, .tx, .counters] s t ∧ Passes dt s t ∧ RxSettles s.rx.queue s t ∧
      match g.source with
      | .reply => t.sheets = s.sheets ∧ Counted [.frameSent, .replySent] s t ∧
          SendSideEnds { s.tx with reply := none } t
      | .publication i day version made =>
        t.sheets = { s.sheets with publications := afterSent s i day version made } ∧
        Counted ([.frameSent, .fragmentPublished] ++
          List.replicate (s.sheets.publications.length - t.sheets.publications.length) .publicationCompleted) s t ∧
        SendSideEnds s.tx t
      | _ => t.sheets = s.sheets ∧ Counted [.frameSent] s t ∧ SendSideEnds s.tx t) ∧
    (s.tx.state = .access → ∃ t, exec .frameAbandoned s = .next t ∧
      OnlyChanges [.elapsed, .clock, .rx, .tx, .counters] s t ∧ Passes (g.grantedAt + 8000 - s.elapsed) s t ∧
      RxSettles s.rx.queue s t ∧
      match g.source with
      | .reply => Counted (.frameAbandoned :: .replyAbandoned :: cutOff s t) s t ∧
          SendSideEnds { s.tx with reply := none } t
      | .clock => Counted (.frameAbandoned :: cutOff s t) s t ∧ SendSideEnds { s.tx with clockWaiting := false } t
      | .offer => Counted (.frameAbandoned :: cutOff s t) s t ∧ SendSideEnds { s.tx with offerWaiting := none } t
      | .relay => Counted (.frameAbandoned :: .relayAbandoned :: cutOff s t) s t ∧ SendSideEnds s.tx t
      | .publication i day version made =>
        Counted (.frameAbandoned :: (cutOff s t ++
          if ∃ p ∈ s.sheets.publications, p.slot = i ∧ p.day = day ∧ p.version = version ∧ p.made = made then
            [.fragmentReoffered]
          else [])) s t ∧
        SendSideEnds s.tx t)

/-! ### Pages and bodies (11.2, 11.3) -/

/-- The big-endian number two or three bytes of a body make. -/
def Sys2Proof.Claims.be (b : List Byte) (offset bytes : Nat) : Nat :=
  (List.range bytes).foldl (fun acc i => acc * 256 + (b.getD (offset + i) 0#8).toNat) 0

/-- A number of `bits` bits read as two's complement (R175). -/
def Sys2Proof.Claims.signed (bits v : Nat) : Int := if 2 ^ (bits - 1) ≤ v then (v : Int) - 2 ^ bits else v

/-- The counters in the order of the METER pages, ten to a page (R176). -/
def Sys2Proof.Claims.meterOrder : List Counter :=
  [.admission, .admissionLoss, .sightingTaken, .sightIgnored, .departure,
  .passageOriginated, .passAdvanced, .passNotAdvancing, .passUnmatched, .downstreamRemoval,
  .overdueRemoval, .rebuildRemoval, .rolloverRemoval, .flushed, .observationExpired,
  .clockMalformed, .clockOutranked, .clockAgreeing, .clockAdopted, .firstAdoption,
  .stepForward, .stepBack, .nextDayAdoption, .dayJump, .stratumAged,
  .clockBuilt, .clockSkipped, .clockWithdrawn, .sheetUnserved, .sheetMalformed,
  .sheetOutOfDay, .sheetNotNewer, .fragmentAdded, .fragmentRepeated, .fragmentSetAside,
  .assemblyReplaced, .assemblyTimedOut, .assemblyExpired, .sheetCommitted, .sheetRejected,
  .sheetExpired, .offerBuilt, .offerSkipped, .offerOtherDay, .publicationRequested,
  .publicationMerged, .publicationRefused, .publicationSuppressed, .publicationExpired, .fragmentPublished,
  .fragmentReoffered, .publicationCompleted, .noticeMalformed, .noticeOutOfDay, .noticeOutOfScope,
  .noticeNotNewer, .noticeTruncated, .noticeStored, .noticeReplaced, .noticeEvicted,
  .noticeDiscarded, .noticeRelayed, .noticeExpired, .boardRecomposed, .targetChange,
  .ampleEntered, .leanEntered, .scarceEntered, .dormantEntered, .jobStaged,
  .bandNarrowed, .parkStaged, .stagedWithdrawn, .stagingHeld, .haltRequested,
  .sweepMade, .phasesDriven, .partialJobs, .clearingJobs, .parkJobs,
  .jobPromoted, .suspensions, .resumptions, .abandonments, .driveFaults,
  .strayReady, .strayAnswer, .energySpent, .scanCompleted, .storeLowActivation,
  .temperatureRead, .temperatureReadFailed, .bandChanged, .noise, .framingError,
  .stray, .truncated, .overlong, .malformed, .checkFailure,
  .filtered, .frameReceived, .overrun, .replyDiscarded, .sniffWindow,
  .beaconReplaced, .relayDropped, .relayAbandoned, .accessDeferred, .frameSent,
  .frameAbandoned, .configurationAbsent, .configurationRejected, .slotDisabled, .queryMalformed,
  .queryOtherStop, .queryBusy, .queryTaken, .replySent, .replyAbandoned]

/-- Fields stand in a page at their offsets, most significant byte first: offset, bytes, value (R176). -/
def Sys2Proof.Claims.Holds (page : List Byte) (fields : List (Nat × Nat × Int)) : Prop :=
  ∀ x ∈ fields, (be page x.1 x.2.1 : Int) = x.2.2 % 256 ^ x.2.1

/-- A flag on a page: 1 when true, set or active (R176). -/
def Sys2Proof.Claims.flag (b : Bool) : Int := if b then 1 else 0

/-- A quantity of two bytes on a page, absent as all ones (R176). -/
def Sys2Proof.Claims.orOnes : Option Nat → Int
  | none => 65535
  | some v => v

/-- The codes of the bands (R176). -/
def Sys2Proof.Claims.bandCode : Band → Int
  | .frozen => 0
  | .b1 => 1
  | .b2 => 2
  | .b3 => 3
  | .b4 => 4
  | .hot => 5
  | .unknown => 6

/-- The fields of a job record at offset 0 of its page (R176). -/
def Sys2Proof.Claims.jobFields : Option Job → List (Nat × Nat × Int)
  | none => [(0, 1, 0), (1, 1, 0), (2, 1, 0), (3, 1, 0), (4, 1, 0), (5, 1, 0), (6, 4, 0)]
  | some j => [(0, 1, 1), (1, 1, j.number.toNat), (2, 1, if j.kind = .park then 1 else 0), (3, 1, j.first),
      (4, 1, j.last), (5, 1, if j.mode = .clearing then 1 else 0), (6, 4, j.cost)]

/-- The fields of a sheet position at an offset of a SHEETS page: day, version and run count, 0 where it is empty
(R176). -/
def Sys2Proof.Claims.positionFields (offset : Nat) : Option Sheet → List (Nat × Nat × Int)
  | none => [(offset, 2, 0), (offset + 2, 2, 0), (offset + 4, 1, 0)]
  | some sh => [(offset, 2, sh.day.toNat), (offset + 2, 2, sh.version.toNat), (offset + 4, 1, sh.runs.length)]

/-- The fields of an assembly at offset 12 of a SHEETS page, 0 where there is none (R176). -/
def Sys2Proof.Claims.assemblyFields : Option Assembly → List (Nat × Nat × Int)
  | none => [(12, 1, 0), (13, 2, 0), (15, 2, 0), (17, 1, 0), (18, 2, 0)]
  | some a => [(12, 1, if a.state = .collecting then 1 else 2), (13, 2, a.day.toNat), (15, 2, a.version.toNat),
      (17, 1, a.count)]

/-- The pages against the offsets of R176: STATUS 0 to 3, ENTRIES, LINES, the slots and the notices of SHEETS, and
METER, with absent quantities as all ones; a page that R173 calls absent, that of a slot not enabled among them, is
empty. That the fields of an absent observation and an absent temperature stand as 0 is assumption log 17. -/
def Obligations.PagesAreLaidOut : Prop :=
  ∀ s : State,
    let ago := fun u : Option Nat => match u with
      | none => (4294967295 : Int)
      | some v => ((s.elapsed - v) / 1000 : Nat)
    ((payload s 1 0).length = 33 ∧ Holds (payload s 1 0)
      [(0, 1, flag s.clock.timeValid), (1, 2, s.clock.day.toNat), (3, 3, s.clock.second), (6, 1, s.clock.stratum),
        (7, 4, ago s.clock.lastAdoption),
        (11, 1, match s.planner.energy with
          | .ample => 0
          | .lean => 1
          | .scarce => 2
          | .dormant => 3),
        (12, 2, orOnes s.planner.voltage), (14, 4, s.planner.available),
        (18, 4, s.planner.parkThreshold), (22, 4, s.planner.leanThreshold), (26, 1, flag s.planner.boardParked),
        (27, 1, match s.rx.mode with
          | .listen => 0
          | .doze => 1
          | .sniff => 2),
        (28, 1, match s.loader.source with
          | .image => 0
          | .absent => 1
          | .rejected => 2),
        (29, 4, s.counter .configurationClamp)]) ∧
    ((payload s 1 1).length = 12 ∧ Holds (payload s 1 1)
      [(0, 1, s.sense.history.length), (1, 2, orOnes s.sense.history[0]?),
        (3, 2, orOnes s.sense.history[1]?),
        (5, 2, orOnes s.sense.history[2]?), (7, 1, flag s.sense.storeLow),
        (8, 1, s.sense.temperature.getD 0), (9, 1, flag s.sense.temperature.isSome), (10, 1, bandCode s.sense.band),
        (11, 1, s.sense.failures)]) ∧
    ((payload s 1 2).length = 16 ∧ Holds (payload s 1 2) (jobFields s.planner.staged ++
      [(10, 1, flag s.planner.hold), (11, 1, flag s.planner.halt.isSome),
        (12, 1, (s.planner.halt.map fun n => (n.toNat : Int)).getD 0), (15, 1, s.planner.nextJob.toNat)]) ∧
      ∀ n : Fin 10, (be (payload s 1 2) 13 2).testBit n.val = s.planner.sweep.get n) ∧
    ((payload s 1 3).length = 18 ∧ Holds (payload s 1 3) (jobFields (s.engine.active.map (·.job)) ++
      (match s.engine.active with
        | none => [(10, 1, 0), (11, 1, 0), (12, 1, 0)]
        | some a => [(10, 1, bandCode a.band), (11, 1, (a.job.phaseIndex : Int)),
            (12, 1, if a.state = .running then 1 else 2)]) ++
      [(13, 1, match s.engine.port with
          | .idle => 0
          | .loading => 1
          | .phase => 2
          | .reading => 3
          | .stopping => 4),
        (14, 1, flag s.engine.freshHold), (15, 1, s.engine.faults), (16, 1, flag s.engine.faulted),
        (17, 1, flag s.engine.readRequest)])) ∧
    (∀ (p : Nat) (e : Entry), s.table.entries[p]? = some e → (payload s 2 p).length = 32 ∧ Holds (payload s 2 p)
      [(0, 1, e.slot.val + 1), (1, 2, e.day.toNat), (3, 2, e.run), (5, 3, e.origin), (8, 1, e.terminal.getD 0),
        (9, 4, e.scheduled),
        (13, 1, match e.observation with
          | none => 0
          | some o => if o.kind = .sight then 1 else 2),
        (14, 1, match e.observation with
          | none => 0
          | some o => (o.stop : Int)),
        (15, 2, match e.observation with
          | none => 0
          | some o => o.delay),
        (17, 4, match e.observation with
          | none => 0
          | some o => o.time),
        (21, 4, e.predicted),
        (25, 1, match e.state with
          | .expected => 0
          | .overdue => 1
          | .atStop => 2),
        (26, 4, e.lastSight.getD 2147483648), (30, 2, orOnes e.shown)]) ∧
    (∀ n : Fin 10, payload s 3 n.val = s.board.targets.get n ∧
      let r := s.engine.lines.get n
      (∀ g, r.glass = some g → g.length = 32) →
        (payload s 3 (10 + n.val)).length = 40 ∧
        ((payload s 3 (10 + n.val)).drop 1).take 32 = r.glass.getD (List.replicate 32 0#8) ∧
        Holds (payload s 3 (10 + n.val))
          [(0, 1, flag r.glass.isSome), (33, 1, r.ghost),
            (34, 1, match r.condition with
              | .settled => 0
              | .unsettled => 1
              | .unknown => 2),
            (35, 4, ago r.dirtySince), (39, 1, flag (s.planner.sweep.get n))]) ∧
    (∀ i : SlotIx,
      let h := s.sheets.slots.get i
      let page := payload s 4 i.val
      ((s.loader.loaded.slots.get i).enabled = false → page = []) ∧
      ((s.loader.loaded.slots.get i).enabled = true → page.length = 20 ∧
        Holds page ((0, 2, ((s.loader.loaded.slots.get i).tag : Int)) :: positionFields 2 (h.forDay s.clock.day) ++
          positionFields 7 (h.forDay (s.clock.day + 1#16)) ++ assemblyFields h.assembly) ∧
        ∀ a, h.assembly = some a → (a.fragments.map (·.1)).Nodup → ∀ index < 12,
          ((be page 18 2).testBit index = true ↔ index ∈ a.fragments.map (·.1)))) ∧
    (∀ p < 4, match s.board.notices[p]? with
      | none => payload s 4 (6 + p) = []
      | some n => (payload s 4 (6 + p)).drop 10 = n.text ∧ Holds (payload s 4 (6 + p))
        [(0, 2, n.origin.toNat), (2, 1, n.serial.toNat),
          (3, 1, (match n.scope with
            | .all _ => 0
            | .route _ => 1
            | .stop _ => 2) + 4 * flag n.urgent + 8 * flag (s.board.current = some p) +
              16 * ((n.expirySecond / 65536 % 2 : Nat) : Int)),
          (4, 2, match n.scope with
            | .all _ => 65535
            | .route tag => (tag : Int)
            | .stop id => (id.toNat : Int)),
          (6, 2, n.expiryDay.toNat), (8, 2, n.expirySecond)]) ∧
    (∀ p < 12, (payload s 5 p).length = 40 ∧ ∀ j < 10, ∀ k, meterOrder[10 * p + j]? = some k →
      (be (payload s 5 p) (4 * j) 4 : Int) = (s.counter k : Int) % 256 ^ 4) ∧
    (∀ p, 4 ≤ p → payload s 1 p = []) ∧ (∀ p, s.table.entries.length ≤ p → payload s 2 p = []) ∧
    (∀ p, 20 ≤ p → payload s 3 p = []) ∧ (∀ p, 10 ≤ p → payload s 4 p = []) ∧ ∀ p, 12 ≤ p → payload s 5 p = []

/-- Each body's fields stand at the offsets of its layout, multi-byte fields most significant byte first, fields
narrower than their bytes in the low bits, and counts beyond what the length holds cut to it. And what one part writes
another reads: the CLOCK, OFFER, SHEET, PASS and NOTICE bodies a part sends are of a length of their kind and read back
as the fields they were written from, at every value the layout admits (11.2, R175). -/
def Obligations.BodiesAreReadAndReadBack : Prop :=
  (∀ b : List Byte,
    (b.length = 8 → readClock b = ⟨be b 2 1 % 8, BitVec.ofNat 16 (be b 3 2), be b 5 3⟩) ∧
    (b.length ∈ bodyLengths .offer → readOffer b = ⟨BitVec.ofNat 16 (be b 2 2),
      (List.range (min (be b 4 1) ((b.length - 5) / 6))).map fun j =>
        ⟨be b (5 + 6 * j) 2 % 4096, BitVec.ofNat 16 (be b (7 + 6 * j) 2), BitVec.ofNat 16 (be b (9 + 6 * j) 2)⟩⟩) ∧
    (b.length ∈ bodyLengths .sheet → readSheet b = ⟨be b 2 2 % 4096, BitVec.ofNat 16 (be b 4 2),
      BitVec.ofNat 16 (be b 6 2), be b 8 1 / 16, be b 8 1 % 16,
      (List.range ((b.length - 9) / 5)).map fun j =>
        ⟨be b (9 + 5 * j) 2 / 64, be b (11 + 5 * j) 3,
          if be b (9 + 5 * j) 2 % 64 = 0 then none else some (be b (9 + 5 * j) 2 % 64)⟩⟩) ∧
    (b.length = 15 → readPass b = ⟨BitVec.ofNat 16 (be b 0 2), be b 2 2 % 4096, be b 4 2 % 1024,
      BitVec.ofNat 16 (be b 6 2), be b 8 1 % 64, signed 16 (be b 9 2), signed 24 (be b 11 3), be b 14 1 % 16⟩) ∧
    (b.length = 8 → readSight b = ⟨be b 2 2 % 4096, be b 4 2 % 1024, be b 6 1 % 64, be b 7 1⟩) ∧
    (b.length ∈ bodyLengths .notice → readNotice b = ⟨BitVec.ofNat 16 (be b 0 2), BitVec.ofNat 8 (be b 2 1), be b 3 1,
      be b 4 2, be b 6 1, BitVec.ofNat 16 (be b 7 2), be b 9 3, be b 12 1, (b.drop 14).take (be b 13 1)⟩) ∧
    (b.length = 6 → readQuery b = ⟨BitVec.ofNat 16 (be b 0 2), BitVec.ofNat 16 (be b 2 2), be b 4 1, be b 5 1⟩)) ∧
  (∀ (id : StopId) (stratum : Nat) (day : Day) (second : Nat), stratum < 8 → second < 2 ^ 24 →
    let b := clockBody id stratum day second
    b.length ∈ bodyLengths .clock ∧ readClock b = ⟨stratum, day, second⟩) ∧
  (∀ (id : StopId) (day : Day) (ls : List Listing), ls.length ≤ 6 → (∀ l ∈ ls, l.tag < 4096) →
    let b := offerBody id day ls
    b.length ∈ bodyLengths .offer ∧ readOffer b = ⟨day, ls⟩) ∧
  (∀ (id : StopId) (tag : Nat) (day : Day) (version : Version) (index count : Nat) (rs : List Run),
    tag < 4096 → index < 16 → count < 16 → rs.length ≤ 7 →
    (∀ r ∈ rs, r.number < 1024 ∧ r.origin < 2 ^ 24 ∧ r.terminal ≠ some 0 ∧ ∀ x, r.terminal = some x → x < 64) →
    let b := sheetBody id tag day version index count rs
    b.length ∈ bodyLengths .sheet ∧ readSheet b = ⟨tag, day, version, index, count, rs⟩) ∧
  (∀ p : PassFields, p.tag < 4096 → p.run < 1024 → p.stop < 64 → p.hops < 16 →
    -32768 ≤ p.delay → p.delay < 32768 → -8388608 ≤ p.time → p.time < 8388608 →
    (passBody p).length ∈ bodyLengths .pass ∧ readPass (passBody p) = p) ∧
  ∀ (n : Notice) (hops : Nat), n.text.length ≤ 31 → n.expirySecond < 2 ^ 24 → hops < 256 →
    (∀ tag, n.scope = .route tag → tag < 4096) →
    (noticeBody n hops).length ∈ bodyLengths .notice ∧
      let f := readNotice (noticeBody n hops)
      f.origin = n.origin ∧ f.serial = n.serial ∧ f.expiryDay = n.expiryDay ∧ f.expirySecond = n.expirySecond ∧
        f.hops = hops ∧ f.text = n.text ∧ (f.priority = if n.urgent then 1 else 0) ∧
        match n.scope with
        | .all _ => f.scope = 0
        | .route tag => f.scope = 1 ∧ f.scopeId = tag
        | .stop id => f.scope = 2 ∧ f.scopeId = id.toNat
end

