-- ==== Sys2Proof/Laws/State.lean ====
section
/-! SUPPORT. What each update of the state leaves as it was: one lemma per field, gathered by update. -/

namespace Sys2Proof.Machine

open Sys2Proof

@[simp] theorem State.countMany_frame (s : State) (c : Counter) (n : Nat) :
    (s.countMany c n).pending = s.pending ∧ (s.countMany c n).elapsed = s.elapsed ∧
    (s.countMany c n).loader = s.loader ∧ (s.countMany c n).clock = s.clock ∧
    (s.countMany c n).sheets = s.sheets ∧ (s.countMany c n).table = s.table ∧
    (s.countMany c n).board = s.board ∧ (s.countMany c n).planner = s.planner ∧
    (s.countMany c n).engine = s.engine ∧ (s.countMany c n).sense = s.sense ∧ (s.countMany c n).rx = s.rx ∧
    (s.countMany c n).tx = s.tx := by
  unfold State.countMany; simp

@[simp] theorem State.count_frame (s : State) (c : Counter) :
    (s.count c).pending = s.pending ∧ (s.count c).elapsed = s.elapsed ∧ (s.count c).loader = s.loader ∧
    (s.count c).clock = s.clock ∧ (s.count c).sheets = s.sheets ∧ (s.count c).table = s.table ∧
    (s.count c).board = s.board ∧ (s.count c).planner = s.planner ∧ (s.count c).engine = s.engine ∧
    (s.count c).sense = s.sense ∧ (s.count c).rx = s.rx ∧ (s.count c).tx = s.tx := by
  unfold State.count; simp

@[simp] theorem State.advance_frame (s : State) (dt : Nat) :
    (s.advance dt).pending = s.pending ∧ (s.advance dt).loader = s.loader ∧
    (s.advance dt).clock.timeValid = s.clock.timeValid ∧ (s.advance dt).clock.day = s.clock.day ∧
    (s.advance dt).clock.second = s.clock.second ∧ (s.advance dt).clock.stratum = s.clock.stratum ∧
    (s.advance dt).clock.lastAdoption = s.clock.lastAdoption ∧
    (s.advance dt).clock.agingTimer = s.clock.agingTimer ∧
    (s.advance dt).clock.beaconTimer = s.clock.beaconTimer ∧ (s.advance dt).sheets = s.sheets ∧
    (s.advance dt).table = s.table ∧ (s.advance dt).board = s.board ∧ (s.advance dt).planner = s.planner ∧
    (s.advance dt).engine = s.engine ∧ (s.advance dt).sense = s.sense ∧ (s.advance dt).rx = s.rx ∧
    (s.advance dt).tx = s.tx ∧ (s.advance dt).counters = s.counters := by
  unfold State.advance; simp

@[simp] theorem State.advanceTo_frame (s : State) (t : Nat) :
    (s.advanceTo t).pending = s.pending ∧ (s.advanceTo t).loader = s.loader ∧
    (s.advanceTo t).clock.timeValid = s.clock.timeValid ∧ (s.advanceTo t).clock.day = s.clock.day ∧
    (s.advanceTo t).clock.second = s.clock.second ∧ (s.advanceTo t).clock.stratum = s.clock.stratum ∧
    (s.advanceTo t).clock.lastAdoption = s.clock.lastAdoption ∧
    (s.advanceTo t).clock.agingTimer = s.clock.agingTimer ∧
    (s.advanceTo t).clock.beaconTimer = s.clock.beaconTimer ∧ (s.advanceTo t).sheets = s.sheets ∧
    (s.advanceTo t).table = s.table ∧ (s.advanceTo t).board = s.board ∧ (s.advanceTo t).planner = s.planner ∧
    (s.advanceTo t).engine = s.engine ∧ (s.advanceTo t).sense = s.sense ∧ (s.advanceTo t).rx = s.rx ∧
    (s.advanceTo t).tx = s.tx ∧ (s.advanceTo t).counters = s.counters := by
  unfold State.advanceTo; simp

@[simp] theorem State.afterDraw_frame (s : State) :
    (s.afterDraw).pending = s.pending ∧ (s.afterDraw).elapsed = s.elapsed ∧ (s.afterDraw).loader = s.loader ∧
    (s.afterDraw).clock = s.clock ∧ (s.afterDraw).sheets = s.sheets ∧ (s.afterDraw).table = s.table ∧
    (s.afterDraw).board = s.board ∧ (s.afterDraw).planner = s.planner ∧ (s.afterDraw).engine = s.engine ∧
    (s.afterDraw).sense = s.sense ∧ (s.afterDraw).rx = s.rx ∧ (s.afterDraw).tx.reply = s.tx.reply ∧
    (s.afterDraw).tx.clockWaiting = s.tx.clockWaiting ∧ (s.afterDraw).tx.offerWaiting = s.tx.offerWaiting ∧
    (s.afterDraw).tx.relay = s.tx.relay ∧ (s.afterDraw).tx.pointer = s.tx.pointer ∧
    (s.afterDraw).tx.state = s.tx.state ∧ (s.afterDraw).tx.granted = s.tx.granted ∧
    (s.afterDraw).tx.stage = s.tx.stage ∧ (s.afterDraw).tx.backoff = s.tx.backoff ∧
    (s.afterDraw).tx.line = s.tx.line ∧ (s.afterDraw).counters = s.counters := by
  unfold State.afterDraw; simp

@[simp] theorem State.stage_frame (s : State) (kind : JobKind) (first last : Nat) (mode : Mode) (cost : Nat) :
    (s.stage kind first last mode cost).pending = s.pending ∧
    (s.stage kind first last mode cost).elapsed = s.elapsed ∧
    (s.stage kind first last mode cost).loader = s.loader ∧
    (s.stage kind first last mode cost).clock = s.clock ∧
    (s.stage kind first last mode cost).sheets = s.sheets ∧
    (s.stage kind first last mode cost).table = s.table ∧
    (s.stage kind first last mode cost).board = s.board ∧
    (s.stage kind first last mode cost).planner.voltage = s.planner.voltage ∧
    (s.stage kind first last mode cost).planner.available = s.planner.available ∧
    (s.stage kind first last mode cost).planner.parkThreshold = s.planner.parkThreshold ∧
    (s.stage kind first last mode cost).planner.leanThreshold = s.planner.leanThreshold ∧
    (s.stage kind first last mode cost).planner.energy = s.planner.energy ∧
    (s.stage kind first last mode cost).planner.boardParked = s.planner.boardParked ∧
    (s.stage kind first last mode cost).planner.sweep = s.planner.sweep ∧
    (s.stage kind first last mode cost).planner.hold = s.planner.hold ∧
    (s.stage kind first last mode cost).planner.halt = s.planner.halt ∧
    (s.stage kind first last mode cost).engine = s.engine ∧
    (s.stage kind first last mode cost).sense = s.sense ∧ (s.stage kind first last mode cost).rx = s.rx ∧
    (s.stage kind first last mode cost).tx = s.tx := by
  unfold State.stage; simp

@[simp] theorem State.holdStaging_frame (s : State) :
    (s.holdStaging).pending = s.pending ∧ (s.holdStaging).elapsed = s.elapsed ∧
    (s.holdStaging).loader = s.loader ∧ (s.holdStaging).clock = s.clock ∧ (s.holdStaging).sheets = s.sheets ∧
    (s.holdStaging).table = s.table ∧ (s.holdStaging).board = s.board ∧
    (s.holdStaging).planner.voltage = s.planner.voltage ∧
    (s.holdStaging).planner.available = s.planner.available ∧
    (s.holdStaging).planner.parkThreshold = s.planner.parkThreshold ∧
    (s.holdStaging).planner.leanThreshold = s.planner.leanThreshold ∧
    (s.holdStaging).planner.energy = s.planner.energy ∧
    (s.holdStaging).planner.boardParked = s.planner.boardParked ∧
    (s.holdStaging).planner.staged = s.planner.staged ∧ (s.holdStaging).planner.sweep = s.planner.sweep ∧
    (s.holdStaging).planner.nextJob = s.planner.nextJob ∧ (s.holdStaging).planner.halt = s.planner.halt ∧
    (s.holdStaging).engine = s.engine ∧ (s.holdStaging).sense = s.sense ∧ (s.holdStaging).rx = s.rx ∧
    (s.holdStaging).tx = s.tx := by
  unfold State.holdStaging; simp

@[simp] theorem State.dropActive_frame (s : State) (a : ActiveJob) :
    (s.dropActive a).pending = s.pending ∧ (s.dropActive a).elapsed = s.elapsed ∧
    (s.dropActive a).loader = s.loader ∧ (s.dropActive a).clock = s.clock ∧
    (s.dropActive a).sheets = s.sheets ∧ (s.dropActive a).table = s.table ∧ (s.dropActive a).board = s.board ∧
    (s.dropActive a).planner.voltage = s.planner.voltage ∧
    (s.dropActive a).planner.available = s.planner.available ∧
    (s.dropActive a).planner.parkThreshold = s.planner.parkThreshold ∧
    (s.dropActive a).planner.leanThreshold = s.planner.leanThreshold ∧
    (s.dropActive a).planner.energy = s.planner.energy ∧
    (s.dropActive a).planner.boardParked = s.planner.boardParked ∧
    (s.dropActive a).planner.staged = s.planner.staged ∧ (s.dropActive a).planner.sweep = s.planner.sweep ∧
    (s.dropActive a).planner.nextJob = s.planner.nextJob ∧ (s.dropActive a).planner.hold = s.planner.hold ∧
    (s.dropActive a).engine.port = s.engine.port ∧
    (s.dropActive a).engine.readRequest = s.engine.readRequest ∧
    (s.dropActive a).engine.freshHold = s.engine.freshHold ∧
    (s.dropActive a).engine.faults = s.engine.faults ∧ (s.dropActive a).engine.faulted = s.engine.faulted ∧
    (s.dropActive a).engine.phaseDeadline = s.engine.phaseDeadline ∧
    (s.dropActive a).engine.readDeadline = s.engine.readDeadline ∧
    (s.dropActive a).engine.commands = s.engine.commands ∧ (s.dropActive a).sense = s.sense ∧
    (s.dropActive a).rx = s.rx ∧ (s.dropActive a).tx = s.tx := by
  unfold State.dropActive; simp

@[simp] theorem State.suspendActive_frame (s : State) (a : ActiveJob) :
    (s.suspendActive a).pending = s.pending ∧ (s.suspendActive a).elapsed = s.elapsed ∧
    (s.suspendActive a).loader = s.loader ∧ (s.suspendActive a).clock = s.clock ∧
    (s.suspendActive a).sheets = s.sheets ∧ (s.suspendActive a).table = s.table ∧
    (s.suspendActive a).board = s.board ∧ (s.suspendActive a).planner = s.planner ∧
    (s.suspendActive a).engine.lines = s.engine.lines ∧ (s.suspendActive a).engine.port = s.engine.port ∧
    (s.suspendActive a).engine.readRequest = s.engine.readRequest ∧
    (s.suspendActive a).engine.freshHold = s.engine.freshHold ∧
    (s.suspendActive a).engine.faults = s.engine.faults ∧
    (s.suspendActive a).engine.faulted = s.engine.faulted ∧
    (s.suspendActive a).engine.phaseDeadline = s.engine.phaseDeadline ∧
    (s.suspendActive a).engine.readDeadline = s.engine.readDeadline ∧
    (s.suspendActive a).engine.commands = s.engine.commands ∧ (s.suspendActive a).sense = s.sense ∧
    (s.suspendActive a).rx = s.rx ∧ (s.suspendActive a).tx = s.tx := by
  unfold State.suspendActive; simp

@[simp] theorem State.promote_frame (s : State) (j : Job) :
    (s.promote j).pending = s.pending ∧ (s.promote j).elapsed = s.elapsed ∧ (s.promote j).loader = s.loader ∧
    (s.promote j).clock = s.clock ∧ (s.promote j).sheets = s.sheets ∧ (s.promote j).table = s.table ∧
    (s.promote j).board = s.board ∧ (s.promote j).planner.voltage = s.planner.voltage ∧
    (s.promote j).planner.available = s.planner.available ∧
    (s.promote j).planner.parkThreshold = s.planner.parkThreshold ∧
    (s.promote j).planner.leanThreshold = s.planner.leanThreshold ∧
    (s.promote j).planner.energy = s.planner.energy ∧
    (s.promote j).planner.boardParked = s.planner.boardParked ∧
    (s.promote j).planner.sweep = s.planner.sweep ∧ (s.promote j).planner.nextJob = s.planner.nextJob ∧
    (s.promote j).planner.hold = s.planner.hold ∧ (s.promote j).planner.halt = s.planner.halt ∧
    (s.promote j).engine.lines = s.engine.lines ∧ (s.promote j).engine.port = s.engine.port ∧
    (s.promote j).engine.readRequest = s.engine.readRequest ∧
    (s.promote j).engine.freshHold = s.engine.freshHold ∧
    (s.promote j).engine.suspendedAt = s.engine.suspendedAt ∧ (s.promote j).engine.faults = s.engine.faults ∧
    (s.promote j).engine.faulted = s.engine.faulted ∧
    (s.promote j).engine.phaseDeadline = s.engine.phaseDeadline ∧
    (s.promote j).engine.readDeadline = s.engine.readDeadline ∧
    (s.promote j).engine.commands = s.engine.commands ∧ (s.promote j).sense = s.sense ∧
    (s.promote j).rx = s.rx ∧ (s.promote j).tx = s.tx := by
  unfold State.promote; simp

@[simp] theorem State.releasePort_frame (s : State) :
    (s.releasePort).pending = s.pending ∧ (s.releasePort).elapsed = s.elapsed ∧
    (s.releasePort).loader = s.loader ∧ (s.releasePort).clock = s.clock ∧ (s.releasePort).sheets = s.sheets ∧
    (s.releasePort).table = s.table ∧ (s.releasePort).board = s.board ∧ (s.releasePort).planner = s.planner ∧
    (s.releasePort).sense = s.sense ∧ (s.releasePort).rx = s.rx ∧ (s.releasePort).tx = s.tx ∧
    (s.releasePort).counters = s.counters := by
  unfold State.releasePort; simp

@[simp] theorem State.recordCompletion_frame (s : State) (a : ActiveJob) :
    (s.recordCompletion a).pending = s.pending ∧ (s.recordCompletion a).elapsed = s.elapsed ∧
    (s.recordCompletion a).loader = s.loader ∧ (s.recordCompletion a).clock = s.clock ∧
    (s.recordCompletion a).sheets = s.sheets ∧ (s.recordCompletion a).table = s.table ∧
    (s.recordCompletion a).board = s.board ∧ (s.recordCompletion a).planner.voltage = s.planner.voltage ∧
    (s.recordCompletion a).planner.available = s.planner.available ∧
    (s.recordCompletion a).planner.parkThreshold = s.planner.parkThreshold ∧
    (s.recordCompletion a).planner.leanThreshold = s.planner.leanThreshold ∧
    (s.recordCompletion a).planner.energy = s.planner.energy ∧
    (s.recordCompletion a).planner.staged = s.planner.staged ∧
    (s.recordCompletion a).planner.nextJob = s.planner.nextJob ∧
    (s.recordCompletion a).planner.hold = s.planner.hold ∧
    (s.recordCompletion a).engine.port = s.engine.port ∧
    (s.recordCompletion a).engine.readRequest = s.engine.readRequest ∧
    (s.recordCompletion a).engine.freshHold = s.engine.freshHold ∧
    (s.recordCompletion a).engine.faulted = s.engine.faulted ∧
    (s.recordCompletion a).engine.phaseDeadline = s.engine.phaseDeadline ∧
    (s.recordCompletion a).engine.readDeadline = s.engine.readDeadline ∧
    (s.recordCompletion a).engine.commands = s.engine.commands ∧ (s.recordCompletion a).sense = s.sense ∧
    (s.recordCompletion a).rx = s.rx ∧ (s.recordCompletion a).tx = s.tx := by
  unfold State.recordCompletion; simp

@[simp] theorem State.reportCompletion_frame (s : State) (j : Job) :
    (s.reportCompletion j).pending = s.pending ∧
    (s.reportCompletion j).elapsed = s.elapsed ∧
    (s.reportCompletion j).loader = s.loader ∧
    (s.reportCompletion j).clock = s.clock ∧
    (s.reportCompletion j).sheets = s.sheets ∧
    (s.reportCompletion j).table = s.table ∧
    (s.reportCompletion j).board = s.board ∧
    (s.reportCompletion j).engine = s.engine ∧
    (s.reportCompletion j).sense = s.sense ∧
    (s.reportCompletion j).rx = s.rx ∧
    (s.reportCompletion j).tx = s.tx ∧
    (s.reportCompletion j).planner.voltage = s.planner.voltage ∧
    (s.reportCompletion j).planner.available = s.planner.available ∧
    (s.reportCompletion j).planner.parkThreshold = s.planner.parkThreshold ∧
    (s.reportCompletion j).planner.leanThreshold = s.planner.leanThreshold ∧
    (s.reportCompletion j).planner.energy = s.planner.energy ∧
    (s.reportCompletion j).planner.staged = s.planner.staged ∧
    (s.reportCompletion j).planner.nextJob = s.planner.nextJob ∧
    (s.reportCompletion j).planner.hold = s.planner.hold ∧
    (s.reportCompletion j).planner.halt = s.planner.halt ∧
    (s.reportCompletion j).counters = s.counters := by
  unfold State.reportCompletion; simp

@[simp] theorem State.account_frame (s : State) (v : Nat) :
    (s.account v).pending = s.pending ∧ (s.account v).elapsed = s.elapsed ∧ (s.account v).loader = s.loader ∧
    (s.account v).clock = s.clock ∧ (s.account v).sheets = s.sheets ∧ (s.account v).table = s.table ∧
    (s.account v).board = s.board ∧ (s.account v).planner.boardParked = s.planner.boardParked ∧
    (s.account v).planner.staged = s.planner.staged ∧ (s.account v).planner.sweep = s.planner.sweep ∧
    (s.account v).planner.nextJob = s.planner.nextJob ∧ (s.account v).planner.halt = s.planner.halt ∧
    (s.account v).engine = s.engine ∧ (s.account v).sense = s.sense ∧ (s.account v).rx = s.rx ∧
    (s.account v).tx = s.tx ∧ (s.account v).counters = s.counters := by
  unfold State.account; simp

@[simp] theorem State.setSweep_frame (s : State) :
    (s.setSweep).pending = s.pending ∧ (s.setSweep).elapsed = s.elapsed ∧ (s.setSweep).loader = s.loader ∧
    (s.setSweep).clock = s.clock ∧ (s.setSweep).sheets = s.sheets ∧ (s.setSweep).table = s.table ∧
    (s.setSweep).board = s.board ∧ (s.setSweep).planner.voltage = s.planner.voltage ∧
    (s.setSweep).planner.available = s.planner.available ∧
    (s.setSweep).planner.parkThreshold = s.planner.parkThreshold ∧
    (s.setSweep).planner.leanThreshold = s.planner.leanThreshold ∧
    (s.setSweep).planner.energy = s.planner.energy ∧
    (s.setSweep).planner.boardParked = s.planner.boardParked ∧
    (s.setSweep).planner.staged = s.planner.staged ∧ (s.setSweep).planner.nextJob = s.planner.nextJob ∧
    (s.setSweep).planner.hold = s.planner.hold ∧ (s.setSweep).planner.halt = s.planner.halt ∧
    (s.setSweep).engine = s.engine ∧ (s.setSweep).sense = s.sense ∧ (s.setSweep).rx = s.rx ∧
    (s.setSweep).tx = s.tx := by
  unfold State.setSweep; simp

@[simp] theorem State.setNotices_frame (s : State) (ns : List Notice) (current : Option Nat) (same : Bool) :
    (s.setNotices ns current same).pending = s.pending ∧ (s.setNotices ns current same).elapsed = s.elapsed ∧
    (s.setNotices ns current same).loader = s.loader ∧ (s.setNotices ns current same).clock = s.clock ∧
    (s.setNotices ns current same).sheets = s.sheets ∧ (s.setNotices ns current same).table = s.table ∧
    (s.setNotices ns current same).board.targets = s.board.targets ∧
    (s.setNotices ns current same).planner = s.planner ∧ (s.setNotices ns current same).engine = s.engine ∧
    (s.setNotices ns current same).sense = s.sense ∧ (s.setNotices ns current same).rx = s.rx ∧
    (s.setNotices ns current same).tx = s.tx ∧ (s.setNotices ns current same).counters = s.counters := by
  unfold State.setNotices; simp

@[simp] theorem State.loadValues_frame (s : State) (source : ConfigSource) (c : Loaded) :
    (s.loadValues source c).pending = s.pending ∧ (s.loadValues source c).elapsed = s.elapsed ∧
    (s.loadValues source c).loader.released = s.loader.released ∧ (s.loadValues source c).clock = s.clock ∧
    (s.loadValues source c).sheets = s.sheets ∧ (s.loadValues source c).table = s.table ∧
    (s.loadValues source c).board = s.board ∧ (s.loadValues source c).planner = s.planner ∧
    (s.loadValues source c).engine = s.engine ∧ (s.loadValues source c).sense = s.sense ∧
    (s.loadValues source c).rx = s.rx ∧ (s.loadValues source c).tx = s.tx ∧
    (s.loadValues source c).counters = s.counters := by
  unfold State.loadValues; simp

@[simp] theorem State.startPlanner_frame (s : State) :
    (s.startPlanner).pending = s.pending ∧ (s.startPlanner).elapsed = s.elapsed ∧
    (s.startPlanner).loader = s.loader ∧ (s.startPlanner).clock = s.clock ∧
    (s.startPlanner).sheets = s.sheets ∧ (s.startPlanner).table = s.table ∧ (s.startPlanner).board = s.board ∧
    (s.startPlanner).planner.voltage = s.planner.voltage ∧
    (s.startPlanner).planner.available = s.planner.available ∧
    (s.startPlanner).planner.energy = s.planner.energy ∧
    (s.startPlanner).planner.boardParked = s.planner.boardParked ∧
    (s.startPlanner).planner.staged = s.planner.staged ∧ (s.startPlanner).planner.sweep = s.planner.sweep ∧
    (s.startPlanner).planner.nextJob = s.planner.nextJob ∧ (s.startPlanner).planner.hold = s.planner.hold ∧
    (s.startPlanner).planner.halt = s.planner.halt ∧ (s.startPlanner).engine = s.engine ∧
    (s.startPlanner).sense = s.sense ∧ (s.startPlanner).rx = s.rx ∧ (s.startPlanner).tx = s.tx ∧
    (s.startPlanner).counters = s.counters := by
  unfold State.startPlanner; simp

@[simp] theorem State.startPort_frame (s : State) :
    (s.startPort).pending = s.pending ∧ (s.startPort).elapsed = s.elapsed ∧ (s.startPort).loader = s.loader ∧
    (s.startPort).clock = s.clock ∧ (s.startPort).sheets = s.sheets ∧ (s.startPort).table = s.table ∧
    (s.startPort).board = s.board ∧ (s.startPort).planner = s.planner ∧ (s.startPort).engine = s.engine ∧
    (s.startPort).sense = s.sense ∧ (s.startPort).rx.buffer = s.rx.buffer ∧
    (s.startPort).rx.lastCharacter = s.rx.lastCharacter ∧ (s.startPort).rx.queue = s.rx.queue ∧
    (s.startPort).rx.quietTimer = s.rx.quietTimer ∧ (s.startPort).rx.sniffTimer = s.rx.sniffTimer ∧
    (s.startPort).rx.window = s.rx.window ∧ (s.startPort).tx.reply = s.tx.reply ∧
    (s.startPort).tx.clockWaiting = s.tx.clockWaiting ∧ (s.startPort).tx.offerWaiting = s.tx.offerWaiting ∧
    (s.startPort).tx.relay = s.tx.relay ∧ (s.startPort).tx.pointer = s.tx.pointer ∧
    (s.startPort).tx.state = s.tx.state ∧ (s.startPort).tx.granted = s.tx.granted ∧
    (s.startPort).tx.stage = s.tx.stage ∧ (s.startPort).tx.backoff = s.tx.backoff ∧
    (s.startPort).tx.line = s.tx.line ∧ (s.startPort).counters = s.counters := by
  unfold State.startPort; simp

@[simp] theorem State.receiveAs_frame (s : State) (st : ReceiveState) (buffer : List Byte) :
    (s.receiveAs st buffer).pending = s.pending ∧ (s.receiveAs st buffer).elapsed = s.elapsed ∧
    (s.receiveAs st buffer).loader = s.loader ∧ (s.receiveAs st buffer).clock = s.clock ∧
    (s.receiveAs st buffer).sheets = s.sheets ∧ (s.receiveAs st buffer).table = s.table ∧
    (s.receiveAs st buffer).board = s.board ∧ (s.receiveAs st buffer).planner = s.planner ∧
    (s.receiveAs st buffer).engine = s.engine ∧ (s.receiveAs st buffer).sense = s.sense ∧
    (s.receiveAs st buffer).rx.lastCharacter = s.rx.lastCharacter ∧
    (s.receiveAs st buffer).rx.queue = s.rx.queue ∧ (s.receiveAs st buffer).rx.mode = s.rx.mode ∧
    (s.receiveAs st buffer).rx.quietTimer = s.rx.quietTimer ∧
    (s.receiveAs st buffer).rx.sniffTimer = s.rx.sniffTimer ∧
    (s.receiveAs st buffer).rx.window = s.rx.window ∧ (s.receiveAs st buffer).rx.radio = s.rx.radio ∧
    (s.receiveAs st buffer).tx = s.tx ∧ (s.receiveAs st buffer).counters = s.counters := by
  unfold State.receiveAs; simp

@[simp] theorem State.endWindow_frame (s : State) :
    (s.endWindow).pending = s.pending ∧ (s.endWindow).elapsed = s.elapsed ∧ (s.endWindow).loader = s.loader ∧
    (s.endWindow).clock = s.clock ∧ (s.endWindow).sheets = s.sheets ∧ (s.endWindow).table = s.table ∧
    (s.endWindow).board = s.board ∧ (s.endWindow).planner = s.planner ∧ (s.endWindow).engine = s.engine ∧
    (s.endWindow).sense = s.sense ∧ (s.endWindow).rx.state = s.rx.state ∧
    (s.endWindow).rx.buffer = s.rx.buffer ∧ (s.endWindow).rx.lastCharacter = s.rx.lastCharacter ∧
    (s.endWindow).rx.queue = s.rx.queue ∧ (s.endWindow).rx.mode = s.rx.mode ∧
    (s.endWindow).rx.quietTimer = s.rx.quietTimer ∧ (s.endWindow).rx.sniffTimer = s.rx.sniffTimer ∧
    (s.endWindow).rx.radio = s.rx.radio ∧ (s.endWindow).tx = s.tx ∧ (s.endWindow).counters = s.counters := by
  unfold State.endWindow; simp

@[simp] theorem State.accessAs_frame (s : State) (st : AccessStage) (backoff : Option Nat) :
    (s.accessAs st backoff).pending = s.pending ∧ (s.accessAs st backoff).elapsed = s.elapsed ∧
    (s.accessAs st backoff).loader = s.loader ∧ (s.accessAs st backoff).clock = s.clock ∧
    (s.accessAs st backoff).sheets = s.sheets ∧ (s.accessAs st backoff).table = s.table ∧
    (s.accessAs st backoff).board = s.board ∧ (s.accessAs st backoff).planner = s.planner ∧
    (s.accessAs st backoff).engine = s.engine ∧ (s.accessAs st backoff).sense = s.sense ∧
    (s.accessAs st backoff).rx = s.rx ∧ (s.accessAs st backoff).tx.reply = s.tx.reply ∧
    (s.accessAs st backoff).tx.clockWaiting = s.tx.clockWaiting ∧
    (s.accessAs st backoff).tx.offerWaiting = s.tx.offerWaiting ∧
    (s.accessAs st backoff).tx.relay = s.tx.relay ∧ (s.accessAs st backoff).tx.pointer = s.tx.pointer ∧
    (s.accessAs st backoff).tx.state = s.tx.state ∧ (s.accessAs st backoff).tx.granted = s.tx.granted ∧
    (s.accessAs st backoff).tx.lfsr = s.tx.lfsr ∧ (s.accessAs st backoff).tx.line = s.tx.line ∧
    (s.accessAs st backoff).counters = s.counters := by
  unfold State.accessAs; simp

@[simp] theorem State.startRebuild_frame (s : State) (slot : SlotIx) (day : Day) (runs : List Run) :
    (s.startRebuild slot day runs).pending = s.pending ∧ (s.startRebuild slot day runs).elapsed = s.elapsed ∧
    (s.startRebuild slot day runs).loader = s.loader ∧ (s.startRebuild slot day runs).clock = s.clock ∧
    (s.startRebuild slot day runs).sheets = s.sheets ∧
    (s.startRebuild slot day runs).table.entries = s.table.entries ∧
    (s.startRebuild slot day runs).table.marks = s.table.marks ∧
    (s.startRebuild slot day runs).table.passOwed = s.table.passOwed ∧
    (s.startRebuild slot day runs).board = s.board ∧ (s.startRebuild slot day runs).planner = s.planner ∧
    (s.startRebuild slot day runs).engine = s.engine ∧ (s.startRebuild slot day runs).sense = s.sense ∧
    (s.startRebuild slot day runs).rx = s.rx ∧ (s.startRebuild slot day runs).tx = s.tx ∧
    (s.startRebuild slot day runs).counters = s.counters := by
  unfold State.startRebuild; simp

@[simp] theorem State.takeStratum_frame (s : State) (c : Nat) :
    (s.takeStratum c).pending = s.pending ∧ (s.takeStratum c).elapsed = s.elapsed ∧
    (s.takeStratum c).loader = s.loader ∧ (s.takeStratum c).clock.timeValid = s.clock.timeValid ∧
    (s.takeStratum c).clock.day = s.clock.day ∧ (s.takeStratum c).clock.second = s.clock.second ∧
    (s.takeStratum c).clock.phase = s.clock.phase ∧
    (s.takeStratum c).clock.beaconTimer = s.clock.beaconTimer ∧ (s.takeStratum c).sheets = s.sheets ∧
    (s.takeStratum c).table = s.table ∧ (s.takeStratum c).board = s.board ∧
    (s.takeStratum c).planner = s.planner ∧ (s.takeStratum c).engine = s.engine ∧
    (s.takeStratum c).sense = s.sense ∧ (s.takeStratum c).rx = s.rx ∧ (s.takeStratum c).tx = s.tx := by
  unfold State.takeStratum; simp

@[simp] theorem State.setTime_frame (s : State) (m : Moment) :
    (s.setTime m).pending = s.pending ∧ (s.setTime m).elapsed = s.elapsed ∧ (s.setTime m).loader = s.loader ∧
    (s.setTime m).clock.timeValid = s.clock.timeValid ∧ (s.setTime m).clock.stratum = s.clock.stratum ∧
    (s.setTime m).clock.lastAdoption = s.clock.lastAdoption ∧
    (s.setTime m).clock.agingTimer = s.clock.agingTimer ∧
    (s.setTime m).clock.beaconTimer = s.clock.beaconTimer ∧ (s.setTime m).sheets = s.sheets ∧
    (s.setTime m).table = s.table ∧ (s.setTime m).board = s.board ∧ (s.setTime m).planner = s.planner ∧
    (s.setTime m).engine = s.engine ∧ (s.setTime m).sense = s.sense ∧ (s.setTime m).rx = s.rx ∧
    (s.setTime m).tx = s.tx ∧ (s.setTime m).counters = s.counters := by
  unfold State.setTime; simp

@[simp] theorem State.startConversion_frame (s : State) :
    (s.startConversion).pending = s.pending ∧ (s.startConversion).elapsed = s.elapsed ∧
    (s.startConversion).loader = s.loader ∧ (s.startConversion).clock = s.clock ∧
    (s.startConversion).sheets = s.sheets ∧ (s.startConversion).table = s.table ∧
    (s.startConversion).board = s.board ∧ (s.startConversion).planner = s.planner ∧
    (s.startConversion).engine = s.engine ∧ (s.startConversion).sense.history = s.sense.history ∧
    (s.startConversion).sense.median = s.sense.median ∧
    (s.startConversion).sense.storeLow = s.sense.storeLow ∧
    (s.startConversion).sense.temperature = s.sense.temperature ∧
    (s.startConversion).sense.band = s.sense.band ∧ (s.startConversion).sense.failures = s.sense.failures ∧
    (s.startConversion).sense.temperatureTimer = s.sense.temperatureTimer ∧ (s.startConversion).rx = s.rx ∧
    (s.startConversion).tx = s.tx ∧ (s.startConversion).counters = s.counters := by
  unfold State.startConversion; simp

@[simp] theorem State.withActive_frame (s : State) (a : ActiveJob) :
    (s.withActive a).pending = s.pending ∧ (s.withActive a).elapsed = s.elapsed ∧
    (s.withActive a).loader = s.loader ∧ (s.withActive a).clock = s.clock ∧
    (s.withActive a).sheets = s.sheets ∧ (s.withActive a).table = s.table ∧ (s.withActive a).board = s.board ∧
    (s.withActive a).planner = s.planner ∧ (s.withActive a).engine.lines = s.engine.lines ∧
    (s.withActive a).engine.port = s.engine.port ∧
    (s.withActive a).engine.readRequest = s.engine.readRequest ∧
    (s.withActive a).engine.freshHold = s.engine.freshHold ∧
    (s.withActive a).engine.suspendedAt = s.engine.suspendedAt ∧
    (s.withActive a).engine.faults = s.engine.faults ∧ (s.withActive a).engine.faulted = s.engine.faulted ∧
    (s.withActive a).engine.phaseDeadline = s.engine.phaseDeadline ∧
    (s.withActive a).engine.readDeadline = s.engine.readDeadline ∧
    (s.withActive a).engine.commands = s.engine.commands ∧ (s.withActive a).sense = s.sense ∧
    (s.withActive a).rx = s.rx ∧ (s.withActive a).tx = s.tx ∧ (s.withActive a).counters = s.counters := by
  unfold State.withActive; simp

@[simp] theorem State.declareFault_frame (s : State) :
    (s.declareFault).pending = s.pending ∧ (s.declareFault).elapsed = s.elapsed ∧
    (s.declareFault).loader = s.loader ∧ (s.declareFault).clock = s.clock ∧
    (s.declareFault).sheets = s.sheets ∧ (s.declareFault).table = s.table ∧ (s.declareFault).board = s.board ∧
    (s.declareFault).planner = s.planner ∧ (s.declareFault).engine.lines = s.engine.lines ∧
    (s.declareFault).engine.active = s.engine.active ∧
    (s.declareFault).engine.readRequest = s.engine.readRequest ∧
    (s.declareFault).engine.freshHold = s.engine.freshHold ∧
    (s.declareFault).engine.suspendedAt = s.engine.suspendedAt ∧
    (s.declareFault).engine.faulted = s.engine.faulted ∧
    (s.declareFault).engine.readDeadline = s.engine.readDeadline ∧ (s.declareFault).sense = s.sense ∧
    (s.declareFault).rx = s.rx ∧ (s.declareFault).tx = s.tx := by
  unfold State.declareFault; simp

@[simp] theorem State.releaseHoldoff_frame (s : State) (place : Nat) :
    (s.releaseHoldoff place).pending = s.pending ∧ (s.releaseHoldoff place).elapsed = s.elapsed ∧
    (s.releaseHoldoff place).loader = s.loader ∧ (s.releaseHoldoff place).clock = s.clock ∧
    (s.releaseHoldoff place).sheets.slots = s.sheets.slots ∧
    (s.releaseHoldoff place).sheets.waiting = s.sheets.waiting ∧
    (s.releaseHoldoff place).sheets.offerTimer = s.sheets.offerTimer ∧
    (s.releaseHoldoff place).table = s.table ∧ (s.releaseHoldoff place).board = s.board ∧
    (s.releaseHoldoff place).planner = s.planner ∧ (s.releaseHoldoff place).engine = s.engine ∧
    (s.releaseHoldoff place).sense = s.sense ∧ (s.releaseHoldoff place).rx = s.rx ∧
    (s.releaseHoldoff place).tx = s.tx ∧ (s.releaseHoldoff place).counters = s.counters := by
  unfold State.releaseHoldoff; simp

end Sys2Proof.Machine
end

