-- ==== Sys2Proof/Laws/Frames.lean ====
section
/-! SUPPORT. What each shared operation of the machine leaves as it was. A proof rewrites with these lemmas and
unfolds an operation only for what it changes. -/

namespace Sys2Proof.Machine

open Sys2Proof

theorem fold_frame {σ α β : Type} (f : σ → α → σ) (g : σ → β)
    (h : ∀ s a, g (f s a) = g s) (l : List α) (s : σ) : g (l.foldl f s) = g s := by
  induction l generalizing s with
  | nil => rfl
  | cons a l ih => simp only [List.foldl_cons, ih, h]

@[simp] theorem State.withdrawStaged_frame (s : State) :
    (s.withdrawStaged).pending = s.pending ∧ (s.withdrawStaged).elapsed = s.elapsed ∧
    (s.withdrawStaged).loader = s.loader ∧ (s.withdrawStaged).clock = s.clock ∧
    (s.withdrawStaged).sheets = s.sheets ∧ (s.withdrawStaged).table = s.table ∧
    (s.withdrawStaged).board = s.board ∧ (s.withdrawStaged).planner.voltage = s.planner.voltage ∧
    (s.withdrawStaged).planner.available = s.planner.available ∧
    (s.withdrawStaged).planner.parkThreshold = s.planner.parkThreshold ∧
    (s.withdrawStaged).planner.leanThreshold = s.planner.leanThreshold ∧
    (s.withdrawStaged).planner.energy = s.planner.energy ∧
    (s.withdrawStaged).planner.boardParked = s.planner.boardParked ∧
    (s.withdrawStaged).planner.sweep = s.planner.sweep ∧
    (s.withdrawStaged).planner.nextJob = s.planner.nextJob ∧
    (s.withdrawStaged).planner.hold = s.planner.hold ∧ (s.withdrawStaged).planner.halt = s.planner.halt ∧
    (s.withdrawStaged).engine = s.engine ∧ (s.withdrawStaged).sense = s.sense ∧ (s.withdrawStaged).rx = s.rx ∧
    (s.withdrawStaged).tx = s.tx := by
  unfold State.withdrawStaged; (repeat' split) <;> simp

@[simp] theorem State.stageNormal_frame (s : State) :
    (s.stageNormal).pending = s.pending ∧ (s.stageNormal).elapsed = s.elapsed ∧
    (s.stageNormal).loader = s.loader ∧ (s.stageNormal).clock = s.clock ∧ (s.stageNormal).sheets = s.sheets ∧
    (s.stageNormal).table = s.table ∧ (s.stageNormal).board = s.board ∧
    (s.stageNormal).planner.voltage = s.planner.voltage ∧
    (s.stageNormal).planner.available = s.planner.available ∧
    (s.stageNormal).planner.parkThreshold = s.planner.parkThreshold ∧
    (s.stageNormal).planner.leanThreshold = s.planner.leanThreshold ∧
    (s.stageNormal).planner.energy = s.planner.energy ∧
    (s.stageNormal).planner.boardParked = s.planner.boardParked ∧
    (s.stageNormal).planner.sweep = s.planner.sweep ∧ (s.stageNormal).planner.halt = s.planner.halt ∧
    (s.stageNormal).engine = s.engine ∧ (s.stageNormal).sense = s.sense ∧ (s.stageNormal).rx = s.rx ∧
    (s.stageNormal).tx = s.tx := by
  unfold State.stageNormal; dsimp only; (repeat' split) <;> simp

@[simp] theorem State.stopWaiting_frame (s : State) :
    (s.stopWaiting).pending = s.pending ∧ (s.stopWaiting).elapsed = s.elapsed ∧
    (s.stopWaiting).loader = s.loader ∧ (s.stopWaiting).clock = s.clock ∧ (s.stopWaiting).sheets = s.sheets ∧
    (s.stopWaiting).table = s.table ∧ (s.stopWaiting).board = s.board ∧ (s.stopWaiting).planner = s.planner ∧
    (s.stopWaiting).engine.lines = s.engine.lines ∧ (s.stopWaiting).engine.port = s.engine.port ∧
    (s.stopWaiting).engine.readRequest = s.engine.readRequest ∧
    (s.stopWaiting).engine.freshHold = s.engine.freshHold ∧ (s.stopWaiting).engine.faults = s.engine.faults ∧
    (s.stopWaiting).engine.faulted = s.engine.faulted ∧
    (s.stopWaiting).engine.phaseDeadline = s.engine.phaseDeadline ∧
    (s.stopWaiting).engine.readDeadline = s.engine.readDeadline ∧
    (s.stopWaiting).engine.commands = s.engine.commands ∧ (s.stopWaiting).sense = s.sense ∧
    (s.stopWaiting).rx = s.rx ∧ (s.stopWaiting).tx = s.tx := by
  unfold State.stopWaiting; (repeat' split) <;> simp

@[simp] theorem State.askHalt_frame (s : State) :
    (s.askHalt).pending = s.pending ∧ (s.askHalt).elapsed = s.elapsed ∧ (s.askHalt).loader = s.loader ∧
    (s.askHalt).clock = s.clock ∧ (s.askHalt).sheets = s.sheets ∧ (s.askHalt).table = s.table ∧
    (s.askHalt).board = s.board ∧ (s.askHalt).planner.voltage = s.planner.voltage ∧
    (s.askHalt).planner.available = s.planner.available ∧
    (s.askHalt).planner.parkThreshold = s.planner.parkThreshold ∧
    (s.askHalt).planner.leanThreshold = s.planner.leanThreshold ∧
    (s.askHalt).planner.energy = s.planner.energy ∧ (s.askHalt).planner.boardParked = s.planner.boardParked ∧
    (s.askHalt).planner.staged = s.planner.staged ∧ (s.askHalt).planner.sweep = s.planner.sweep ∧
    (s.askHalt).planner.nextJob = s.planner.nextJob ∧ (s.askHalt).planner.hold = s.planner.hold ∧
    (s.askHalt).engine.lines = s.engine.lines ∧ (s.askHalt).engine.port = s.engine.port ∧
    (s.askHalt).engine.readRequest = s.engine.readRequest ∧
    (s.askHalt).engine.freshHold = s.engine.freshHold ∧ (s.askHalt).engine.faults = s.engine.faults ∧
    (s.askHalt).engine.faulted = s.engine.faulted ∧
    (s.askHalt).engine.phaseDeadline = s.engine.phaseDeadline ∧
    (s.askHalt).engine.readDeadline = s.engine.readDeadline ∧
    (s.askHalt).engine.commands = s.engine.commands ∧ (s.askHalt).sense = s.sense ∧ (s.askHalt).rx = s.rx ∧
    (s.askHalt).tx = s.tx := by
  unfold State.askHalt; (repeat' split) <;> simp

@[simp] theorem State.clearForPark_frame (s : State) :
    (s.clearForPark).pending = s.pending ∧ (s.clearForPark).elapsed = s.elapsed ∧
    (s.clearForPark).loader = s.loader ∧ (s.clearForPark).clock = s.clock ∧
    (s.clearForPark).sheets = s.sheets ∧ (s.clearForPark).table = s.table ∧ (s.clearForPark).board = s.board ∧
    (s.clearForPark).planner.voltage = s.planner.voltage ∧
    (s.clearForPark).planner.available = s.planner.available ∧
    (s.clearForPark).planner.parkThreshold = s.planner.parkThreshold ∧
    (s.clearForPark).planner.leanThreshold = s.planner.leanThreshold ∧
    (s.clearForPark).planner.energy = s.planner.energy ∧
    (s.clearForPark).planner.boardParked = s.planner.boardParked ∧
    (s.clearForPark).planner.staged = s.planner.staged ∧ (s.clearForPark).planner.sweep = s.planner.sweep ∧
    (s.clearForPark).planner.nextJob = s.planner.nextJob ∧ (s.clearForPark).planner.hold = s.planner.hold ∧
    (s.clearForPark).engine.port = s.engine.port ∧
    (s.clearForPark).engine.readRequest = s.engine.readRequest ∧
    (s.clearForPark).engine.freshHold = s.engine.freshHold ∧
    (s.clearForPark).engine.faults = s.engine.faults ∧ (s.clearForPark).engine.faulted = s.engine.faulted ∧
    (s.clearForPark).engine.phaseDeadline = s.engine.phaseDeadline ∧
    (s.clearForPark).engine.readDeadline = s.engine.readDeadline ∧
    (s.clearForPark).engine.commands = s.engine.commands ∧ (s.clearForPark).sense = s.sense ∧
    (s.clearForPark).rx = s.rx ∧ (s.clearForPark).tx = s.tx := by
  unfold State.clearForPark; (repeat' split) <;> simp

@[simp] theorem State.stagePark_frame (s : State) :
    (s.stagePark).pending = s.pending ∧ (s.stagePark).elapsed = s.elapsed ∧ (s.stagePark).loader = s.loader ∧
    (s.stagePark).clock = s.clock ∧ (s.stagePark).sheets = s.sheets ∧ (s.stagePark).table = s.table ∧
    (s.stagePark).board = s.board ∧ (s.stagePark).planner.voltage = s.planner.voltage ∧
    (s.stagePark).planner.available = s.planner.available ∧
    (s.stagePark).planner.parkThreshold = s.planner.parkThreshold ∧
    (s.stagePark).planner.leanThreshold = s.planner.leanThreshold ∧
    (s.stagePark).planner.energy = s.planner.energy ∧
    (s.stagePark).planner.boardParked = s.planner.boardParked ∧
    (s.stagePark).planner.sweep = s.planner.sweep ∧ (s.stagePark).planner.hold = s.planner.hold ∧
    (s.stagePark).engine.port = s.engine.port ∧ (s.stagePark).engine.readRequest = s.engine.readRequest ∧
    (s.stagePark).engine.freshHold = s.engine.freshHold ∧ (s.stagePark).engine.faults = s.engine.faults ∧
    (s.stagePark).engine.faulted = s.engine.faulted ∧
    (s.stagePark).engine.phaseDeadline = s.engine.phaseDeadline ∧
    (s.stagePark).engine.readDeadline = s.engine.readDeadline ∧
    (s.stagePark).engine.commands = s.engine.commands ∧ (s.stagePark).sense = s.sense ∧
    (s.stagePark).rx = s.rx ∧ (s.stagePark).tx = s.tx := by
  unfold State.stagePark; (repeat' split) <;> simp

@[simp] theorem State.planPark_frame (s : State) :
    (s.planPark).pending = s.pending ∧ (s.planPark).elapsed = s.elapsed ∧ (s.planPark).loader = s.loader ∧
    (s.planPark).clock = s.clock ∧ (s.planPark).sheets = s.sheets ∧ (s.planPark).table = s.table ∧
    (s.planPark).board = s.board ∧ (s.planPark).planner.voltage = s.planner.voltage ∧
    (s.planPark).planner.available = s.planner.available ∧
    (s.planPark).planner.parkThreshold = s.planner.parkThreshold ∧
    (s.planPark).planner.leanThreshold = s.planner.leanThreshold ∧
    (s.planPark).planner.energy = s.planner.energy ∧
    (s.planPark).planner.boardParked = s.planner.boardParked ∧ (s.planPark).planner.sweep = s.planner.sweep ∧
    (s.planPark).planner.hold = s.planner.hold ∧ (s.planPark).engine.port = s.engine.port ∧
    (s.planPark).engine.readRequest = s.engine.readRequest ∧
    (s.planPark).engine.freshHold = s.engine.freshHold ∧ (s.planPark).engine.faults = s.engine.faults ∧
    (s.planPark).engine.faulted = s.engine.faulted ∧
    (s.planPark).engine.phaseDeadline = s.engine.phaseDeadline ∧
    (s.planPark).engine.readDeadline = s.engine.readDeadline ∧
    (s.planPark).engine.commands = s.engine.commands ∧ (s.planPark).sense = s.sense ∧ (s.planPark).rx = s.rx ∧
    (s.planPark).tx = s.tx := by
  unfold State.planPark; (repeat' split) <;> simp

@[simp] theorem State.plan_frame (s : State) :
    (s.plan).pending = s.pending ∧ (s.plan).elapsed = s.elapsed ∧ (s.plan).loader = s.loader ∧
    (s.plan).clock = s.clock ∧ (s.plan).sheets = s.sheets ∧ (s.plan).table = s.table ∧
    (s.plan).board = s.board ∧ (s.plan).planner.voltage = s.planner.voltage ∧
    (s.plan).planner.available = s.planner.available ∧
    (s.plan).planner.parkThreshold = s.planner.parkThreshold ∧
    (s.plan).planner.leanThreshold = s.planner.leanThreshold ∧ (s.plan).planner.energy = s.planner.energy ∧
    (s.plan).planner.boardParked = s.planner.boardParked ∧ (s.plan).planner.sweep = s.planner.sweep ∧
    (s.plan).engine.port = s.engine.port ∧ (s.plan).engine.readRequest = s.engine.readRequest ∧
    (s.plan).engine.freshHold = s.engine.freshHold ∧ (s.plan).engine.faults = s.engine.faults ∧
    (s.plan).engine.faulted = s.engine.faulted ∧ (s.plan).engine.phaseDeadline = s.engine.phaseDeadline ∧
    (s.plan).engine.readDeadline = s.engine.readDeadline ∧ (s.plan).engine.commands = s.engine.commands ∧
    (s.plan).sense = s.sense ∧ (s.plan).rx = s.rx ∧ (s.plan).tx = s.tx := by
  unfold State.plan; (repeat' split) <;> simp

@[simp] theorem State.promoteJobs_frame (s : State) :
    (s.promoteJobs).pending = s.pending ∧ (s.promoteJobs).elapsed = s.elapsed ∧
    (s.promoteJobs).loader = s.loader ∧ (s.promoteJobs).clock = s.clock ∧ (s.promoteJobs).sheets = s.sheets ∧
    (s.promoteJobs).table = s.table ∧ (s.promoteJobs).board = s.board ∧
    (s.promoteJobs).planner.voltage = s.planner.voltage ∧
    (s.promoteJobs).planner.available = s.planner.available ∧
    (s.promoteJobs).planner.parkThreshold = s.planner.parkThreshold ∧
    (s.promoteJobs).planner.leanThreshold = s.planner.leanThreshold ∧
    (s.promoteJobs).planner.energy = s.planner.energy ∧
    (s.promoteJobs).planner.boardParked = s.planner.boardParked ∧
    (s.promoteJobs).planner.sweep = s.planner.sweep ∧ (s.promoteJobs).engine.port = s.engine.port ∧
    (s.promoteJobs).engine.readRequest = s.engine.readRequest ∧
    (s.promoteJobs).engine.freshHold = s.engine.freshHold ∧ (s.promoteJobs).engine.faults = s.engine.faults ∧
    (s.promoteJobs).engine.faulted = s.engine.faulted ∧
    (s.promoteJobs).engine.phaseDeadline = s.engine.phaseDeadline ∧
    (s.promoteJobs).engine.readDeadline = s.engine.readDeadline ∧
    (s.promoteJobs).engine.commands = s.engine.commands ∧ (s.promoteJobs).sense = s.sense ∧
    (s.promoteJobs).rx = s.rx ∧ (s.promoteJobs).tx = s.tx := by
  unfold State.promoteJobs; (repeat' split) <;> simp

@[simp] theorem State.planJobs_frame (s : State) :
    (s.planJobs).pending = s.pending ∧ (s.planJobs).elapsed = s.elapsed ∧ (s.planJobs).loader = s.loader ∧
    (s.planJobs).clock = s.clock ∧ (s.planJobs).sheets = s.sheets ∧ (s.planJobs).table = s.table ∧
    (s.planJobs).board = s.board ∧ (s.planJobs).planner.voltage = s.planner.voltage ∧
    (s.planJobs).planner.available = s.planner.available ∧
    (s.planJobs).planner.parkThreshold = s.planner.parkThreshold ∧
    (s.planJobs).planner.leanThreshold = s.planner.leanThreshold ∧
    (s.planJobs).planner.energy = s.planner.energy ∧
    (s.planJobs).planner.boardParked = s.planner.boardParked ∧ (s.planJobs).planner.sweep = s.planner.sweep ∧
    (s.planJobs).engine.port = s.engine.port ∧ (s.planJobs).engine.readRequest = s.engine.readRequest ∧
    (s.planJobs).engine.freshHold = s.engine.freshHold ∧ (s.planJobs).engine.faults = s.engine.faults ∧
    (s.planJobs).engine.faulted = s.engine.faulted ∧
    (s.planJobs).engine.phaseDeadline = s.engine.phaseDeadline ∧
    (s.planJobs).engine.readDeadline = s.engine.readDeadline ∧
    (s.planJobs).engine.commands = s.engine.commands ∧ (s.planJobs).sense = s.sense ∧ (s.planJobs).rx = s.rx ∧
    (s.planJobs).tx = s.tx := by
  unfold State.planJobs; simp

@[simp] theorem State.servePort_frame (s : State) :
    (s.servePort).pending = s.pending ∧ (s.servePort).elapsed = s.elapsed ∧ (s.servePort).loader = s.loader ∧
    (s.servePort).clock = s.clock ∧ (s.servePort).sheets = s.sheets ∧ (s.servePort).table = s.table ∧
    (s.servePort).board = s.board ∧ (s.servePort).planner = s.planner ∧
    (s.servePort).engine.lines = s.engine.lines ∧ (s.servePort).engine.active = s.engine.active ∧
    (s.servePort).engine.freshHold = s.engine.freshHold ∧
    (s.servePort).engine.suspendedAt = s.engine.suspendedAt ∧ (s.servePort).engine.faults = s.engine.faults ∧
    (s.servePort).engine.faulted = s.engine.faulted ∧ (s.servePort).sense = s.sense ∧
    (s.servePort).rx = s.rx ∧ (s.servePort).tx = s.tx ∧ (s.servePort).counters = s.counters := by
  unfold State.servePort; (repeat' split) <;> simp

@[simp] theorem State.requestRead_frame (s : State) :
    (s.requestRead).pending = s.pending ∧ (s.requestRead).elapsed = s.elapsed ∧
    (s.requestRead).loader = s.loader ∧ (s.requestRead).clock = s.clock ∧ (s.requestRead).sheets = s.sheets ∧
    (s.requestRead).table = s.table ∧ (s.requestRead).board = s.board ∧ (s.requestRead).planner = s.planner ∧
    (s.requestRead).engine.lines = s.engine.lines ∧ (s.requestRead).engine.active = s.engine.active ∧
    (s.requestRead).engine.port = s.engine.port ∧ (s.requestRead).engine.freshHold = s.engine.freshHold ∧
    (s.requestRead).engine.suspendedAt = s.engine.suspendedAt ∧
    (s.requestRead).engine.faults = s.engine.faults ∧ (s.requestRead).engine.faulted = s.engine.faulted ∧
    (s.requestRead).engine.phaseDeadline = s.engine.phaseDeadline ∧
    (s.requestRead).engine.readDeadline = s.engine.readDeadline ∧
    (s.requestRead).engine.commands = s.engine.commands ∧ (s.requestRead).sense = s.sense ∧
    (s.requestRead).rx = s.rx ∧ (s.requestRead).tx = s.tx ∧ (s.requestRead).counters = s.counters := by
  unfold State.requestRead; (repeat' split) <;> simp

@[simp] theorem State.abandonActive_frame (s : State) (a : ActiveJob) :
    (s.abandonActive a).pending = s.pending ∧ (s.abandonActive a).elapsed = s.elapsed ∧
    (s.abandonActive a).loader = s.loader ∧ (s.abandonActive a).clock = s.clock ∧
    (s.abandonActive a).sheets = s.sheets ∧ (s.abandonActive a).table = s.table ∧
    (s.abandonActive a).board = s.board ∧ (s.abandonActive a).planner.voltage = s.planner.voltage ∧
    (s.abandonActive a).planner.available = s.planner.available ∧
    (s.abandonActive a).planner.parkThreshold = s.planner.parkThreshold ∧
    (s.abandonActive a).planner.leanThreshold = s.planner.leanThreshold ∧
    (s.abandonActive a).planner.energy = s.planner.energy ∧
    (s.abandonActive a).planner.boardParked = s.planner.boardParked ∧
    (s.abandonActive a).planner.sweep = s.planner.sweep ∧ (s.abandonActive a).engine.port = s.engine.port ∧
    (s.abandonActive a).engine.readRequest = s.engine.readRequest ∧
    (s.abandonActive a).engine.freshHold = s.engine.freshHold ∧
    (s.abandonActive a).engine.faults = s.engine.faults ∧
    (s.abandonActive a).engine.faulted = s.engine.faulted ∧
    (s.abandonActive a).engine.phaseDeadline = s.engine.phaseDeadline ∧
    (s.abandonActive a).engine.readDeadline = s.engine.readDeadline ∧
    (s.abandonActive a).engine.commands = s.engine.commands ∧ (s.abandonActive a).sense = s.sense ∧
    (s.abandonActive a).rx = s.rx ∧ (s.abandonActive a).tx = s.tx := by
  unfold State.abandonActive; simp

@[simp] theorem State.suspendReported_frame (s : State) (a : ActiveJob) :
    (s.suspendReported a).pending = s.pending ∧ (s.suspendReported a).elapsed = s.elapsed ∧
    (s.suspendReported a).loader = s.loader ∧ (s.suspendReported a).clock = s.clock ∧
    (s.suspendReported a).sheets = s.sheets ∧ (s.suspendReported a).table = s.table ∧
    (s.suspendReported a).board = s.board ∧ (s.suspendReported a).planner.voltage = s.planner.voltage ∧
    (s.suspendReported a).planner.available = s.planner.available ∧
    (s.suspendReported a).planner.parkThreshold = s.planner.parkThreshold ∧
    (s.suspendReported a).planner.leanThreshold = s.planner.leanThreshold ∧
    (s.suspendReported a).planner.energy = s.planner.energy ∧
    (s.suspendReported a).planner.boardParked = s.planner.boardParked ∧
    (s.suspendReported a).planner.sweep = s.planner.sweep ∧
    (s.suspendReported a).engine.port = s.engine.port ∧
    (s.suspendReported a).engine.readRequest = s.engine.readRequest ∧
    (s.suspendReported a).engine.freshHold = s.engine.freshHold ∧
    (s.suspendReported a).engine.faults = s.engine.faults ∧
    (s.suspendReported a).engine.faulted = s.engine.faulted ∧
    (s.suspendReported a).engine.phaseDeadline = s.engine.phaseDeadline ∧
    (s.suspendReported a).engine.readDeadline = s.engine.readDeadline ∧
    (s.suspendReported a).engine.commands = s.engine.commands ∧ (s.suspendReported a).sense = s.sense ∧
    (s.suspendReported a).rx = s.rx ∧ (s.suspendReported a).tx = s.tx := by
  unfold State.suspendReported; simp

@[simp] theorem State.hideLines_frame (s : State) (j : Job) :
    (s.hideLines j).pending = s.pending ∧
    (s.hideLines j).elapsed = s.elapsed ∧
    (s.hideLines j).loader = s.loader ∧
    (s.hideLines j).clock = s.clock ∧
    (s.hideLines j).sheets = s.sheets ∧
    (s.hideLines j).table = s.table ∧
    (s.hideLines j).board = s.board ∧
    (s.hideLines j).planner.voltage = s.planner.voltage ∧
    (s.hideLines j).planner.available = s.planner.available ∧
    (s.hideLines j).planner.parkThreshold = s.planner.parkThreshold ∧
    (s.hideLines j).planner.leanThreshold = s.planner.leanThreshold ∧
    (s.hideLines j).planner.energy = s.planner.energy ∧
    (s.hideLines j).engine.port = s.engine.port ∧
    (s.hideLines j).engine.readRequest = s.engine.readRequest ∧
    (s.hideLines j).engine.freshHold = s.engine.freshHold ∧
    (s.hideLines j).engine.faulted = s.engine.faulted ∧
    (s.hideLines j).engine.phaseDeadline = s.engine.phaseDeadline ∧
    (s.hideLines j).engine.readDeadline = s.engine.readDeadline ∧
    (s.hideLines j).engine.commands = s.engine.commands ∧
    (s.hideLines j).sense = s.sense ∧
    (s.hideLines j).rx = s.rx ∧
    (s.hideLines j).tx = s.tx ∧
    (s.hideLines j).counters = s.counters := by
  unfold State.hideLines; simp

@[simp] theorem State.planWithout_frame (s : State) (j : Job) :
    (s.planWithout j).pending = s.pending ∧
    (s.planWithout j).elapsed = s.elapsed ∧
    (s.planWithout j).loader = s.loader ∧
    (s.planWithout j).clock = s.clock ∧
    (s.planWithout j).sheets = s.sheets ∧
    (s.planWithout j).table = s.table ∧
    (s.planWithout j).board = s.board ∧
    (s.planWithout j).planner.voltage = s.planner.voltage ∧
    (s.planWithout j).planner.available = s.planner.available ∧
    (s.planWithout j).planner.parkThreshold = s.planner.parkThreshold ∧
    (s.planWithout j).planner.leanThreshold = s.planner.leanThreshold ∧
    (s.planWithout j).planner.energy = s.planner.energy ∧
    (s.planWithout j).engine.port = s.engine.port ∧
    (s.planWithout j).engine.readRequest = s.engine.readRequest ∧
    (s.planWithout j).engine.freshHold = s.engine.freshHold ∧
    (s.planWithout j).engine.faulted = s.engine.faulted ∧
    (s.planWithout j).engine.phaseDeadline = s.engine.phaseDeadline ∧
    (s.planWithout j).engine.readDeadline = s.engine.readDeadline ∧
    (s.planWithout j).engine.commands = s.engine.commands ∧
    (s.planWithout j).sense = s.sense ∧
    (s.planWithout j).rx = s.rx ∧
    (s.planWithout j).tx = s.tx := by
  unfold State.planWithout; (repeat' split) <;> simp

@[simp] theorem State.completeActive_frame (s : State) (a : ActiveJob) (b : Bool) :
    (s.completeActive a b).pending = s.pending ∧ (s.completeActive a b).elapsed = s.elapsed ∧
    (s.completeActive a b).loader = s.loader ∧ (s.completeActive a b).clock = s.clock ∧
    (s.completeActive a b).sheets = s.sheets ∧ (s.completeActive a b).table = s.table ∧
    (s.completeActive a b).board = s.board ∧ (s.completeActive a b).planner.voltage = s.planner.voltage ∧
    (s.completeActive a b).planner.available = s.planner.available ∧
    (s.completeActive a b).planner.parkThreshold = s.planner.parkThreshold ∧
    (s.completeActive a b).planner.leanThreshold = s.planner.leanThreshold ∧
    (s.completeActive a b).planner.energy = s.planner.energy ∧
    (s.completeActive a b).engine.port = s.engine.port ∧
    (s.completeActive a b).engine.readRequest = s.engine.readRequest ∧
    (s.completeActive a b).engine.freshHold = s.engine.freshHold ∧
    (s.completeActive a b).engine.faulted = s.engine.faulted ∧
    (s.completeActive a b).engine.phaseDeadline = s.engine.phaseDeadline ∧
    (s.completeActive a b).engine.readDeadline = s.engine.readDeadline ∧
    (s.completeActive a b).engine.commands = s.engine.commands ∧ (s.completeActive a b).sense = s.sense ∧
    (s.completeActive a b).rx = s.rx ∧ (s.completeActive a b).tx = s.tx := by
  unfold State.completeActive; dsimp only; (repeat' split) <;> simp

@[simp] theorem State.tryResume_frame (s : State) :
    (s.tryResume).pending = s.pending ∧ (s.tryResume).elapsed = s.elapsed ∧ (s.tryResume).loader = s.loader ∧
    (s.tryResume).clock = s.clock ∧ (s.tryResume).sheets = s.sheets ∧ (s.tryResume).table = s.table ∧
    (s.tryResume).board = s.board ∧ (s.tryResume).planner.voltage = s.planner.voltage ∧
    (s.tryResume).planner.available = s.planner.available ∧
    (s.tryResume).planner.parkThreshold = s.planner.parkThreshold ∧
    (s.tryResume).planner.leanThreshold = s.planner.leanThreshold ∧
    (s.tryResume).planner.energy = s.planner.energy ∧
    (s.tryResume).planner.boardParked = s.planner.boardParked ∧
    (s.tryResume).planner.sweep = s.planner.sweep ∧ (s.tryResume).engine.port = s.engine.port ∧
    (s.tryResume).engine.readRequest = s.engine.readRequest ∧
    (s.tryResume).engine.freshHold = s.engine.freshHold ∧ (s.tryResume).engine.faults = s.engine.faults ∧
    (s.tryResume).engine.faulted = s.engine.faulted ∧
    (s.tryResume).engine.phaseDeadline = s.engine.phaseDeadline ∧
    (s.tryResume).engine.readDeadline = s.engine.readDeadline ∧
    (s.tryResume).engine.commands = s.engine.commands ∧ (s.tryResume).sense = s.sense ∧
    (s.tryResume).rx = s.rx ∧ (s.tryResume).tx = s.tx := by
  unfold State.tryResume; (repeat' split) <;> simp

@[simp] theorem State.leaveFaulted_frame (s : State) :
    (s.leaveFaulted).pending = s.pending ∧ (s.leaveFaulted).elapsed = s.elapsed ∧
    (s.leaveFaulted).loader = s.loader ∧ (s.leaveFaulted).clock = s.clock ∧
    (s.leaveFaulted).sheets = s.sheets ∧ (s.leaveFaulted).table = s.table ∧ (s.leaveFaulted).board = s.board ∧
    (s.leaveFaulted).planner = s.planner ∧ (s.leaveFaulted).engine.lines = s.engine.lines ∧
    (s.leaveFaulted).engine.active = s.engine.active ∧ (s.leaveFaulted).engine.port = s.engine.port ∧
    (s.leaveFaulted).engine.readRequest = s.engine.readRequest ∧
    (s.leaveFaulted).engine.freshHold = s.engine.freshHold ∧
    (s.leaveFaulted).engine.suspendedAt = s.engine.suspendedAt ∧
    (s.leaveFaulted).engine.phaseDeadline = s.engine.phaseDeadline ∧
    (s.leaveFaulted).engine.readDeadline = s.engine.readDeadline ∧
    (s.leaveFaulted).engine.commands = s.engine.commands ∧ (s.leaveFaulted).sense = s.sense ∧
    (s.leaveFaulted).rx = s.rx ∧ (s.leaveFaulted).tx = s.tx ∧ (s.leaveFaulted).counters = s.counters := by
  unfold State.leaveFaulted; (repeat' split) <;> simp

@[simp] theorem State.leaveAndPromote_frame (s : State) :
    (s.leaveAndPromote).pending = s.pending ∧ (s.leaveAndPromote).elapsed = s.elapsed ∧
    (s.leaveAndPromote).loader = s.loader ∧ (s.leaveAndPromote).clock = s.clock ∧
    (s.leaveAndPromote).sheets = s.sheets ∧ (s.leaveAndPromote).table = s.table ∧
    (s.leaveAndPromote).board = s.board ∧ (s.leaveAndPromote).planner.voltage = s.planner.voltage ∧
    (s.leaveAndPromote).planner.available = s.planner.available ∧
    (s.leaveAndPromote).planner.parkThreshold = s.planner.parkThreshold ∧
    (s.leaveAndPromote).planner.leanThreshold = s.planner.leanThreshold ∧
    (s.leaveAndPromote).planner.energy = s.planner.energy ∧
    (s.leaveAndPromote).planner.boardParked = s.planner.boardParked ∧
    (s.leaveAndPromote).engine.port = s.engine.port ∧
    (s.leaveAndPromote).engine.readRequest = s.engine.readRequest ∧
    (s.leaveAndPromote).engine.freshHold = s.engine.freshHold ∧
    (s.leaveAndPromote).engine.phaseDeadline = s.engine.phaseDeadline ∧
    (s.leaveAndPromote).engine.readDeadline = s.engine.readDeadline ∧
    (s.leaveAndPromote).engine.commands = s.engine.commands ∧ (s.leaveAndPromote).sense = s.sense ∧
    (s.leaveAndPromote).rx = s.rx ∧ (s.leaveAndPromote).tx = s.tx ∧
    (s.leaveAndPromote).planner.sweep = s.planner.sweep := by
  unfold State.leaveAndPromote; (repeat' split) <;> simp

@[simp] theorem State.planSweep_frame (s : State) :
    (s.planSweep).pending = s.pending ∧ (s.planSweep).elapsed = s.elapsed ∧ (s.planSweep).loader = s.loader ∧
    (s.planSweep).clock = s.clock ∧ (s.planSweep).sheets = s.sheets ∧ (s.planSweep).table = s.table ∧
    (s.planSweep).board = s.board ∧ (s.planSweep).planner.voltage = s.planner.voltage ∧
    (s.planSweep).planner.available = s.planner.available ∧
    (s.planSweep).planner.parkThreshold = s.planner.parkThreshold ∧
    (s.planSweep).planner.leanThreshold = s.planner.leanThreshold ∧
    (s.planSweep).planner.energy = s.planner.energy ∧
    (s.planSweep).planner.boardParked = s.planner.boardParked ∧ (s.planSweep).engine.port = s.engine.port ∧
    (s.planSweep).engine.readRequest = s.engine.readRequest ∧
    (s.planSweep).engine.freshHold = s.engine.freshHold ∧
    (s.planSweep).engine.phaseDeadline = s.engine.phaseDeadline ∧
    (s.planSweep).engine.readDeadline = s.engine.readDeadline ∧
    (s.planSweep).engine.commands = s.engine.commands ∧ (s.planSweep).sense = s.sense ∧
    (s.planSweep).rx = s.rx ∧ (s.planSweep).tx = s.tx ∧ (s.planSweep).engine.faults = s.engine.faults ∧
    (s.planSweep).engine.faulted = s.engine.faulted := by
  unfold State.planSweep; simp

@[simp] theorem State.sweepNow_frame (s : State) (order : SweepOrder) :
    (s.sweepNow order).pending = s.pending ∧ (s.sweepNow order).elapsed = s.elapsed ∧
    (s.sweepNow order).loader = s.loader ∧ (s.sweepNow order).clock = s.clock ∧
    (s.sweepNow order).sheets = s.sheets ∧ (s.sweepNow order).table = s.table ∧
    (s.sweepNow order).board = s.board ∧ (s.sweepNow order).planner.voltage = s.planner.voltage ∧
    (s.sweepNow order).planner.available = s.planner.available ∧
    (s.sweepNow order).planner.parkThreshold = s.planner.parkThreshold ∧
    (s.sweepNow order).planner.leanThreshold = s.planner.leanThreshold ∧
    (s.sweepNow order).planner.energy = s.planner.energy ∧
    (s.sweepNow order).planner.boardParked = s.planner.boardParked ∧
    (s.sweepNow order).engine.port = s.engine.port ∧
    (s.sweepNow order).engine.readRequest = s.engine.readRequest ∧
    (s.sweepNow order).engine.freshHold = s.engine.freshHold ∧
    (s.sweepNow order).engine.phaseDeadline = s.engine.phaseDeadline ∧
    (s.sweepNow order).engine.readDeadline = s.engine.readDeadline ∧
    (s.sweepNow order).engine.commands = s.engine.commands ∧ (s.sweepNow order).sense = s.sense ∧
    (s.sweepNow order).rx = s.rx ∧ (s.sweepNow order).tx = s.tx := by
  unfold State.sweepNow; (repeat' split) <;> simp

@[simp] theorem reportTargets_fr (s : State) (new : Vector Cells 10) (p : Nat → Bool) :
  (s.reportTargets new p).pending = s.pending ∧ (s.reportTargets new p).elapsed = s.elapsed ∧ (s.reportTargets new p).loader = s.loader ∧ (s.reportTargets new p).clock = s.clock ∧ (s.reportTargets new p).sheets = s.sheets ∧ (s.reportTargets new p).table = s.table ∧ (s.reportTargets new p).sense = s.sense ∧ (s.reportTargets new p).rx = s.rx ∧ (s.reportTargets new p).tx = s.tx ∧ (s.reportTargets new p).planner.voltage = s.planner.voltage ∧ (s.reportTargets new p).planner.available = s.planner.available ∧ (s.reportTargets new p).planner.parkThreshold = s.planner.parkThreshold ∧ (s.reportTargets new p).planner.leanThreshold = s.planner.leanThreshold ∧ (s.reportTargets new p).planner.energy = s.planner.energy ∧ (s.reportTargets new p).planner.boardParked = s.planner.boardParked ∧ (s.reportTargets new p).planner.sweep = s.planner.sweep ∧ (s.reportTargets new p).planner.nextJob = s.planner.nextJob ∧ (s.reportTargets new p).planner.hold = s.planner.hold ∧ (s.reportTargets new p).planner.halt = s.planner.halt ∧ (s.reportTargets new p).board.notices = s.board.notices ∧ (s.reportTargets new p).board.current = s.board.current ∧ (s.reportTargets new p).board.shownSince = s.board.shownSince ∧ (s.reportTargets new p).engine.active = s.engine.active ∧ (s.reportTargets new p).engine.port = s.engine.port ∧ (s.reportTargets new p).engine.readRequest = s.engine.readRequest ∧ (s.reportTargets new p).engine.freshHold = s.engine.freshHold ∧ (s.reportTargets new p).engine.suspendedAt = s.engine.suspendedAt ∧ (s.reportTargets new p).engine.faults = s.engine.faults ∧ (s.reportTargets new p).engine.faulted = s.engine.faulted ∧ (s.reportTargets new p).engine.phaseDeadline = s.engine.phaseDeadline ∧ (s.reportTargets new p).engine.readDeadline = s.engine.readDeadline ∧ (s.reportTargets new p).engine.commands = s.engine.commands := by
  simp [State.reportTargets, State.withdrawStaged]; (repeat' split) <;> simp

@[simp] theorem State.composeTargets_frame (s : State) :
    (s.composeTargets).pending = s.pending ∧ (s.composeTargets).elapsed = s.elapsed ∧
    (s.composeTargets).loader = s.loader ∧ (s.composeTargets).clock = s.clock ∧
    (s.composeTargets).sheets = s.sheets ∧ (s.composeTargets).table = s.table ∧
    (s.composeTargets).board.notices = s.board.notices ∧ (s.composeTargets).board.current = s.board.current ∧
    (s.composeTargets).board.shownSince = s.board.shownSince ∧
    (s.composeTargets).planner.voltage = s.planner.voltage ∧
    (s.composeTargets).planner.available = s.planner.available ∧
    (s.composeTargets).planner.parkThreshold = s.planner.parkThreshold ∧
    (s.composeTargets).planner.leanThreshold = s.planner.leanThreshold ∧
    (s.composeTargets).planner.energy = s.planner.energy ∧
    (s.composeTargets).planner.boardParked = s.planner.boardParked ∧
    (s.composeTargets).planner.sweep = s.planner.sweep ∧
    (s.composeTargets).planner.nextJob = s.planner.nextJob ∧
    (s.composeTargets).planner.hold = s.planner.hold ∧ (s.composeTargets).planner.halt = s.planner.halt ∧
    (s.composeTargets).engine.active = s.engine.active ∧ (s.composeTargets).engine.port = s.engine.port ∧
    (s.composeTargets).engine.readRequest = s.engine.readRequest ∧
    (s.composeTargets).engine.freshHold = s.engine.freshHold ∧
    (s.composeTargets).engine.suspendedAt = s.engine.suspendedAt ∧
    (s.composeTargets).engine.faults = s.engine.faults ∧
    (s.composeTargets).engine.faulted = s.engine.faulted ∧
    (s.composeTargets).engine.phaseDeadline = s.engine.phaseDeadline ∧
    (s.composeTargets).engine.readDeadline = s.engine.readDeadline ∧
    (s.composeTargets).engine.commands = s.engine.commands ∧ (s.composeTargets).sense = s.sense ∧
    (s.composeTargets).rx = s.rx ∧ (s.composeTargets).tx = s.tx := by
  unfold State.composeTargets; (repeat' split) <;> simp

@[simp] theorem State.compose_frame (s : State) :
    (s.compose).pending = s.pending ∧ (s.compose).elapsed = s.elapsed ∧ (s.compose).loader = s.loader ∧
    (s.compose).clock = s.clock ∧ (s.compose).sheets = s.sheets ∧ (s.compose).table = s.table ∧
    (s.compose).board.notices = s.board.notices ∧ (s.compose).board.current = s.board.current ∧
    (s.compose).board.shownSince = s.board.shownSince ∧ (s.compose).planner.voltage = s.planner.voltage ∧
    (s.compose).planner.available = s.planner.available ∧
    (s.compose).planner.parkThreshold = s.planner.parkThreshold ∧
    (s.compose).planner.leanThreshold = s.planner.leanThreshold ∧
    (s.compose).planner.energy = s.planner.energy ∧ (s.compose).planner.boardParked = s.planner.boardParked ∧
    (s.compose).planner.sweep = s.planner.sweep ∧ (s.compose).engine.port = s.engine.port ∧
    (s.compose).engine.readRequest = s.engine.readRequest ∧
    (s.compose).engine.freshHold = s.engine.freshHold ∧ (s.compose).engine.faults = s.engine.faults ∧
    (s.compose).engine.faulted = s.engine.faulted ∧
    (s.compose).engine.phaseDeadline = s.engine.phaseDeadline ∧
    (s.compose).engine.readDeadline = s.engine.readDeadline ∧
    (s.compose).engine.commands = s.engine.commands ∧ (s.compose).sense = s.sense ∧ (s.compose).rx = s.rx ∧
    (s.compose).tx = s.tx := by
  unfold State.compose; (repeat' split) <;> simp

@[simp] theorem State.composeFirst_frame (s : State) :
    (s.composeFirst).pending = s.pending ∧ (s.composeFirst).elapsed = s.elapsed ∧
    (s.composeFirst).loader = s.loader ∧ (s.composeFirst).clock = s.clock ∧
    (s.composeFirst).sheets = s.sheets ∧ (s.composeFirst).table = s.table ∧
    (s.composeFirst).board.notices = s.board.notices ∧ (s.composeFirst).board.current = s.board.current ∧
    (s.composeFirst).board.shownSince = s.board.shownSince ∧
    (s.composeFirst).planner.voltage = s.planner.voltage ∧
    (s.composeFirst).planner.available = s.planner.available ∧
    (s.composeFirst).planner.parkThreshold = s.planner.parkThreshold ∧
    (s.composeFirst).planner.leanThreshold = s.planner.leanThreshold ∧
    (s.composeFirst).planner.energy = s.planner.energy ∧
    (s.composeFirst).planner.boardParked = s.planner.boardParked ∧
    (s.composeFirst).planner.sweep = s.planner.sweep ∧ (s.composeFirst).engine.port = s.engine.port ∧
    (s.composeFirst).engine.readRequest = s.engine.readRequest ∧
    (s.composeFirst).engine.freshHold = s.engine.freshHold ∧
    (s.composeFirst).engine.faults = s.engine.faults ∧ (s.composeFirst).engine.faulted = s.engine.faulted ∧
    (s.composeFirst).engine.phaseDeadline = s.engine.phaseDeadline ∧
    (s.composeFirst).engine.readDeadline = s.engine.readDeadline ∧
    (s.composeFirst).engine.commands = s.engine.commands ∧ (s.composeFirst).sense = s.sense ∧
    (s.composeFirst).rx = s.rx ∧ (s.composeFirst).tx = s.tx := by
  unfold State.composeFirst; simp

@[simp] theorem State.appendNotice_frame (s : State) (n : Notice) :
    (s.appendNotice n).pending = s.pending ∧ (s.appendNotice n).elapsed = s.elapsed ∧
    (s.appendNotice n).loader = s.loader ∧ (s.appendNotice n).clock = s.clock ∧
    (s.appendNotice n).sheets = s.sheets ∧ (s.appendNotice n).table = s.table ∧
    (s.appendNotice n).board.targets = s.board.targets ∧ (s.appendNotice n).planner = s.planner ∧
    (s.appendNotice n).engine = s.engine ∧ (s.appendNotice n).sense = s.sense ∧ (s.appendNotice n).rx = s.rx ∧
    (s.appendNotice n).tx = s.tx ∧ (s.appendNotice n).counters = s.counters := by
  unfold State.appendNotice; simp

@[simp] theorem State.replaceNotice_frame (s : State) (i : Nat) (n : Notice) :
    (s.replaceNotice i n).pending = s.pending ∧ (s.replaceNotice i n).elapsed = s.elapsed ∧
    (s.replaceNotice i n).loader = s.loader ∧ (s.replaceNotice i n).clock = s.clock ∧
    (s.replaceNotice i n).sheets = s.sheets ∧ (s.replaceNotice i n).table = s.table ∧
    (s.replaceNotice i n).board.targets = s.board.targets ∧ (s.replaceNotice i n).planner = s.planner ∧
    (s.replaceNotice i n).engine = s.engine ∧ (s.replaceNotice i n).sense = s.sense ∧
    (s.replaceNotice i n).rx = s.rx ∧ (s.replaceNotice i n).tx = s.tx ∧
    (s.replaceNotice i n).counters = s.counters := by
  unfold State.replaceNotice; simp

@[simp] theorem removeNotices_fr (s : State) (p : Notice → Bool) :
  (s.removeNotices p).pending = s.pending ∧ (s.removeNotices p).elapsed = s.elapsed ∧ (s.removeNotices p).loader = s.loader ∧ (s.removeNotices p).clock = s.clock ∧ (s.removeNotices p).sheets = s.sheets ∧ (s.removeNotices p).table = s.table ∧ (s.removeNotices p).planner = s.planner ∧ (s.removeNotices p).engine = s.engine ∧ (s.removeNotices p).sense = s.sense ∧ (s.removeNotices p).rx = s.rx ∧ (s.removeNotices p).tx = s.tx ∧ (s.removeNotices p).counters = s.counters := by
  simp only [State.removeNotices]; split <;> simp

@[simp] theorem State.expireNotices_frame (s : State) :
    (s.expireNotices).pending = s.pending ∧ (s.expireNotices).elapsed = s.elapsed ∧
    (s.expireNotices).loader = s.loader ∧ (s.expireNotices).clock = s.clock ∧
    (s.expireNotices).sheets = s.sheets ∧ (s.expireNotices).table = s.table ∧
    (s.expireNotices).planner = s.planner ∧ (s.expireNotices).engine = s.engine ∧
    (s.expireNotices).sense = s.sense ∧ (s.expireNotices).rx = s.rx ∧ (s.expireNotices).tx = s.tx := by
  unfold State.expireNotices; dsimp only; (repeat' split) <;> simp

@[simp] theorem State.rotateNotices_frame (s : State) :
    (s.rotateNotices).pending = s.pending ∧ (s.rotateNotices).elapsed = s.elapsed ∧
    (s.rotateNotices).loader = s.loader ∧ (s.rotateNotices).clock = s.clock ∧
    (s.rotateNotices).sheets = s.sheets ∧ (s.rotateNotices).table = s.table ∧
    (s.rotateNotices).board.targets = s.board.targets ∧ (s.rotateNotices).board.notices = s.board.notices ∧
    (s.rotateNotices).planner = s.planner ∧ (s.rotateNotices).engine = s.engine ∧
    (s.rotateNotices).sense = s.sense ∧ (s.rotateNotices).rx = s.rx ∧ (s.rotateNotices).tx = s.tx ∧
    (s.rotateNotices).counters = s.counters := by
  unfold State.rotateNotices; (repeat' split) <;> simp

@[simp] theorem State.enterHunt_frame (s : State) :
    (s.enterHunt).pending = s.pending ∧ (s.enterHunt).elapsed = s.elapsed ∧ (s.enterHunt).loader = s.loader ∧
    (s.enterHunt).clock = s.clock ∧ (s.enterHunt).sheets = s.sheets ∧ (s.enterHunt).table = s.table ∧
    (s.enterHunt).board = s.board ∧ (s.enterHunt).planner = s.planner ∧ (s.enterHunt).engine = s.engine ∧
    (s.enterHunt).sense = s.sense ∧ (s.enterHunt).rx.lastCharacter = s.rx.lastCharacter ∧
    (s.enterHunt).rx.queue = s.rx.queue ∧ (s.enterHunt).rx.mode = s.rx.mode ∧
    (s.enterHunt).rx.quietTimer = s.rx.quietTimer ∧ (s.enterHunt).rx.sniffTimer = s.rx.sniffTimer ∧
    (s.enterHunt).rx.window = s.rx.window ∧ (s.enterHunt).rx.radio = s.rx.radio ∧ (s.enterHunt).tx = s.tx := by
  unfold State.enterHunt; (repeat' split) <;> simp

@[simp] theorem State.closeHeld_frame (s : State) :
    (s.closeHeld).pending = s.pending ∧ (s.closeHeld).elapsed = s.elapsed ∧ (s.closeHeld).loader = s.loader ∧
    (s.closeHeld).clock = s.clock ∧ (s.closeHeld).sheets = s.sheets ∧ (s.closeHeld).table = s.table ∧
    (s.closeHeld).board = s.board ∧ (s.closeHeld).planner = s.planner ∧ (s.closeHeld).engine = s.engine ∧
    (s.closeHeld).sense = s.sense ∧ (s.closeHeld).rx.state = s.rx.state ∧
    (s.closeHeld).rx.buffer = s.rx.buffer ∧ (s.closeHeld).rx.lastCharacter = s.rx.lastCharacter ∧
    (s.closeHeld).rx.queue = s.rx.queue ∧ (s.closeHeld).rx.mode = s.rx.mode ∧
    (s.closeHeld).rx.quietTimer = s.rx.quietTimer ∧ (s.closeHeld).rx.sniffTimer = s.rx.sniffTimer ∧
    (s.closeHeld).rx.radio = s.rx.radio ∧ (s.closeHeld).tx = s.tx ∧ (s.closeHeld).counters = s.counters := by
  unfold State.closeHeld; (repeat' split) <;> simp

@[simp] theorem State.followRadio_frame (s : State) :
    (s.followRadio).pending = s.pending ∧ (s.followRadio).elapsed = s.elapsed ∧
    (s.followRadio).loader = s.loader ∧ (s.followRadio).clock = s.clock ∧ (s.followRadio).sheets = s.sheets ∧
    (s.followRadio).table = s.table ∧ (s.followRadio).board = s.board ∧ (s.followRadio).planner = s.planner ∧
    (s.followRadio).engine = s.engine ∧ (s.followRadio).sense = s.sense ∧
    (s.followRadio).rx.lastCharacter = s.rx.lastCharacter ∧ (s.followRadio).rx.queue = s.rx.queue ∧
    (s.followRadio).rx.mode = s.rx.mode ∧ (s.followRadio).rx.quietTimer = s.rx.quietTimer ∧
    (s.followRadio).rx.sniffTimer = s.rx.sniffTimer ∧ (s.followRadio).rx.window = s.rx.window ∧
    (s.followRadio).tx = s.tx := by
  unfold State.followRadio; (repeat' split) <;> simp

@[simp] theorem State.settleRadio_frame (s : State) :
    (s.settleRadio).pending = s.pending ∧ (s.settleRadio).elapsed = s.elapsed ∧
    (s.settleRadio).loader = s.loader ∧ (s.settleRadio).clock = s.clock ∧ (s.settleRadio).sheets = s.sheets ∧
    (s.settleRadio).table = s.table ∧ (s.settleRadio).board = s.board ∧ (s.settleRadio).planner = s.planner ∧
    (s.settleRadio).engine = s.engine ∧ (s.settleRadio).sense = s.sense ∧
    (s.settleRadio).rx.lastCharacter = s.rx.lastCharacter ∧ (s.settleRadio).rx.queue = s.rx.queue ∧
    (s.settleRadio).rx.mode = s.rx.mode ∧ (s.settleRadio).rx.quietTimer = s.rx.quietTimer ∧
    (s.settleRadio).rx.sniffTimer = s.rx.sniffTimer ∧ (s.settleRadio).tx = s.tx := by
  unfold State.settleRadio; simp

@[simp] theorem State.arbitrate_frame (s : State) :
    (s.arbitrate).pending = s.pending ∧ (s.arbitrate).elapsed = s.elapsed ∧ (s.arbitrate).loader = s.loader ∧
    (s.arbitrate).clock = s.clock ∧ (s.arbitrate).sheets = s.sheets ∧ (s.arbitrate).table = s.table ∧
    (s.arbitrate).board = s.board ∧ (s.arbitrate).planner = s.planner ∧ (s.arbitrate).engine = s.engine ∧
    (s.arbitrate).sense = s.sense ∧ (s.arbitrate).rx = s.rx ∧ (s.arbitrate).counters = s.counters := by
  unfold State.arbitrate; (repeat' split) <;> simp

theorem pickRelay_keeps {s : State} {p : Pick} (h : s.pickRelay = some p) :
    p.tx.reply = s.tx.reply ∧ p.tx.clockWaiting = s.tx.clockWaiting ∧ p.tx.offerWaiting = s.tx.offerWaiting ∧
      p.tx.lfsr = s.tx.lfsr ∧ p.tx.line = s.tx.line := by
  unfold State.pickRelay at h
  split at h
  · cases h
  · cases h; simp
theorem pickPublication_keeps {s : State} {p : Pick} (h : s.pickPublication = some p) :
    p.tx = { s.tx with pointer := .relay } := by
  unfold State.pickPublication at h
  split at h
  · simp only [Option.bind_eq_some_iff, Option.map_eq_some_iff] at h
    obtain ⟨_, _, _, _, rfl⟩ := h
    rfl
  · cases h
theorem pick_cases {s : State} {p : Pick} (h : s.pick = some p) :
    p.tx = s.tx ∨ s.pickRelay = some p ∨ s.pickPublication = some p := by
  unfold State.pick at h
  cases hr : s.tx.reply with
  | some f => simp [hr] at h; subst h; simp
  | none =>
    simp only [hr, Option.map_none, Option.orElse_eq_orElse, Option.orElse_eq_or, Option.none_or, Option.or_eq_some_iff] at h
    rcases h with h | ⟨-, h⟩
    · unfold State.pickBeacon at h
      split at h
      · cases h
      · split at h
        · cases h; simp
        · simp only [Option.map_eq_some_iff] at h
          obtain ⟨_, _, rfl⟩ := h; simp
    · unfold State.pickRotation at h
      split at h <;> simp only [Option.orElse_eq_orElse, Option.orElse_eq_or, Option.or_eq_some_iff] at h <;> rcases h with h | ⟨-, h⟩ <;> simp [h]
theorem pick_keeps {s : State} {p : Pick} (h : s.pick = some p) :
    p.tx.reply = s.tx.reply ∧ p.tx.clockWaiting = s.tx.clockWaiting ∧ p.tx.offerWaiting = s.tx.offerWaiting ∧
      p.tx.lfsr = s.tx.lfsr ∧ p.tx.line = s.tx.line := by
  rcases pick_cases h with h | h | h
  · simp [h]
  · exact pickRelay_keeps h
  · simp [pickPublication_keeps h]
@[simp] theorem arbitrate_tx (s : State) :
    s.arbitrate.tx.reply = s.tx.reply ∧ s.arbitrate.tx.clockWaiting = s.tx.clockWaiting ∧
      s.arbitrate.tx.offerWaiting = s.tx.offerWaiting ∧ s.arbitrate.tx.lfsr = s.tx.lfsr ∧ s.arbitrate.tx.line = s.tx.line := by
  unfold State.arbitrate
  split
  · cases h : s.pick with
    | none => simp
    | some p => simpa using pick_keeps h
  · simp

@[simp] theorem State.placeRelay_frame (s : State) (f : SendFrame) :
    (s.placeRelay f).pending = s.pending ∧ (s.placeRelay f).elapsed = s.elapsed ∧
    (s.placeRelay f).loader = s.loader ∧ (s.placeRelay f).clock = s.clock ∧
    (s.placeRelay f).sheets = s.sheets ∧ (s.placeRelay f).table = s.table ∧ (s.placeRelay f).board = s.board ∧
    (s.placeRelay f).planner = s.planner ∧ (s.placeRelay f).engine = s.engine ∧
    (s.placeRelay f).sense = s.sense ∧ (s.placeRelay f).rx = s.rx ∧ (s.placeRelay f).tx.reply = s.tx.reply ∧
    (s.placeRelay f).tx.clockWaiting = s.tx.clockWaiting ∧
    (s.placeRelay f).tx.offerWaiting = s.tx.offerWaiting ∧ (s.placeRelay f).tx.lfsr = s.tx.lfsr ∧
    (s.placeRelay f).tx.line = s.tx.line := by
  unfold State.placeRelay; dsimp only; (repeat' split) <;> simp

@[simp] theorem State.placeOffer_frame (s : State) (f : SendFrame) :
    (s.placeOffer f).pending = s.pending ∧ (s.placeOffer f).elapsed = s.elapsed ∧
    (s.placeOffer f).loader = s.loader ∧ (s.placeOffer f).clock = s.clock ∧
    (s.placeOffer f).sheets = s.sheets ∧ (s.placeOffer f).table = s.table ∧ (s.placeOffer f).board = s.board ∧
    (s.placeOffer f).planner = s.planner ∧ (s.placeOffer f).engine = s.engine ∧
    (s.placeOffer f).sense = s.sense ∧ (s.placeOffer f).rx = s.rx ∧ (s.placeOffer f).tx.reply = s.tx.reply ∧
    (s.placeOffer f).tx.clockWaiting = s.tx.clockWaiting ∧ (s.placeOffer f).tx.lfsr = s.tx.lfsr ∧
    (s.placeOffer f).tx.line = s.tx.line := by
  unfold State.placeOffer; (repeat' split) <;> simp

@[simp] theorem State.placeClock_frame (s : State) :
    (s.placeClock).pending = s.pending ∧ (s.placeClock).elapsed = s.elapsed ∧
    (s.placeClock).loader = s.loader ∧ (s.placeClock).clock = s.clock ∧ (s.placeClock).sheets = s.sheets ∧
    (s.placeClock).table = s.table ∧ (s.placeClock).board = s.board ∧ (s.placeClock).planner = s.planner ∧
    (s.placeClock).engine = s.engine ∧ (s.placeClock).sense = s.sense ∧ (s.placeClock).rx = s.rx ∧
    (s.placeClock).tx.reply = s.tx.reply ∧ (s.placeClock).tx.offerWaiting = s.tx.offerWaiting ∧
    (s.placeClock).tx.lfsr = s.tx.lfsr ∧ (s.placeClock).tx.line = s.tx.line := by
  unfold State.placeClock; (repeat' split) <;> simp

@[simp] theorem State.placeReply_frame (s : State) (f : SendFrame) :
    (s.placeReply f).pending = s.pending ∧ (s.placeReply f).elapsed = s.elapsed ∧
    (s.placeReply f).loader = s.loader ∧ (s.placeReply f).clock = s.clock ∧
    (s.placeReply f).sheets = s.sheets ∧ (s.placeReply f).table = s.table ∧ (s.placeReply f).board = s.board ∧
    (s.placeReply f).planner = s.planner ∧ (s.placeReply f).engine = s.engine ∧
    (s.placeReply f).sense = s.sense ∧ (s.placeReply f).rx = s.rx ∧
    (s.placeReply f).tx.clockWaiting = s.tx.clockWaiting ∧
    (s.placeReply f).tx.offerWaiting = s.tx.offerWaiting ∧ (s.placeReply f).tx.lfsr = s.tx.lfsr ∧
    (s.placeReply f).tx.line = s.tx.line ∧ (s.placeReply f).counters = s.counters := by
  unfold State.placeReply; simp

@[simp] theorem State.withdrawClock_frame (s : State) :
    (s.withdrawClock).pending = s.pending ∧ (s.withdrawClock).elapsed = s.elapsed ∧
    (s.withdrawClock).loader = s.loader ∧ (s.withdrawClock).clock = s.clock ∧
    (s.withdrawClock).sheets = s.sheets ∧ (s.withdrawClock).table = s.table ∧
    (s.withdrawClock).board = s.board ∧ (s.withdrawClock).planner = s.planner ∧
    (s.withdrawClock).engine = s.engine ∧ (s.withdrawClock).sense = s.sense ∧ (s.withdrawClock).rx = s.rx := by
  unfold State.withdrawClock; simp

@[simp] theorem State.putOnAir_frame (s : State) (g : Granted) :
    (s.putOnAir g).pending = s.pending ∧ (s.putOnAir g).elapsed = s.elapsed ∧
    (s.putOnAir g).loader = s.loader ∧ (s.putOnAir g).clock = s.clock ∧ (s.putOnAir g).sheets = s.sheets ∧
    (s.putOnAir g).table = s.table ∧ (s.putOnAir g).board = s.board ∧ (s.putOnAir g).planner = s.planner ∧
    (s.putOnAir g).engine = s.engine ∧ (s.putOnAir g).sense = s.sense ∧
    (s.putOnAir g).rx.lastCharacter = s.rx.lastCharacter ∧ (s.putOnAir g).rx.queue = s.rx.queue ∧
    (s.putOnAir g).rx.mode = s.rx.mode ∧ (s.putOnAir g).rx.quietTimer = s.rx.quietTimer ∧
    (s.putOnAir g).rx.sniffTimer = s.rx.sniffTimer ∧ (s.putOnAir g).rx.window = s.rx.window ∧
    (s.putOnAir g).rx.radio = s.rx.radio ∧ (s.putOnAir g).tx.reply = s.tx.reply ∧
    (s.putOnAir g).tx.relay = s.tx.relay ∧ (s.putOnAir g).tx.pointer = s.tx.pointer ∧
    (s.putOnAir g).tx.stage = s.tx.stage ∧ (s.putOnAir g).tx.backoff = s.tx.backoff ∧
    (s.putOnAir g).tx.lfsr = s.tx.lfsr := by
  unfold State.putOnAir; simp

@[simp] theorem State.startFrame_frame (s : State) :
    (s.startFrame).pending = s.pending ∧ (s.startFrame).elapsed = s.elapsed ∧
    (s.startFrame).loader = s.loader ∧ (s.startFrame).clock = s.clock ∧ (s.startFrame).sheets = s.sheets ∧
    (s.startFrame).table = s.table ∧ (s.startFrame).board = s.board ∧ (s.startFrame).planner = s.planner ∧
    (s.startFrame).engine = s.engine ∧ (s.startFrame).sense = s.sense ∧
    (s.startFrame).rx.lastCharacter = s.rx.lastCharacter ∧ (s.startFrame).rx.queue = s.rx.queue ∧
    (s.startFrame).rx.mode = s.rx.mode ∧ (s.startFrame).rx.quietTimer = s.rx.quietTimer ∧
    (s.startFrame).rx.sniffTimer = s.rx.sniffTimer ∧ (s.startFrame).rx.window = s.rx.window ∧
    (s.startFrame).rx.radio = s.rx.radio := by
  unfold State.startFrame; (repeat' split) <;> simp

@[simp] theorem State.fragmentSent_frame (s : State) (slot : SlotIx) (day : Day) (version : Version) (made : Nat) :
    (s.fragmentSent slot day version made).pending = s.pending ∧
    (s.fragmentSent slot day version made).elapsed = s.elapsed ∧
    (s.fragmentSent slot day version made).loader = s.loader ∧ (s.fragmentSent slot day version made).clock = s.clock ∧
    (s.fragmentSent slot day version made).sheets.slots = s.sheets.slots ∧
    (s.fragmentSent slot day version made).sheets.waiting = s.sheets.waiting ∧
    (s.fragmentSent slot day version made).sheets.offerTimer = s.sheets.offerTimer ∧
    (s.fragmentSent slot day version made).table = s.table ∧ (s.fragmentSent slot day version made).board = s.board ∧
    (s.fragmentSent slot day version made).planner = s.planner ∧
    (s.fragmentSent slot day version made).engine = s.engine ∧ (s.fragmentSent slot day version made).sense = s.sense ∧
    (s.fragmentSent slot day version made).rx = s.rx ∧ (s.fragmentSent slot day version made).tx = s.tx := by
  unfold State.fragmentSent; simp

@[simp] theorem State.fragmentAbandoned_frame (s : State) (slot : SlotIx) (day : Day) (version : Version) (made : Nat) :
    (s.fragmentAbandoned slot day version made).pending = s.pending ∧
    (s.fragmentAbandoned slot day version made).elapsed = s.elapsed ∧
    (s.fragmentAbandoned slot day version made).loader = s.loader ∧
    (s.fragmentAbandoned slot day version made).clock = s.clock ∧
    (s.fragmentAbandoned slot day version made).sheets = s.sheets ∧
    (s.fragmentAbandoned slot day version made).table = s.table ∧
    (s.fragmentAbandoned slot day version made).board = s.board ∧
    (s.fragmentAbandoned slot day version made).planner = s.planner ∧
    (s.fragmentAbandoned slot day version made).engine = s.engine ∧
    (s.fragmentAbandoned slot day version made).sense = s.sense ∧
    (s.fragmentAbandoned slot day version made).rx = s.rx ∧ (s.fragmentAbandoned slot day version made).tx = s.tx := by
  unfold State.fragmentAbandoned; (repeat' split) <;> simp

@[simp] theorem tellSent_fr (s : State) (x : Source) :
  (s.tellSent x).pending = s.pending ∧ (s.tellSent x).elapsed = s.elapsed ∧ (s.tellSent x).loader = s.loader ∧ (s.tellSent x).clock = s.clock ∧ (s.tellSent x).table = s.table ∧ (s.tellSent x).board = s.board ∧ (s.tellSent x).planner = s.planner ∧ (s.tellSent x).engine = s.engine ∧ (s.tellSent x).sense = s.sense ∧ (s.tellSent x).rx = s.rx := by
  cases x <;> simp [State.tellSent]
@[simp] theorem tellAbandoned_fr (s : State) (x : Source) :
  (s.tellAbandoned x).pending = s.pending ∧ (s.tellAbandoned x).elapsed = s.elapsed ∧ (s.tellAbandoned x).loader = s.loader ∧ (s.tellAbandoned x).clock = s.clock ∧ (s.tellAbandoned x).table = s.table ∧ (s.tellAbandoned x).board = s.board ∧ (s.tellAbandoned x).planner = s.planner ∧ (s.tellAbandoned x).engine = s.engine ∧ (s.tellAbandoned x).sense = s.sense ∧ (s.tellAbandoned x).rx = s.rx ∧ (s.tellAbandoned x).sheets = s.sheets := by
  cases x <;> simp [State.tellAbandoned]

@[simp] theorem State.endFrame_frame (s : State) (g : Granted) :
    (s.endFrame g).pending = s.pending ∧ (s.endFrame g).elapsed = s.elapsed ∧
    (s.endFrame g).loader = s.loader ∧ (s.endFrame g).clock = s.clock ∧ (s.endFrame g).table = s.table ∧
    (s.endFrame g).board = s.board ∧ (s.endFrame g).planner = s.planner ∧ (s.endFrame g).engine = s.engine ∧
    (s.endFrame g).sense = s.sense ∧ (s.endFrame g).rx = s.rx := by
  unfold State.endFrame; simp

@[simp] theorem State.abandonFrame_frame (s : State) (g : Granted) :
    (s.abandonFrame g).pending = s.pending ∧ (s.abandonFrame g).elapsed = s.elapsed ∧
    (s.abandonFrame g).loader = s.loader ∧ (s.abandonFrame g).clock = s.clock ∧
    (s.abandonFrame g).sheets = s.sheets ∧ (s.abandonFrame g).table = s.table ∧
    (s.abandonFrame g).board = s.board ∧ (s.abandonFrame g).planner = s.planner ∧
    (s.abandonFrame g).engine = s.engine ∧ (s.abandonFrame g).sense = s.sense ∧ (s.abandonFrame g).rx = s.rx := by
  unfold State.abandonFrame; simp

@[simp] theorem State.loadAbsent_frame (s : State) :
    (s.loadAbsent).pending = s.pending ∧ (s.loadAbsent).elapsed = s.elapsed ∧
    (s.loadAbsent).loader.released = s.loader.released ∧ (s.loadAbsent).clock = s.clock ∧
    (s.loadAbsent).sheets = s.sheets ∧ (s.loadAbsent).table = s.table ∧ (s.loadAbsent).board = s.board ∧
    (s.loadAbsent).planner = s.planner ∧ (s.loadAbsent).engine = s.engine ∧ (s.loadAbsent).sense = s.sense ∧
    (s.loadAbsent).rx = s.rx ∧ (s.loadAbsent).tx = s.tx := by
  unfold State.loadAbsent; simp

@[simp] theorem State.loadChecked_frame (s : State) (image : List Byte) :
    (s.loadChecked image).pending = s.pending ∧ (s.loadChecked image).elapsed = s.elapsed ∧
    (s.loadChecked image).loader.released = s.loader.released ∧ (s.loadChecked image).clock = s.clock ∧
    (s.loadChecked image).sheets = s.sheets ∧ (s.loadChecked image).table = s.table ∧
    (s.loadChecked image).board = s.board ∧ (s.loadChecked image).planner = s.planner ∧
    (s.loadChecked image).engine = s.engine ∧ (s.loadChecked image).sense = s.sense ∧
    (s.loadChecked image).rx = s.rx ∧ (s.loadChecked image).tx = s.tx := by
  unfold State.loadChecked; (repeat' split) <;> simp

@[simp] theorem State.armStoreLow_frame (s : State) (node : Nat) :
    (s.armStoreLow node).pending = s.pending ∧ (s.armStoreLow node).elapsed = s.elapsed ∧
    (s.armStoreLow node).loader = s.loader ∧ (s.armStoreLow node).clock = s.clock ∧
    (s.armStoreLow node).sheets = s.sheets ∧ (s.armStoreLow node).table = s.table ∧
    (s.armStoreLow node).board = s.board ∧ (s.armStoreLow node).planner = s.planner ∧
    (s.armStoreLow node).engine = s.engine ∧ (s.armStoreLow node).sense.history = s.sense.history ∧
    (s.armStoreLow node).sense.median = s.sense.median ∧
    (s.armStoreLow node).sense.temperature = s.sense.temperature ∧
    (s.armStoreLow node).sense.band = s.sense.band ∧ (s.armStoreLow node).sense.failures = s.sense.failures ∧
    (s.armStoreLow node).sense.scanTimer = s.sense.scanTimer ∧
    (s.armStoreLow node).sense.temperatureTimer = s.sense.temperatureTimer ∧
    (s.armStoreLow node).sense.converting = s.sense.converting ∧ (s.armStoreLow node).rx = s.rx ∧
    (s.armStoreLow node).tx = s.tx := by
  unfold State.armStoreLow; (repeat' split) <;> simp

@[simp] theorem State.startSense_frame (s : State) :
    (s.startSense).pending = s.pending ∧ (s.startSense).elapsed = s.elapsed ∧
    (s.startSense).loader = s.loader ∧ (s.startSense).clock = s.clock ∧ (s.startSense).sheets = s.sheets ∧
    (s.startSense).table = s.table ∧ (s.startSense).board = s.board ∧ (s.startSense).planner = s.planner ∧
    (s.startSense).engine.lines = s.engine.lines ∧ (s.startSense).engine.active = s.engine.active ∧
    (s.startSense).engine.port = s.engine.port ∧ (s.startSense).engine.freshHold = s.engine.freshHold ∧
    (s.startSense).engine.suspendedAt = s.engine.suspendedAt ∧
    (s.startSense).engine.faults = s.engine.faults ∧ (s.startSense).engine.faulted = s.engine.faulted ∧
    (s.startSense).engine.phaseDeadline = s.engine.phaseDeadline ∧
    (s.startSense).engine.readDeadline = s.engine.readDeadline ∧
    (s.startSense).engine.commands = s.engine.commands ∧ (s.startSense).sense.history = s.sense.history ∧
    (s.startSense).sense.median = s.sense.median ∧ (s.startSense).sense.storeLow = s.sense.storeLow ∧
    (s.startSense).sense.temperature = s.sense.temperature ∧ (s.startSense).sense.band = s.sense.band ∧
    (s.startSense).sense.failures = s.sense.failures ∧ (s.startSense).rx = s.rx ∧ (s.startSense).tx = s.tx ∧
    (s.startSense).counters = s.counters := by
  unfold State.startSense; simp

@[simp] theorem State.startBlocks_frame (s : State) (node : Nat) :
    (s.startBlocks node).pending = s.pending ∧ (s.startBlocks node).elapsed = s.elapsed ∧
    (s.startBlocks node).loader = s.loader ∧ (s.startBlocks node).clock = s.clock ∧
    (s.startBlocks node).sheets = s.sheets ∧ (s.startBlocks node).table = s.table ∧
    (s.startBlocks node).board.notices = s.board.notices ∧
    (s.startBlocks node).board.current = s.board.current ∧
    (s.startBlocks node).board.shownSince = s.board.shownSince ∧
    (s.startBlocks node).planner.voltage = s.planner.voltage ∧
    (s.startBlocks node).planner.available = s.planner.available ∧
    (s.startBlocks node).planner.energy = s.planner.energy ∧
    (s.startBlocks node).planner.boardParked = s.planner.boardParked ∧
    (s.startBlocks node).planner.sweep = s.planner.sweep ∧
    (s.startBlocks node).engine.freshHold = s.engine.freshHold ∧
    (s.startBlocks node).engine.faults = s.engine.faults ∧
    (s.startBlocks node).engine.faulted = s.engine.faulted ∧
    (s.startBlocks node).sense.history = s.sense.history ∧
    (s.startBlocks node).sense.median = s.sense.median ∧
    (s.startBlocks node).sense.temperature = s.sense.temperature ∧
    (s.startBlocks node).sense.band = s.sense.band ∧ (s.startBlocks node).sense.failures = s.sense.failures ∧
    (s.startBlocks node).rx.buffer = s.rx.buffer ∧
    (s.startBlocks node).rx.lastCharacter = s.rx.lastCharacter ∧ (s.startBlocks node).rx.queue = s.rx.queue ∧
    (s.startBlocks node).rx.quietTimer = s.rx.quietTimer ∧
    (s.startBlocks node).rx.sniffTimer = s.rx.sniffTimer ∧ (s.startBlocks node).rx.window = s.rx.window ∧
    (s.startBlocks node).tx.reply = s.tx.reply ∧ (s.startBlocks node).tx.clockWaiting = s.tx.clockWaiting ∧
    (s.startBlocks node).tx.offerWaiting = s.tx.offerWaiting ∧ (s.startBlocks node).tx.relay = s.tx.relay ∧
    (s.startBlocks node).tx.pointer = s.tx.pointer ∧ (s.startBlocks node).tx.state = s.tx.state ∧
    (s.startBlocks node).tx.granted = s.tx.granted ∧ (s.startBlocks node).tx.stage = s.tx.stage ∧
    (s.startBlocks node).tx.backoff = s.tx.backoff ∧ (s.startBlocks node).tx.line = s.tx.line := by
  unfold State.startBlocks; simp

@[simp] theorem State.startAbsent_frame (s : State) (node : Nat) :
    (s.startAbsent node).pending = s.pending ∧ (s.startAbsent node).elapsed = s.elapsed ∧
    (s.startAbsent node).loader.released = s.loader.released ∧ (s.startAbsent node).clock = s.clock ∧
    (s.startAbsent node).sheets = s.sheets ∧ (s.startAbsent node).table = s.table ∧
    (s.startAbsent node).board.notices = s.board.notices ∧
    (s.startAbsent node).board.current = s.board.current ∧
    (s.startAbsent node).board.shownSince = s.board.shownSince ∧
    (s.startAbsent node).planner.voltage = s.planner.voltage ∧
    (s.startAbsent node).planner.available = s.planner.available ∧
    (s.startAbsent node).planner.energy = s.planner.energy ∧
    (s.startAbsent node).planner.boardParked = s.planner.boardParked ∧
    (s.startAbsent node).planner.sweep = s.planner.sweep ∧
    (s.startAbsent node).engine.freshHold = s.engine.freshHold ∧
    (s.startAbsent node).engine.faults = s.engine.faults ∧
    (s.startAbsent node).engine.faulted = s.engine.faulted ∧
    (s.startAbsent node).sense.history = s.sense.history ∧
    (s.startAbsent node).sense.median = s.sense.median ∧
    (s.startAbsent node).sense.temperature = s.sense.temperature ∧
    (s.startAbsent node).sense.band = s.sense.band ∧ (s.startAbsent node).sense.failures = s.sense.failures ∧
    (s.startAbsent node).rx.buffer = s.rx.buffer ∧
    (s.startAbsent node).rx.lastCharacter = s.rx.lastCharacter ∧ (s.startAbsent node).rx.queue = s.rx.queue ∧
    (s.startAbsent node).rx.quietTimer = s.rx.quietTimer ∧
    (s.startAbsent node).rx.sniffTimer = s.rx.sniffTimer ∧ (s.startAbsent node).rx.window = s.rx.window ∧
    (s.startAbsent node).tx.reply = s.tx.reply ∧ (s.startAbsent node).tx.clockWaiting = s.tx.clockWaiting ∧
    (s.startAbsent node).tx.offerWaiting = s.tx.offerWaiting ∧ (s.startAbsent node).tx.relay = s.tx.relay ∧
    (s.startAbsent node).tx.pointer = s.tx.pointer ∧ (s.startAbsent node).tx.state = s.tx.state ∧
    (s.startAbsent node).tx.granted = s.tx.granted ∧ (s.startAbsent node).tx.stage = s.tx.stage ∧
    (s.startAbsent node).tx.backoff = s.tx.backoff ∧ (s.startAbsent node).tx.line = s.tx.line := by
  unfold State.startAbsent; simp

@[simp] theorem State.startImage_frame (s : State) (node : Nat) (image : List Byte) :
    (s.startImage node image).pending = s.pending ∧ (s.startImage node image).elapsed = s.elapsed ∧
    (s.startImage node image).loader.released = s.loader.released ∧
    (s.startImage node image).clock = s.clock ∧ (s.startImage node image).sheets = s.sheets ∧
    (s.startImage node image).table = s.table ∧ (s.startImage node image).board.notices = s.board.notices ∧
    (s.startImage node image).board.current = s.board.current ∧
    (s.startImage node image).board.shownSince = s.board.shownSince ∧
    (s.startImage node image).planner.voltage = s.planner.voltage ∧
    (s.startImage node image).planner.available = s.planner.available ∧
    (s.startImage node image).planner.energy = s.planner.energy ∧
    (s.startImage node image).planner.boardParked = s.planner.boardParked ∧
    (s.startImage node image).planner.sweep = s.planner.sweep ∧
    (s.startImage node image).engine.freshHold = s.engine.freshHold ∧
    (s.startImage node image).engine.faults = s.engine.faults ∧
    (s.startImage node image).engine.faulted = s.engine.faulted ∧
    (s.startImage node image).sense.history = s.sense.history ∧
    (s.startImage node image).sense.median = s.sense.median ∧
    (s.startImage node image).sense.temperature = s.sense.temperature ∧
    (s.startImage node image).sense.band = s.sense.band ∧
    (s.startImage node image).sense.failures = s.sense.failures ∧
    (s.startImage node image).rx.buffer = s.rx.buffer ∧
    (s.startImage node image).rx.lastCharacter = s.rx.lastCharacter ∧
    (s.startImage node image).rx.queue = s.rx.queue ∧
    (s.startImage node image).rx.quietTimer = s.rx.quietTimer ∧
    (s.startImage node image).rx.sniffTimer = s.rx.sniffTimer ∧
    (s.startImage node image).rx.window = s.rx.window ∧ (s.startImage node image).tx.reply = s.tx.reply ∧
    (s.startImage node image).tx.clockWaiting = s.tx.clockWaiting ∧
    (s.startImage node image).tx.offerWaiting = s.tx.offerWaiting ∧
    (s.startImage node image).tx.relay = s.tx.relay ∧ (s.startImage node image).tx.pointer = s.tx.pointer ∧
    (s.startImage node image).tx.state = s.tx.state ∧ (s.startImage node image).tx.granted = s.tx.granted ∧
    (s.startImage node image).tx.stage = s.tx.stage ∧ (s.startImage node image).tx.backoff = s.tx.backoff ∧
    (s.startImage node image).tx.line = s.tx.line := by
  unfold State.startImage; simp

@[simp] theorem State.judgeHeader_frame (s : State) (h : Byte) :
    (s.judgeHeader h).pending = s.pending ∧ (s.judgeHeader h).elapsed = s.elapsed ∧
    (s.judgeHeader h).loader = s.loader ∧ (s.judgeHeader h).clock = s.clock ∧
    (s.judgeHeader h).sheets = s.sheets ∧ (s.judgeHeader h).table = s.table ∧
    (s.judgeHeader h).board = s.board ∧ (s.judgeHeader h).planner = s.planner ∧
    (s.judgeHeader h).engine = s.engine ∧ (s.judgeHeader h).sense = s.sense ∧
    (s.judgeHeader h).rx.lastCharacter = s.rx.lastCharacter ∧ (s.judgeHeader h).rx.queue = s.rx.queue ∧
    (s.judgeHeader h).rx.mode = s.rx.mode ∧ (s.judgeHeader h).rx.quietTimer = s.rx.quietTimer ∧
    (s.judgeHeader h).rx.sniffTimer = s.rx.sniffTimer ∧ (s.judgeHeader h).rx.window = s.rx.window ∧
    (s.judgeHeader h).rx.radio = s.rx.radio ∧ (s.judgeHeader h).tx = s.tx := by
  unfold State.judgeHeader; (repeat' split) <;> simp

@[simp] theorem State.markedCharacter_frame (s : State) (b : Byte) :
    (s.markedCharacter b).pending = s.pending ∧ (s.markedCharacter b).elapsed = s.elapsed ∧
    (s.markedCharacter b).loader = s.loader ∧ (s.markedCharacter b).clock = s.clock ∧
    (s.markedCharacter b).sheets = s.sheets ∧ (s.markedCharacter b).table = s.table ∧
    (s.markedCharacter b).board = s.board ∧ (s.markedCharacter b).planner = s.planner ∧
    (s.markedCharacter b).engine = s.engine ∧ (s.markedCharacter b).sense = s.sense ∧
    (s.markedCharacter b).rx.lastCharacter = s.rx.lastCharacter ∧
    (s.markedCharacter b).rx.queue = s.rx.queue ∧ (s.markedCharacter b).rx.mode = s.rx.mode ∧
    (s.markedCharacter b).rx.quietTimer = s.rx.quietTimer ∧
    (s.markedCharacter b).rx.sniffTimer = s.rx.sniffTimer ∧ (s.markedCharacter b).rx.window = s.rx.window ∧
    (s.markedCharacter b).rx.radio = s.rx.radio ∧ (s.markedCharacter b).tx = s.tx := by
  unfold State.markedCharacter; (repeat' split) <;> simp

@[simp] theorem State.unmarkedCharacter_frame (s : State) (b : Byte) :
    (s.unmarkedCharacter b).pending = s.pending ∧ (s.unmarkedCharacter b).elapsed = s.elapsed ∧
    (s.unmarkedCharacter b).loader = s.loader ∧ (s.unmarkedCharacter b).clock = s.clock ∧
    (s.unmarkedCharacter b).sheets = s.sheets ∧ (s.unmarkedCharacter b).table = s.table ∧
    (s.unmarkedCharacter b).board = s.board ∧ (s.unmarkedCharacter b).planner = s.planner ∧
    (s.unmarkedCharacter b).engine = s.engine ∧ (s.unmarkedCharacter b).sense = s.sense ∧
    (s.unmarkedCharacter b).rx.lastCharacter = s.rx.lastCharacter ∧
    (s.unmarkedCharacter b).rx.queue = s.rx.queue ∧ (s.unmarkedCharacter b).rx.mode = s.rx.mode ∧
    (s.unmarkedCharacter b).rx.quietTimer = s.rx.quietTimer ∧
    (s.unmarkedCharacter b).rx.sniffTimer = s.rx.sniffTimer ∧
    (s.unmarkedCharacter b).rx.window = s.rx.window ∧ (s.unmarkedCharacter b).rx.radio = s.rx.radio ∧
    (s.unmarkedCharacter b).tx = s.tx := by
  unfold State.unmarkedCharacter; (repeat' split) <;> simp

@[simp] theorem State.badCharacter_frame (s : State) :
    (s.badCharacter).pending = s.pending ∧ (s.badCharacter).elapsed = s.elapsed ∧
    (s.badCharacter).loader = s.loader ∧ (s.badCharacter).clock = s.clock ∧
    (s.badCharacter).sheets = s.sheets ∧ (s.badCharacter).table = s.table ∧ (s.badCharacter).board = s.board ∧
    (s.badCharacter).planner = s.planner ∧ (s.badCharacter).engine = s.engine ∧
    (s.badCharacter).sense = s.sense ∧ (s.badCharacter).rx.lastCharacter = s.rx.lastCharacter ∧
    (s.badCharacter).rx.queue = s.rx.queue ∧ (s.badCharacter).rx.mode = s.rx.mode ∧
    (s.badCharacter).rx.quietTimer = s.rx.quietTimer ∧ (s.badCharacter).rx.sniffTimer = s.rx.sniffTimer ∧
    (s.badCharacter).rx.window = s.rx.window ∧ (s.badCharacter).rx.radio = s.rx.radio ∧
    (s.badCharacter).tx = s.tx := by
  unfold State.badCharacter; (repeat' split) <;> simp

@[simp] theorem State.takeValue_frame (s : State) (v : BitVec 11) :
    (s.takeValue v).pending = s.pending ∧ (s.takeValue v).elapsed = s.elapsed ∧
    (s.takeValue v).loader = s.loader ∧ (s.takeValue v).clock = s.clock ∧ (s.takeValue v).sheets = s.sheets ∧
    (s.takeValue v).table = s.table ∧ (s.takeValue v).board = s.board ∧ (s.takeValue v).planner = s.planner ∧
    (s.takeValue v).engine = s.engine ∧ (s.takeValue v).sense = s.sense ∧
    (s.takeValue v).rx.lastCharacter = s.rx.lastCharacter ∧ (s.takeValue v).rx.queue = s.rx.queue ∧
    (s.takeValue v).rx.mode = s.rx.mode ∧ (s.takeValue v).rx.quietTimer = s.rx.quietTimer ∧
    (s.takeValue v).rx.sniffTimer = s.rx.sniffTimer ∧ (s.takeValue v).rx.window = s.rx.window ∧
    (s.takeValue v).rx.radio = s.rx.radio ∧ (s.takeValue v).tx = s.tx := by
  unfold State.takeValue; (repeat' split) <;> simp

@[simp] theorem State.countNoise_frame (s : State) (a b c : BitVec 11) :
    (s.countNoise a b c).pending = s.pending ∧ (s.countNoise a b c).elapsed = s.elapsed ∧
    (s.countNoise a b c).loader = s.loader ∧ (s.countNoise a b c).clock = s.clock ∧
    (s.countNoise a b c).sheets = s.sheets ∧ (s.countNoise a b c).table = s.table ∧
    (s.countNoise a b c).board = s.board ∧ (s.countNoise a b c).planner = s.planner ∧
    (s.countNoise a b c).engine = s.engine ∧ (s.countNoise a b c).sense = s.sense ∧
    (s.countNoise a b c).rx = s.rx ∧ (s.countNoise a b c).tx = s.tx := by
  unfold State.countNoise; (repeat' split) <;> simp

@[simp] theorem State.takeCharacter_frame (s : State) (a b c : BitVec 11) :
    (s.takeCharacter a b c).pending = s.pending ∧ (s.takeCharacter a b c).elapsed = s.elapsed ∧
    (s.takeCharacter a b c).loader = s.loader ∧ (s.takeCharacter a b c).clock = s.clock ∧
    (s.takeCharacter a b c).sheets = s.sheets ∧ (s.takeCharacter a b c).table = s.table ∧
    (s.takeCharacter a b c).board = s.board ∧ (s.takeCharacter a b c).planner = s.planner ∧
    (s.takeCharacter a b c).engine = s.engine ∧ (s.takeCharacter a b c).sense = s.sense ∧
    (s.takeCharacter a b c).rx.queue = s.rx.queue ∧ (s.takeCharacter a b c).rx.mode = s.rx.mode ∧
    (s.takeCharacter a b c).rx.quietTimer = s.rx.quietTimer ∧
    (s.takeCharacter a b c).rx.sniffTimer = s.rx.sniffTimer ∧
    (s.takeCharacter a b c).rx.window = s.rx.window ∧ (s.takeCharacter a b c).rx.radio = s.rx.radio ∧
    (s.takeCharacter a b c).tx = s.tx := by
  unfold State.takeCharacter; simp

@[simp] theorem State.heardFrame_frame (s : State) :
    (s.heardFrame).pending = s.pending ∧ (s.heardFrame).elapsed = s.elapsed ∧
    (s.heardFrame).loader = s.loader ∧ (s.heardFrame).clock = s.clock ∧ (s.heardFrame).sheets = s.sheets ∧
    (s.heardFrame).table = s.table ∧ (s.heardFrame).board = s.board ∧ (s.heardFrame).planner = s.planner ∧
    (s.heardFrame).engine = s.engine ∧ (s.heardFrame).sense = s.sense ∧ (s.heardFrame).rx.state = s.rx.state ∧
    (s.heardFrame).rx.buffer = s.rx.buffer ∧ (s.heardFrame).rx.lastCharacter = s.rx.lastCharacter ∧
    (s.heardFrame).rx.queue = s.rx.queue ∧ (s.heardFrame).rx.sniffTimer = s.rx.sniffTimer ∧
    (s.heardFrame).rx.window = s.rx.window ∧ (s.heardFrame).rx.radio = s.rx.radio ∧ (s.heardFrame).tx = s.tx ∧
    (s.heardFrame).counters = s.counters := by
  unfold State.heardFrame; (repeat' split) <;> simp

@[simp] theorem State.offerToQueue_frame (s : State) (f : ReceivedFrame) :
    (s.offerToQueue f).pending = s.pending ∧ (s.offerToQueue f).elapsed = s.elapsed ∧
    (s.offerToQueue f).loader = s.loader ∧ (s.offerToQueue f).clock = s.clock ∧
    (s.offerToQueue f).sheets = s.sheets ∧ (s.offerToQueue f).table = s.table ∧
    (s.offerToQueue f).board = s.board ∧ (s.offerToQueue f).planner = s.planner ∧
    (s.offerToQueue f).engine = s.engine ∧ (s.offerToQueue f).sense = s.sense ∧
    (s.offerToQueue f).rx.state = s.rx.state ∧ (s.offerToQueue f).rx.buffer = s.rx.buffer ∧
    (s.offerToQueue f).rx.lastCharacter = s.rx.lastCharacter ∧
    (s.offerToQueue f).rx.sniffTimer = s.rx.sniffTimer ∧ (s.offerToQueue f).rx.window = s.rx.window ∧
    (s.offerToQueue f).rx.radio = s.rx.radio ∧ (s.offerToQueue f).tx = s.tx := by
  unfold State.offerToQueue; (repeat' split) <;> simp

@[simp] theorem State.judgeFrame_frame (s : State) :
    (s.judgeFrame).pending = s.pending ∧ (s.judgeFrame).elapsed = s.elapsed ∧
    (s.judgeFrame).loader = s.loader ∧ (s.judgeFrame).clock = s.clock ∧ (s.judgeFrame).sheets = s.sheets ∧
    (s.judgeFrame).table = s.table ∧ (s.judgeFrame).board = s.board ∧ (s.judgeFrame).planner = s.planner ∧
    (s.judgeFrame).engine = s.engine ∧ (s.judgeFrame).sense = s.sense ∧
    (s.judgeFrame).rx.lastCharacter = s.rx.lastCharacter ∧ (s.judgeFrame).rx.sniffTimer = s.rx.sniffTimer ∧
    (s.judgeFrame).rx.window = s.rx.window ∧ (s.judgeFrame).rx.radio = s.rx.radio ∧ (s.judgeFrame).tx = s.tx := by
  unfold State.judgeFrame; dsimp only; (repeat' split) <;> simp

@[simp] theorem State.takeIdle_frame (s : State) :
    (s.takeIdle).pending = s.pending ∧ (s.takeIdle).elapsed = s.elapsed ∧ (s.takeIdle).loader = s.loader ∧
    (s.takeIdle).clock = s.clock ∧ (s.takeIdle).sheets = s.sheets ∧ (s.takeIdle).table = s.table ∧
    (s.takeIdle).board = s.board ∧ (s.takeIdle).planner = s.planner ∧ (s.takeIdle).engine = s.engine ∧
    (s.takeIdle).sense = s.sense ∧ (s.takeIdle).rx.lastCharacter = s.rx.lastCharacter ∧
    (s.takeIdle).rx.sniffTimer = s.rx.sniffTimer ∧ (s.takeIdle).rx.window = s.rx.window ∧
    (s.takeIdle).rx.radio = s.rx.radio ∧ (s.takeIdle).tx = s.tx := by
  unfold State.takeIdle; (repeat' split) <;> simp

@[simp] theorem State.openWindow_frame (s : State) :
    (s.openWindow).pending = s.pending ∧ (s.openWindow).elapsed = s.elapsed ∧
    (s.openWindow).loader = s.loader ∧ (s.openWindow).clock = s.clock ∧ (s.openWindow).sheets = s.sheets ∧
    (s.openWindow).table = s.table ∧ (s.openWindow).board = s.board ∧ (s.openWindow).planner = s.planner ∧
    (s.openWindow).engine = s.engine ∧ (s.openWindow).sense = s.sense ∧ (s.openWindow).rx.state = s.rx.state ∧
    (s.openWindow).rx.buffer = s.rx.buffer ∧ (s.openWindow).rx.lastCharacter = s.rx.lastCharacter ∧
    (s.openWindow).rx.queue = s.rx.queue ∧ (s.openWindow).rx.mode = s.rx.mode ∧
    (s.openWindow).rx.quietTimer = s.rx.quietTimer ∧ (s.openWindow).rx.radio = s.rx.radio ∧
    (s.openWindow).tx = s.tx := by
  unfold State.openWindow; (repeat' split) <;> simp

@[simp] theorem State.freezeCountdown_frame (s : State) :
    (s.freezeCountdown).pending = s.pending ∧ (s.freezeCountdown).elapsed = s.elapsed ∧
    (s.freezeCountdown).loader = s.loader ∧ (s.freezeCountdown).clock = s.clock ∧
    (s.freezeCountdown).sheets = s.sheets ∧ (s.freezeCountdown).table = s.table ∧
    (s.freezeCountdown).board = s.board ∧ (s.freezeCountdown).planner = s.planner ∧
    (s.freezeCountdown).engine = s.engine ∧ (s.freezeCountdown).sense = s.sense ∧
    (s.freezeCountdown).rx = s.rx ∧ (s.freezeCountdown).tx.reply = s.tx.reply ∧
    (s.freezeCountdown).tx.clockWaiting = s.tx.clockWaiting ∧
    (s.freezeCountdown).tx.offerWaiting = s.tx.offerWaiting ∧ (s.freezeCountdown).tx.relay = s.tx.relay ∧
    (s.freezeCountdown).tx.pointer = s.tx.pointer ∧ (s.freezeCountdown).tx.state = s.tx.state ∧
    (s.freezeCountdown).tx.granted = s.tx.granted ∧ (s.freezeCountdown).tx.lfsr = s.tx.lfsr ∧
    (s.freezeCountdown).tx.line = s.tx.line := by
  unfold State.freezeCountdown; simp

@[simp] theorem State.countDown_frame (s : State) (n : Nat) :
    (s.countDown n).pending = s.pending ∧ (s.countDown n).elapsed = s.elapsed ∧
    (s.countDown n).loader = s.loader ∧ (s.countDown n).clock = s.clock ∧ (s.countDown n).sheets = s.sheets ∧
    (s.countDown n).table = s.table ∧ (s.countDown n).board = s.board ∧ (s.countDown n).planner = s.planner ∧
    (s.countDown n).engine = s.engine ∧ (s.countDown n).sense = s.sense ∧
    (s.countDown n).rx.lastCharacter = s.rx.lastCharacter ∧ (s.countDown n).rx.queue = s.rx.queue ∧
    (s.countDown n).rx.mode = s.rx.mode ∧ (s.countDown n).rx.quietTimer = s.rx.quietTimer ∧
    (s.countDown n).rx.sniffTimer = s.rx.sniffTimer ∧ (s.countDown n).rx.window = s.rx.window ∧
    (s.countDown n).rx.radio = s.rx.radio := by
  unfold State.countDown; (repeat' split) <;> simp

@[simp] theorem State.endFirstStage_frame (s : State) :
    (s.endFirstStage).pending = s.pending ∧ (s.endFirstStage).elapsed = s.elapsed ∧
    (s.endFirstStage).loader = s.loader ∧ (s.endFirstStage).clock = s.clock ∧
    (s.endFirstStage).sheets = s.sheets ∧ (s.endFirstStage).table = s.table ∧
    (s.endFirstStage).board = s.board ∧ (s.endFirstStage).planner = s.planner ∧
    (s.endFirstStage).engine = s.engine ∧ (s.endFirstStage).sense = s.sense ∧
    (s.endFirstStage).rx.lastCharacter = s.rx.lastCharacter ∧ (s.endFirstStage).rx.queue = s.rx.queue ∧
    (s.endFirstStage).rx.mode = s.rx.mode ∧ (s.endFirstStage).rx.quietTimer = s.rx.quietTimer ∧
    (s.endFirstStage).rx.sniffTimer = s.rx.sniffTimer ∧ (s.endFirstStage).rx.window = s.rx.window ∧
    (s.endFirstStage).rx.radio = s.rx.radio := by
  unfold State.endFirstStage; (repeat' split) <;> simp

@[simp] theorem State.countSlot_frame (s : State) :
    (s.countSlot).pending = s.pending ∧ (s.countSlot).elapsed = s.elapsed ∧ (s.countSlot).loader = s.loader ∧
    (s.countSlot).clock = s.clock ∧ (s.countSlot).sheets = s.sheets ∧ (s.countSlot).table = s.table ∧
    (s.countSlot).board = s.board ∧ (s.countSlot).planner = s.planner ∧ (s.countSlot).engine = s.engine ∧
    (s.countSlot).sense = s.sense ∧ (s.countSlot).rx.lastCharacter = s.rx.lastCharacter ∧
    (s.countSlot).rx.queue = s.rx.queue ∧ (s.countSlot).rx.mode = s.rx.mode ∧
    (s.countSlot).rx.quietTimer = s.rx.quietTimer ∧ (s.countSlot).rx.sniffTimer = s.rx.sniffTimer ∧
    (s.countSlot).rx.window = s.rx.window ∧ (s.countSlot).rx.radio = s.rx.radio := by
  unfold State.countSlot; (repeat' split) <;> simp

@[simp] theorem State.finishSending_frame (s : State) :
    (s.finishSending).pending = s.pending ∧ (s.finishSending).elapsed = s.elapsed ∧
    (s.finishSending).loader = s.loader ∧ (s.finishSending).clock = s.clock ∧
    (s.finishSending).table = s.table ∧ (s.finishSending).board = s.board ∧
    (s.finishSending).planner = s.planner ∧ (s.finishSending).engine = s.engine ∧
    (s.finishSending).sense = s.sense ∧ (s.finishSending).rx.lastCharacter = s.rx.lastCharacter ∧
    (s.finishSending).rx.queue = s.rx.queue ∧ (s.finishSending).rx.mode = s.rx.mode ∧
    (s.finishSending).rx.quietTimer = s.rx.quietTimer ∧ (s.finishSending).rx.sniffTimer = s.rx.sniffTimer := by
  unfold State.finishSending; (repeat' split) <;> simp

@[simp] theorem State.giveUp_frame (s : State) :
    (s.giveUp).pending = s.pending ∧ (s.giveUp).elapsed = s.elapsed ∧ (s.giveUp).loader = s.loader ∧
    (s.giveUp).clock = s.clock ∧ (s.giveUp).sheets = s.sheets ∧ (s.giveUp).table = s.table ∧
    (s.giveUp).board = s.board ∧ (s.giveUp).planner = s.planner ∧ (s.giveUp).engine = s.engine ∧
    (s.giveUp).sense = s.sense ∧ (s.giveUp).rx.lastCharacter = s.rx.lastCharacter ∧
    (s.giveUp).rx.queue = s.rx.queue ∧ (s.giveUp).rx.mode = s.rx.mode ∧
    (s.giveUp).rx.quietTimer = s.rx.quietTimer ∧ (s.giveUp).rx.sniffTimer = s.rx.sniffTimer := by
  unfold State.giveUp; (repeat' split) <;> simp

@[simp] theorem State.evaluateAll_frame (s : State) :
    (s.evaluateAll).pending = s.pending ∧ (s.evaluateAll).elapsed = s.elapsed ∧
    (s.evaluateAll).loader = s.loader ∧ (s.evaluateAll).clock = s.clock ∧ (s.evaluateAll).sheets = s.sheets ∧
    (s.evaluateAll).board = s.board ∧ (s.evaluateAll).planner = s.planner ∧
    (s.evaluateAll).engine = s.engine ∧ (s.evaluateAll).sense = s.sense ∧ (s.evaluateAll).rx = s.rx ∧
    (s.evaluateAll).tx = s.tx := by
  unfold State.evaluateAll; simp

@[simp] theorem State.fillPass_frame (s : State) :
    (s.fillPass).pending = s.pending ∧ (s.fillPass).elapsed = s.elapsed ∧ (s.fillPass).loader = s.loader ∧
    (s.fillPass).clock = s.clock ∧ (s.fillPass).sheets = s.sheets ∧ (s.fillPass).board = s.board ∧
    (s.fillPass).planner = s.planner ∧ (s.fillPass).engine = s.engine ∧ (s.fillPass).sense = s.sense ∧
    (s.fillPass).rx = s.rx ∧ (s.fillPass).tx = s.tx := by
  unfold State.fillPass; (repeat' split) <;> simp

theorem admitCandidate_rebuild (c d n r x) : (admitCandidate c d n r x).1.rebuild = r.1.rebuild := by
  unfold admitCandidate; dsimp only; split <;> rfl
theorem loseCandidate_rebuild (r x) : (loseCandidate r x).1.rebuild = r.1.rebuild := rfl
theorem admitCandidates_rebuild (c d n) (g : List Candidate) (r : Table × Counters) :
    (g.foldl (admitCandidate c d n) r).1.rebuild = r.1.rebuild :=
  fold_frame _ (fun r : Table × Counters => r.1.rebuild) (admitCandidate_rebuild c d n) g r
theorem admitLargeGroup_rebuild (c d n r g) : (admitLargeGroup c d n r g).1.rebuild = r.1.rebuild := by
  unfold admitLargeGroup
  rw [fold_frame _ (fun r : Table × Counters => r.1.rebuild) loseCandidate_rebuild, admitCandidates_rebuild]
theorem passGroups_rebuild (c d n gs u r) : (passGroups c d n gs u r).1.rebuild = r.1.rebuild := by
  induction gs generalizing u r with
  | nil => rfl
  | cons g gs ih =>
    unfold passGroups
    split
    · rw [ih, admitCandidates_rebuild]
    · split
      · exact admitLargeGroup_rebuild ..
      · rfl
@[simp] theorem fillPass_rebuild (s : State) : s.fillPass.table.rebuild = s.table.rebuild := by
  unfold State.fillPass State.passResult
  split
  · exact passGroups_rebuild ..
  · rfl
@[simp] theorem evaluateAll_table (s : State) : s.evaluateAll.table.marks = s.table.marks ∧ s.evaluateAll.table.rebuild = s.table.rebuild ∧ s.evaluateAll.table.passOwed = s.table.passOwed := by
  simp [State.evaluateAll, evaluateWhere]

@[simp] theorem State.fillOrOwe_frame (s : State) :
    (s.fillOrOwe).pending = s.pending ∧ (s.fillOrOwe).elapsed = s.elapsed ∧ (s.fillOrOwe).loader = s.loader ∧
    (s.fillOrOwe).clock = s.clock ∧ (s.fillOrOwe).sheets = s.sheets ∧
    (s.fillOrOwe).table.rebuild = s.table.rebuild ∧ (s.fillOrOwe).board = s.board ∧
    (s.fillOrOwe).planner = s.planner ∧ (s.fillOrOwe).engine = s.engine ∧ (s.fillOrOwe).sense = s.sense ∧
    (s.fillOrOwe).rx = s.rx ∧ (s.fillOrOwe).tx = s.tx := by
  unfold State.fillOrOwe; (repeat' split) <;> simp

@[simp] theorem takeOut_fr (s : State) (p : Entry → Bool) :
  (s.takeOut p).pending = s.pending ∧ (s.takeOut p).elapsed = s.elapsed ∧ (s.takeOut p).loader = s.loader ∧ (s.takeOut p).clock = s.clock ∧ (s.takeOut p).sheets = s.sheets ∧ (s.takeOut p).board = s.board ∧ (s.takeOut p).planner = s.planner ∧ (s.takeOut p).engine = s.engine ∧ (s.takeOut p).sense = s.sense ∧ (s.takeOut p).rx = s.rx ∧ (s.takeOut p).tx = s.tx ∧ (s.takeOut p).counters = s.counters ∧ (s.takeOut p).table.marks = s.table.marks ∧ (s.takeOut p).table.rebuild = s.table.rebuild ∧ (s.takeOut p).table.passOwed = s.table.passOwed := by
  simp [State.takeOut]

@[simp] theorem State.reportDeparture_frame (s : State) (e : Entry) (leave : Int) :
    (s.reportDeparture e leave).pending = s.pending ∧ (s.reportDeparture e leave).elapsed = s.elapsed ∧
    (s.reportDeparture e leave).loader = s.loader ∧ (s.reportDeparture e leave).clock = s.clock ∧
    (s.reportDeparture e leave).sheets = s.sheets ∧ (s.reportDeparture e leave).table = s.table ∧
    (s.reportDeparture e leave).board = s.board ∧ (s.reportDeparture e leave).planner = s.planner ∧
    (s.reportDeparture e leave).engine = s.engine ∧ (s.reportDeparture e leave).sense = s.sense ∧
    (s.reportDeparture e leave).rx = s.rx ∧ (s.reportDeparture e leave).tx.reply = s.tx.reply ∧
    (s.reportDeparture e leave).tx.clockWaiting = s.tx.clockWaiting ∧
    (s.reportDeparture e leave).tx.offerWaiting = s.tx.offerWaiting ∧
    (s.reportDeparture e leave).tx.lfsr = s.tx.lfsr ∧ (s.reportDeparture e leave).tx.line = s.tx.line := by
  unfold State.reportDeparture; (repeat' split) <;> simp

@[simp] theorem sightLossChecks_fr (s : State) :
  (s.sightLossChecks).pending = s.pending ∧ (s.sightLossChecks).elapsed = s.elapsed ∧ (s.sightLossChecks).loader = s.loader ∧ (s.sightLossChecks).clock = s.clock ∧ (s.sightLossChecks).sheets = s.sheets ∧ (s.sightLossChecks).board = s.board ∧ (s.sightLossChecks).planner = s.planner ∧ (s.sightLossChecks).engine = s.engine ∧ (s.sightLossChecks).sense = s.sense ∧ (s.sightLossChecks).rx = s.rx ∧ (s.sightLossChecks).table.marks = s.table.marks ∧ (s.sightLossChecks).table.rebuild = s.table.rebuild ∧ (s.sightLossChecks).table.passOwed = s.table.passOwed := by
  unfold State.sightLossChecks
  refine ⟨?_, ?_, ?_, ?_, ?_, ?_, ?_, ?_, ?_, ?_, ?_, ?_, ?_⟩ <;> dsimp only
  · rw [fold_frame _ (fun s : State => s.pending) (by intros; simp)]; simp
  · rw [fold_frame _ (fun s : State => s.elapsed) (by intros; simp)]; simp
  · rw [fold_frame _ (fun s : State => s.loader) (by intros; simp)]; simp
  · rw [fold_frame _ (fun s : State => s.clock) (by intros; simp)]; simp
  · rw [fold_frame _ (fun s : State => s.sheets) (by intros; simp)]; simp
  · rw [fold_frame _ (fun s : State => s.board) (by intros; simp)]; simp
  · rw [fold_frame _ (fun s : State => s.planner) (by intros; simp)]; simp
  · rw [fold_frame _ (fun s : State => s.engine) (by intros; simp)]; simp
  · rw [fold_frame _ (fun s : State => s.sense) (by intros; simp)]; simp
  · rw [fold_frame _ (fun s : State => s.rx) (by intros; simp)]; simp
  · rw [fold_frame _ (fun s : State => s.table.marks) (by intros; simp)]; simp
  · rw [fold_frame _ (fun s : State => s.table.rebuild) (by intros; simp)]; simp
  · rw [fold_frame _ (fun s : State => s.table.passOwed) (by intros; simp)]; simp


@[simp] theorem State.rollTable_frame (s : State) :
    (s.rollTable).pending = s.pending ∧ (s.rollTable).elapsed = s.elapsed ∧ (s.rollTable).loader = s.loader ∧
    (s.rollTable).clock = s.clock ∧ (s.rollTable).sheets = s.sheets ∧
    (s.rollTable).table.rebuild = s.table.rebuild ∧ (s.rollTable).table.passOwed = s.table.passOwed ∧
    (s.rollTable).board = s.board ∧ (s.rollTable).planner = s.planner ∧ (s.rollTable).engine = s.engine ∧
    (s.rollTable).sense = s.sense ∧ (s.rollTable).rx = s.rx ∧ (s.rollTable).tx = s.tx := by
  unfold State.rollTable; simp

@[simp] theorem State.flushTable_frame (s : State) :
    (s.flushTable).pending = s.pending ∧ (s.flushTable).elapsed = s.elapsed ∧
    (s.flushTable).loader = s.loader ∧ (s.flushTable).clock = s.clock ∧ (s.flushTable).sheets = s.sheets ∧
    (s.flushTable).board = s.board ∧ (s.flushTable).planner = s.planner ∧ (s.flushTable).engine = s.engine ∧
    (s.flushTable).sense = s.sense ∧ (s.flushTable).rx = s.rx ∧ (s.flushTable).tx = s.tx := by
  unfold State.flushTable; simp

@[simp] theorem State.applyRebuild_frame (s : State) (r : Rebuild) :
    (s.applyRebuild r).pending = s.pending ∧ (s.applyRebuild r).elapsed = s.elapsed ∧
    (s.applyRebuild r).loader = s.loader ∧ (s.applyRebuild r).clock = s.clock ∧
    (s.applyRebuild r).sheets = s.sheets ∧ (s.applyRebuild r).table.rebuild = s.table.rebuild ∧
    (s.applyRebuild r).table.passOwed = s.table.passOwed ∧ (s.applyRebuild r).board = s.board ∧
    (s.applyRebuild r).planner = s.planner ∧ (s.applyRebuild r).engine = s.engine ∧
    (s.applyRebuild r).sense = s.sense ∧ (s.applyRebuild r).rx = s.rx ∧ (s.applyRebuild r).tx = s.tx := by
  unfold State.applyRebuild; dsimp only; (repeat' split) <;> simp

@[simp] theorem State.completeRebuild_frame (s : State) (r : Rebuild) :
    (s.completeRebuild r).pending = s.pending ∧ (s.completeRebuild r).elapsed = s.elapsed ∧
    (s.completeRebuild r).loader = s.loader ∧ (s.completeRebuild r).clock = s.clock ∧
    (s.completeRebuild r).sheets = s.sheets ∧ (s.completeRebuild r).board = s.board ∧
    (s.completeRebuild r).planner = s.planner ∧ (s.completeRebuild r).engine = s.engine ∧
    (s.completeRebuild r).sense = s.sense ∧ (s.completeRebuild r).rx = s.rx ∧ (s.completeRebuild r).tx = s.tx := by
  unfold State.completeRebuild; simp

@[simp] theorem State.requestPublication_frame (s : State) (slot : SlotIx) (day : Day) :
    (s.requestPublication slot day).pending = s.pending ∧
    (s.requestPublication slot day).elapsed = s.elapsed ∧ (s.requestPublication slot day).loader = s.loader ∧
    (s.requestPublication slot day).clock = s.clock ∧
    (s.requestPublication slot day).sheets.slots = s.sheets.slots ∧
    (s.requestPublication slot day).sheets.waiting = s.sheets.waiting ∧
    (s.requestPublication slot day).sheets.offerTimer = s.sheets.offerTimer ∧
    (s.requestPublication slot day).table = s.table ∧ (s.requestPublication slot day).board = s.board ∧
    (s.requestPublication slot day).planner = s.planner ∧ (s.requestPublication slot day).engine = s.engine ∧
    (s.requestPublication slot day).sense = s.sense ∧ (s.requestPublication slot day).rx = s.rx ∧
    (s.requestPublication slot day).tx.reply = s.tx.reply ∧
    (s.requestPublication slot day).tx.clockWaiting = s.tx.clockWaiting ∧
    (s.requestPublication slot day).tx.offerWaiting = s.tx.offerWaiting ∧
    (s.requestPublication slot day).tx.relay = s.tx.relay ∧
    (s.requestPublication slot day).tx.pointer = s.tx.pointer ∧
    (s.requestPublication slot day).tx.state = s.tx.state ∧
    (s.requestPublication slot day).tx.granted = s.tx.granted ∧
    (s.requestPublication slot day).tx.stage = s.tx.stage ∧
    (s.requestPublication slot day).tx.backoff = s.tx.backoff ∧
    (s.requestPublication slot day).tx.line = s.tx.line := by
  unfold State.requestPublication; (repeat' split) <;> simp

@[simp] theorem State.commitAssembly_frame (s : State) (i : SlotIx) (a : Assembly) (rest : List SlotIx) :
    (s.commitAssembly i a rest).pending = s.pending ∧ (s.commitAssembly i a rest).elapsed = s.elapsed ∧
    (s.commitAssembly i a rest).loader = s.loader ∧ (s.commitAssembly i a rest).clock = s.clock ∧
    (s.commitAssembly i a rest).table.entries = s.table.entries ∧
    (s.commitAssembly i a rest).table.marks = s.table.marks ∧
    (s.commitAssembly i a rest).table.passOwed = s.table.passOwed ∧
    (s.commitAssembly i a rest).board = s.board ∧ (s.commitAssembly i a rest).planner = s.planner ∧
    (s.commitAssembly i a rest).engine = s.engine ∧ (s.commitAssembly i a rest).sense = s.sense ∧
    (s.commitAssembly i a rest).rx = s.rx ∧ (s.commitAssembly i a rest).tx.reply = s.tx.reply ∧
    (s.commitAssembly i a rest).tx.clockWaiting = s.tx.clockWaiting ∧
    (s.commitAssembly i a rest).tx.offerWaiting = s.tx.offerWaiting ∧
    (s.commitAssembly i a rest).tx.relay = s.tx.relay ∧
    (s.commitAssembly i a rest).tx.pointer = s.tx.pointer ∧
    (s.commitAssembly i a rest).tx.state = s.tx.state ∧
    (s.commitAssembly i a rest).tx.granted = s.tx.granted ∧
    (s.commitAssembly i a rest).tx.stage = s.tx.stage ∧
    (s.commitAssembly i a rest).tx.backoff = s.tx.backoff ∧ (s.commitAssembly i a rest).tx.line = s.tx.line := by
  unfold State.commitAssembly; simp

@[simp] theorem State.rejectAssembly_frame (s : State) (i : SlotIx) :
    (s.rejectAssembly i).pending = s.pending ∧ (s.rejectAssembly i).elapsed = s.elapsed ∧
    (s.rejectAssembly i).loader = s.loader ∧ (s.rejectAssembly i).clock = s.clock ∧
    (s.rejectAssembly i).table = s.table ∧ (s.rejectAssembly i).board = s.board ∧
    (s.rejectAssembly i).planner = s.planner ∧ (s.rejectAssembly i).engine = s.engine ∧
    (s.rejectAssembly i).sense = s.sense ∧ (s.rejectAssembly i).rx = s.rx ∧ (s.rejectAssembly i).tx = s.tx := by
  unfold State.rejectAssembly; simp

@[simp] theorem commitWaiting_fr (l : List SlotIx) (s : State) :
  (commitWaiting l s).pending = s.pending ∧ (commitWaiting l s).elapsed = s.elapsed ∧ (commitWaiting l s).loader = s.loader ∧ (commitWaiting l s).clock = s.clock ∧ (commitWaiting l s).board = s.board ∧ (commitWaiting l s).planner = s.planner ∧ (commitWaiting l s).engine = s.engine ∧ (commitWaiting l s).sense = s.sense ∧ (commitWaiting l s).rx = s.rx ∧ (commitWaiting l s).sheets.offerTimer = s.sheets.offerTimer ∧ (commitWaiting l s).table.entries = s.table.entries ∧ (commitWaiting l s).table.marks = s.table.marks ∧ (commitWaiting l s).table.passOwed = s.table.passOwed := by
  induction l generalizing s with
  | nil => simp [commitWaiting]
  | cons i l ih =>
    simp only [commitWaiting]
    split
    · exact ih s
    · split
      · simp [State.commitAssembly, State.startRebuild, State.requestPublication, SheetStore.setSlot]; repeat' split
        all_goals simp
      · have := ih (s.rejectAssembly i); simpa [State.rejectAssembly, SheetStore.setAssembly, SheetStore.setSlot] using this
@[simp] theorem tryCommit_fr (s : State) :
  (s.tryCommit).pending = s.pending ∧ (s.tryCommit).elapsed = s.elapsed ∧ (s.tryCommit).loader = s.loader ∧ (s.tryCommit).clock = s.clock ∧ (s.tryCommit).board = s.board ∧ (s.tryCommit).planner = s.planner ∧ (s.tryCommit).engine = s.engine ∧ (s.tryCommit).sense = s.sense ∧ (s.tryCommit).rx = s.rx ∧ (s.tryCommit).sheets.offerTimer = s.sheets.offerTimer ∧ (s.tryCommit).table.entries = s.table.entries ∧ (s.tryCommit).table.marks = s.table.marks ∧ (s.tryCommit).table.passOwed = s.table.passOwed := by
  unfold State.tryCommit; split <;> simp

@[simp] theorem State.fillAndCommit_frame (s : State) (commitFirst : Bool) :
    (s.fillAndCommit commitFirst).pending = s.pending ∧ (s.fillAndCommit commitFirst).elapsed = s.elapsed ∧
    (s.fillAndCommit commitFirst).loader = s.loader ∧ (s.fillAndCommit commitFirst).clock = s.clock ∧
    (s.fillAndCommit commitFirst).sheets.offerTimer = s.sheets.offerTimer ∧
    (s.fillAndCommit commitFirst).board = s.board ∧ (s.fillAndCommit commitFirst).planner = s.planner ∧
    (s.fillAndCommit commitFirst).engine = s.engine ∧ (s.fillAndCommit commitFirst).sense = s.sense ∧
    (s.fillAndCommit commitFirst).rx = s.rx := by
  unfold State.fillAndCommit; (repeat' split) <;> simp

@[simp] theorem State.putAssembly_frame (s : State) (i : SlotIx) (a : Assembly) :
    (s.putAssembly i a).pending = s.pending ∧ (s.putAssembly i a).elapsed = s.elapsed ∧
    (s.putAssembly i a).loader = s.loader ∧ (s.putAssembly i a).clock = s.clock ∧
    (s.putAssembly i a).table.entries = s.table.entries ∧ (s.putAssembly i a).table.marks = s.table.marks ∧
    (s.putAssembly i a).table.passOwed = s.table.passOwed ∧ (s.putAssembly i a).board = s.board ∧
    (s.putAssembly i a).planner = s.planner ∧ (s.putAssembly i a).engine = s.engine ∧
    (s.putAssembly i a).sense = s.sense ∧ (s.putAssembly i a).rx = s.rx := by
  unfold State.putAssembly; (repeat' split) <;> simp

@[simp] theorem State.addFragment_frame (s : State) (i : SlotIx) (a : Assembly) (f : SheetFields) :
    (s.addFragment i a f).pending = s.pending ∧ (s.addFragment i a f).elapsed = s.elapsed ∧
    (s.addFragment i a f).loader = s.loader ∧ (s.addFragment i a f).clock = s.clock ∧
    (s.addFragment i a f).table.entries = s.table.entries ∧
    (s.addFragment i a f).table.marks = s.table.marks ∧
    (s.addFragment i a f).table.passOwed = s.table.passOwed ∧ (s.addFragment i a f).board = s.board ∧
    (s.addFragment i a f).planner = s.planner ∧ (s.addFragment i a f).engine = s.engine ∧
    (s.addFragment i a f).sense = s.sense ∧ (s.addFragment i a f).rx = s.rx := by
  unfold State.addFragment; (repeat' split) <;> simp

@[simp] theorem State.applyFragment_frame (s : State) (i : SlotIx) (f : SheetFields) :
    (s.applyFragment i f).pending = s.pending ∧ (s.applyFragment i f).elapsed = s.elapsed ∧
    (s.applyFragment i f).loader = s.loader ∧ (s.applyFragment i f).clock = s.clock ∧
    (s.applyFragment i f).table.entries = s.table.entries ∧
    (s.applyFragment i f).table.marks = s.table.marks ∧
    (s.applyFragment i f).table.passOwed = s.table.passOwed ∧ (s.applyFragment i f).board = s.board ∧
    (s.applyFragment i f).planner = s.planner ∧ (s.applyFragment i f).engine = s.engine ∧
    (s.applyFragment i f).sense = s.sense ∧ (s.applyFragment i f).rx = s.rx := by
  unfold State.applyFragment; (repeat' split) <;> simp

@[simp] theorem State.changeDays_frame (s : State) :
    (s.changeDays).pending = s.pending ∧ (s.changeDays).elapsed = s.elapsed ∧
    (s.changeDays).loader = s.loader ∧ (s.changeDays).clock = s.clock ∧
    (s.changeDays).sheets.offerTimer = s.sheets.offerTimer ∧ (s.changeDays).table = s.table ∧
    (s.changeDays).board = s.board ∧ (s.changeDays).planner = s.planner ∧ (s.changeDays).engine = s.engine ∧
    (s.changeDays).sense = s.sense ∧ (s.changeDays).rx = s.rx ∧ (s.changeDays).tx = s.tx := by
  unfold State.changeDays; simp

@[simp] theorem State.finish_frame (s : State) :
    (s.finish).pending = s.pending ∧ (s.finish).elapsed = s.elapsed ∧ (s.finish).loader = s.loader ∧
    (s.finish).clock = s.clock ∧ (s.finish).sheets = s.sheets ∧ (s.finish).table = s.table ∧
    (s.finish).board = s.board ∧ (s.finish).planner = s.planner ∧ (s.finish).engine.lines = s.engine.lines ∧
    (s.finish).engine.active = s.engine.active ∧ (s.finish).engine.freshHold = s.engine.freshHold ∧
    (s.finish).engine.suspendedAt = s.engine.suspendedAt ∧ (s.finish).engine.faults = s.engine.faults ∧
    (s.finish).engine.faulted = s.engine.faulted ∧ (s.finish).sense = s.sense ∧
    (s.finish).rx.lastCharacter = s.rx.lastCharacter ∧ (s.finish).rx.queue = s.rx.queue ∧
    (s.finish).rx.mode = s.rx.mode ∧ (s.finish).rx.quietTimer = s.rx.quietTimer ∧
    (s.finish).rx.sniffTimer = s.rx.sniffTimer ∧ (s.finish).tx = s.tx := by
  unfold State.finish; simp

@[simp] theorem State.startBeacon_frame (s : State) :
    (s.startBeacon).pending = s.pending ∧ (s.startBeacon).elapsed = s.elapsed ∧
    (s.startBeacon).loader = s.loader ∧ (s.startBeacon).clock.timeValid = s.clock.timeValid ∧
    (s.startBeacon).clock.day = s.clock.day ∧ (s.startBeacon).clock.second = s.clock.second ∧
    (s.startBeacon).clock.phase = s.clock.phase ∧ (s.startBeacon).clock.stratum = s.clock.stratum ∧
    (s.startBeacon).clock.lastAdoption = s.clock.lastAdoption ∧
    (s.startBeacon).clock.agingTimer = s.clock.agingTimer ∧ (s.startBeacon).sheets = s.sheets ∧
    (s.startBeacon).table = s.table ∧ (s.startBeacon).board = s.board ∧ (s.startBeacon).planner = s.planner ∧
    (s.startBeacon).engine = s.engine ∧ (s.startBeacon).sense = s.sense ∧ (s.startBeacon).rx = s.rx ∧
    (s.startBeacon).tx.reply = s.tx.reply ∧ (s.startBeacon).tx.clockWaiting = s.tx.clockWaiting ∧
    (s.startBeacon).tx.offerWaiting = s.tx.offerWaiting ∧ (s.startBeacon).tx.relay = s.tx.relay ∧
    (s.startBeacon).tx.pointer = s.tx.pointer ∧ (s.startBeacon).tx.state = s.tx.state ∧
    (s.startBeacon).tx.granted = s.tx.granted ∧ (s.startBeacon).tx.stage = s.tx.stage ∧
    (s.startBeacon).tx.backoff = s.tx.backoff ∧ (s.startBeacon).tx.line = s.tx.line ∧
    (s.startBeacon).counters = s.counters := by
  unfold State.startBeacon; simp

@[simp] theorem State.startOffers_frame (s : State) :
    (s.startOffers).pending = s.pending ∧ (s.startOffers).elapsed = s.elapsed ∧
    (s.startOffers).loader = s.loader ∧ (s.startOffers).clock = s.clock ∧
    (s.startOffers).sheets.slots = s.sheets.slots ∧ (s.startOffers).sheets.waiting = s.sheets.waiting ∧
    (s.startOffers).sheets.publications = s.sheets.publications ∧ (s.startOffers).table = s.table ∧
    (s.startOffers).board = s.board ∧ (s.startOffers).planner = s.planner ∧
    (s.startOffers).engine = s.engine ∧ (s.startOffers).sense = s.sense ∧ (s.startOffers).rx = s.rx ∧
    (s.startOffers).tx.reply = s.tx.reply ∧ (s.startOffers).tx.clockWaiting = s.tx.clockWaiting ∧
    (s.startOffers).tx.offerWaiting = s.tx.offerWaiting ∧ (s.startOffers).tx.relay = s.tx.relay ∧
    (s.startOffers).tx.pointer = s.tx.pointer ∧ (s.startOffers).tx.state = s.tx.state ∧
    (s.startOffers).tx.granted = s.tx.granted ∧ (s.startOffers).tx.stage = s.tx.stage ∧
    (s.startOffers).tx.backoff = s.tx.backoff ∧ (s.startOffers).tx.line = s.tx.line ∧
    (s.startOffers).counters = s.counters := by
  unfold State.startOffers; simp

@[simp] theorem State.stepTable_frame (s : State) (passFirst : Bool) :
    (s.stepTable passFirst).pending = s.pending ∧ (s.stepTable passFirst).elapsed = s.elapsed ∧
    (s.stepTable passFirst).loader = s.loader ∧ (s.stepTable passFirst).clock = s.clock ∧
    (s.stepTable passFirst).sheets = s.sheets ∧ (s.stepTable passFirst).table.rebuild = s.table.rebuild ∧
    (s.stepTable passFirst).board = s.board ∧ (s.stepTable passFirst).planner = s.planner ∧
    (s.stepTable passFirst).engine = s.engine ∧ (s.stepTable passFirst).sense = s.sense ∧
    (s.stepTable passFirst).rx = s.rx := by
  unfold State.stepTable; (repeat' split) <;> simp

@[simp] theorem State.adoptFirst_frame (s : State) (m : Moment) (offerFirst : Bool) :
    (s.adoptFirst m offerFirst).pending = s.pending ∧ (s.adoptFirst m offerFirst).elapsed = s.elapsed ∧
    (s.adoptFirst m offerFirst).loader = s.loader ∧
    (s.adoptFirst m offerFirst).clock.stratum = s.clock.stratum ∧
    (s.adoptFirst m offerFirst).clock.lastAdoption = s.clock.lastAdoption ∧
    (s.adoptFirst m offerFirst).clock.agingTimer = s.clock.agingTimer ∧
    (s.adoptFirst m offerFirst).sheets.slots = s.sheets.slots ∧
    (s.adoptFirst m offerFirst).sheets.waiting = s.sheets.waiting ∧
    (s.adoptFirst m offerFirst).sheets.publications = s.sheets.publications ∧
    (s.adoptFirst m offerFirst).board = s.board ∧ (s.adoptFirst m offerFirst).planner = s.planner ∧
    (s.adoptFirst m offerFirst).engine = s.engine ∧ (s.adoptFirst m offerFirst).sense = s.sense ∧
    (s.adoptFirst m offerFirst).rx = s.rx ∧ (s.adoptFirst m offerFirst).tx.reply = s.tx.reply ∧
    (s.adoptFirst m offerFirst).tx.clockWaiting = s.tx.clockWaiting ∧
    (s.adoptFirst m offerFirst).tx.offerWaiting = s.tx.offerWaiting ∧
    (s.adoptFirst m offerFirst).tx.relay = s.tx.relay ∧
    (s.adoptFirst m offerFirst).tx.pointer = s.tx.pointer ∧
    (s.adoptFirst m offerFirst).tx.state = s.tx.state ∧
    (s.adoptFirst m offerFirst).tx.granted = s.tx.granted ∧
    (s.adoptFirst m offerFirst).tx.stage = s.tx.stage ∧
    (s.adoptFirst m offerFirst).tx.backoff = s.tx.backoff ∧ (s.adoptFirst m offerFirst).tx.line = s.tx.line := by
  unfold State.adoptFirst; (repeat' split) <;> simp

@[simp] theorem State.adoptStep_frame (s : State) (m : Moment) (passFirst : Bool) :
    (s.adoptStep m passFirst).pending = s.pending ∧ (s.adoptStep m passFirst).elapsed = s.elapsed ∧
    (s.adoptStep m passFirst).loader = s.loader ∧
    (s.adoptStep m passFirst).clock.timeValid = s.clock.timeValid ∧
    (s.adoptStep m passFirst).clock.stratum = s.clock.stratum ∧
    (s.adoptStep m passFirst).clock.lastAdoption = s.clock.lastAdoption ∧
    (s.adoptStep m passFirst).clock.agingTimer = s.clock.agingTimer ∧
    (s.adoptStep m passFirst).clock.beaconTimer = s.clock.beaconTimer ∧
    (s.adoptStep m passFirst).sheets = s.sheets ∧ (s.adoptStep m passFirst).table.rebuild = s.table.rebuild ∧
    (s.adoptStep m passFirst).board = s.board ∧ (s.adoptStep m passFirst).planner = s.planner ∧
    (s.adoptStep m passFirst).engine = s.engine ∧ (s.adoptStep m passFirst).sense = s.sense ∧
    (s.adoptStep m passFirst).rx = s.rx := by
  unfold State.adoptStep; simp

@[simp] theorem State.adoptNextDay_frame (s : State) (m : Moment) (passFirst : Bool) :
    (s.adoptNextDay m passFirst).pending = s.pending ∧ (s.adoptNextDay m passFirst).elapsed = s.elapsed ∧
    (s.adoptNextDay m passFirst).loader = s.loader ∧
    (s.adoptNextDay m passFirst).clock.timeValid = s.clock.timeValid ∧
    (s.adoptNextDay m passFirst).clock.stratum = s.clock.stratum ∧
    (s.adoptNextDay m passFirst).clock.lastAdoption = s.clock.lastAdoption ∧
    (s.adoptNextDay m passFirst).clock.agingTimer = s.clock.agingTimer ∧
    (s.adoptNextDay m passFirst).clock.beaconTimer = s.clock.beaconTimer ∧
    (s.adoptNextDay m passFirst).sheets.offerTimer = s.sheets.offerTimer ∧
    (s.adoptNextDay m passFirst).table.rebuild = s.table.rebuild ∧
    (s.adoptNextDay m passFirst).board = s.board ∧ (s.adoptNextDay m passFirst).planner = s.planner ∧
    (s.adoptNextDay m passFirst).engine = s.engine ∧ (s.adoptNextDay m passFirst).sense = s.sense ∧
    (s.adoptNextDay m passFirst).rx = s.rx := by
  unfold State.adoptNextDay; simp

@[simp] theorem State.adoptJump_frame (s : State) (m : Moment) (commitFirst : Bool) :
    (s.adoptJump m commitFirst).pending = s.pending ∧ (s.adoptJump m commitFirst).elapsed = s.elapsed ∧
    (s.adoptJump m commitFirst).loader = s.loader ∧ (s.adoptJump m commitFirst).clock.timeValid = s.clock.timeValid ∧
    (s.adoptJump m commitFirst).clock.stratum = s.clock.stratum ∧
    (s.adoptJump m commitFirst).clock.lastAdoption = s.clock.lastAdoption ∧
    (s.adoptJump m commitFirst).clock.agingTimer = s.clock.agingTimer ∧
    (s.adoptJump m commitFirst).clock.beaconTimer = s.clock.beaconTimer ∧
    (s.adoptJump m commitFirst).sheets.offerTimer = s.sheets.offerTimer ∧ (s.adoptJump m commitFirst).board = s.board ∧
    (s.adoptJump m commitFirst).planner = s.planner ∧ (s.adoptJump m commitFirst).engine = s.engine ∧
    (s.adoptJump m commitFirst).sense = s.sense ∧ (s.adoptJump m commitFirst).rx = s.rx := by
  unfold State.adoptJump; simp

@[simp] theorem State.adoptTime_frame (s : State) (m : Moment) (offerFirst passFirst : Bool) :
    (s.adoptTime m offerFirst passFirst).pending = s.pending ∧
    (s.adoptTime m offerFirst passFirst).elapsed = s.elapsed ∧
    (s.adoptTime m offerFirst passFirst).loader = s.loader ∧
    (s.adoptTime m offerFirst passFirst).clock.stratum = s.clock.stratum ∧
    (s.adoptTime m offerFirst passFirst).clock.lastAdoption = s.clock.lastAdoption ∧
    (s.adoptTime m offerFirst passFirst).clock.agingTimer = s.clock.agingTimer ∧
    (s.adoptTime m offerFirst passFirst).board = s.board ∧
    (s.adoptTime m offerFirst passFirst).planner = s.planner ∧
    (s.adoptTime m offerFirst passFirst).engine = s.engine ∧
    (s.adoptTime m offerFirst passFirst).sense = s.sense ∧ (s.adoptTime m offerFirst passFirst).rx = s.rx := by
  unfold State.adoptTime; (repeat' split) <;> simp

@[simp] theorem State.reevaluate_frame (s : State) :
    (s.reevaluate).pending = s.pending ∧ (s.reevaluate).elapsed = s.elapsed ∧
    (s.reevaluate).loader = s.loader ∧ (s.reevaluate).clock = s.clock ∧ (s.reevaluate).sheets = s.sheets ∧
    (s.reevaluate).table.marks = s.table.marks ∧ (s.reevaluate).table.rebuild = s.table.rebuild ∧
    (s.reevaluate).table.passOwed = s.table.passOwed ∧ (s.reevaluate).planner.voltage = s.planner.voltage ∧
    (s.reevaluate).planner.available = s.planner.available ∧
    (s.reevaluate).planner.parkThreshold = s.planner.parkThreshold ∧
    (s.reevaluate).planner.leanThreshold = s.planner.leanThreshold ∧
    (s.reevaluate).planner.energy = s.planner.energy ∧
    (s.reevaluate).planner.boardParked = s.planner.boardParked ∧
    (s.reevaluate).planner.sweep = s.planner.sweep ∧ (s.reevaluate).engine.port = s.engine.port ∧
    (s.reevaluate).engine.readRequest = s.engine.readRequest ∧
    (s.reevaluate).engine.freshHold = s.engine.freshHold ∧ (s.reevaluate).engine.faults = s.engine.faults ∧
    (s.reevaluate).engine.faulted = s.engine.faulted ∧
    (s.reevaluate).engine.phaseDeadline = s.engine.phaseDeadline ∧
    (s.reevaluate).engine.readDeadline = s.engine.readDeadline ∧
    (s.reevaluate).engine.commands = s.engine.commands ∧ (s.reevaluate).sense = s.sense ∧
    (s.reevaluate).rx = s.rx ∧ (s.reevaluate).tx = s.tx := by
  unfold State.reevaluate; simp

@[simp] theorem State.adopt_frame (s : State) (f : ClockFields) (m : Moment) (offerFirst passFirst : Bool) :
    (s.adopt f m offerFirst passFirst).pending = s.pending ∧
    (s.adopt f m offerFirst passFirst).elapsed = s.elapsed ∧
    (s.adopt f m offerFirst passFirst).loader = s.loader ∧
    (s.adopt f m offerFirst passFirst).planner.voltage = s.planner.voltage ∧
    (s.adopt f m offerFirst passFirst).planner.available = s.planner.available ∧
    (s.adopt f m offerFirst passFirst).planner.parkThreshold = s.planner.parkThreshold ∧
    (s.adopt f m offerFirst passFirst).planner.leanThreshold = s.planner.leanThreshold ∧
    (s.adopt f m offerFirst passFirst).planner.energy = s.planner.energy ∧
    (s.adopt f m offerFirst passFirst).planner.boardParked = s.planner.boardParked ∧
    (s.adopt f m offerFirst passFirst).planner.sweep = s.planner.sweep ∧
    (s.adopt f m offerFirst passFirst).engine.freshHold = s.engine.freshHold ∧
    (s.adopt f m offerFirst passFirst).engine.faults = s.engine.faults ∧
    (s.adopt f m offerFirst passFirst).engine.faulted = s.engine.faulted ∧
    (s.adopt f m offerFirst passFirst).sense = s.sense ∧
    (s.adopt f m offerFirst passFirst).rx.lastCharacter = s.rx.lastCharacter ∧
    (s.adopt f m offerFirst passFirst).rx.queue = s.rx.queue ∧
    (s.adopt f m offerFirst passFirst).rx.mode = s.rx.mode ∧
    (s.adopt f m offerFirst passFirst).rx.quietTimer = s.rx.quietTimer ∧
    (s.adopt f m offerFirst passFirst).rx.sniffTimer = s.rx.sniffTimer := by
  unfold State.adopt; simp

@[simp] theorem State.takeClock_frame (s : State) (f : ClockFields) (stamp : Nat) (offerFirst passFirst : Bool) :
    (s.takeClock f stamp offerFirst passFirst).pending = s.pending ∧
    (s.takeClock f stamp offerFirst passFirst).elapsed = s.elapsed ∧
    (s.takeClock f stamp offerFirst passFirst).loader = s.loader ∧
    (s.takeClock f stamp offerFirst passFirst).planner.voltage = s.planner.voltage ∧
    (s.takeClock f stamp offerFirst passFirst).planner.available = s.planner.available ∧
    (s.takeClock f stamp offerFirst passFirst).planner.parkThreshold = s.planner.parkThreshold ∧
    (s.takeClock f stamp offerFirst passFirst).planner.leanThreshold = s.planner.leanThreshold ∧
    (s.takeClock f stamp offerFirst passFirst).planner.energy = s.planner.energy ∧
    (s.takeClock f stamp offerFirst passFirst).planner.boardParked = s.planner.boardParked ∧
    (s.takeClock f stamp offerFirst passFirst).planner.sweep = s.planner.sweep ∧
    (s.takeClock f stamp offerFirst passFirst).engine.freshHold = s.engine.freshHold ∧
    (s.takeClock f stamp offerFirst passFirst).engine.faults = s.engine.faults ∧
    (s.takeClock f stamp offerFirst passFirst).engine.faulted = s.engine.faulted ∧
    (s.takeClock f stamp offerFirst passFirst).sense = s.sense ∧
    (s.takeClock f stamp offerFirst passFirst).rx.lastCharacter = s.rx.lastCharacter ∧
    (s.takeClock f stamp offerFirst passFirst).rx.queue = s.rx.queue ∧
    (s.takeClock f stamp offerFirst passFirst).rx.mode = s.rx.mode ∧
    (s.takeClock f stamp offerFirst passFirst).rx.quietTimer = s.rx.quietTimer ∧
    (s.takeClock f stamp offerFirst passFirst).rx.sniffTimer = s.rx.sniffTimer := by
  unfold State.takeClock; dsimp only; (repeat' split) <;> simp

@[simp] theorem State.tickSecond_frame (s : State) :
    (s.tickSecond).pending = s.pending ∧ (s.tickSecond).loader = s.loader ∧
    (s.tickSecond).clock.timeValid = s.clock.timeValid ∧ (s.tickSecond).clock.day = s.clock.day ∧
    (s.tickSecond).clock.stratum = s.clock.stratum ∧
    (s.tickSecond).clock.lastAdoption = s.clock.lastAdoption ∧
    (s.tickSecond).clock.agingTimer = s.clock.agingTimer ∧
    (s.tickSecond).clock.beaconTimer = s.clock.beaconTimer ∧ (s.tickSecond).sheets = s.sheets ∧
    (s.tickSecond).table = s.table ∧ (s.tickSecond).board = s.board ∧ (s.tickSecond).planner = s.planner ∧
    (s.tickSecond).engine = s.engine ∧ (s.tickSecond).sense = s.sense ∧ (s.tickSecond).rx = s.rx ∧
    (s.tickSecond).tx = s.tx ∧ (s.tickSecond).counters = s.counters := by
  unfold State.tickSecond; simp

@[simp] theorem State.rollIfDue_frame (s : State) :
    (s.rollIfDue).pending = s.pending ∧ (s.rollIfDue).elapsed = s.elapsed ∧ (s.rollIfDue).loader = s.loader ∧
    (s.rollIfDue).clock.timeValid = s.clock.timeValid ∧ (s.rollIfDue).clock.phase = s.clock.phase ∧
    (s.rollIfDue).clock.stratum = s.clock.stratum ∧ (s.rollIfDue).clock.lastAdoption = s.clock.lastAdoption ∧
    (s.rollIfDue).clock.agingTimer = s.clock.agingTimer ∧
    (s.rollIfDue).clock.beaconTimer = s.clock.beaconTimer ∧
    (s.rollIfDue).sheets.offerTimer = s.sheets.offerTimer ∧ (s.rollIfDue).table.rebuild = s.table.rebuild ∧
    (s.rollIfDue).table.passOwed = s.table.passOwed ∧ (s.rollIfDue).board = s.board ∧
    (s.rollIfDue).planner = s.planner ∧ (s.rollIfDue).engine = s.engine ∧ (s.rollIfDue).sense = s.sense ∧
    (s.rollIfDue).rx = s.rx ∧ (s.rollIfDue).tx = s.tx := by
  unfold State.rollIfDue; (repeat' split) <;> simp

@[simp] theorem State.tableTick_frame (s : State) :
    (s.tableTick).pending = s.pending ∧ (s.tableTick).elapsed = s.elapsed ∧ (s.tableTick).loader = s.loader ∧
    (s.tableTick).clock = s.clock ∧ (s.tableTick).sheets = s.sheets ∧
    (s.tableTick).table.marks = s.table.marks ∧ (s.tableTick).table.rebuild = s.table.rebuild ∧
    (s.tableTick).table.passOwed = s.table.passOwed ∧ (s.tableTick).board = s.board ∧
    (s.tableTick).planner = s.planner ∧ (s.tableTick).engine = s.engine ∧ (s.tableTick).sense = s.sense ∧
    (s.tableTick).rx = s.rx := by
  unfold State.tableTick; (repeat' split) <;> simp

@[simp] theorem State.tableMinute_frame (s : State) :
    (s.tableMinute).pending = s.pending ∧ (s.tableMinute).elapsed = s.elapsed ∧
    (s.tableMinute).loader = s.loader ∧ (s.tableMinute).clock = s.clock ∧ (s.tableMinute).sheets = s.sheets ∧
    (s.tableMinute).table.rebuild = s.table.rebuild ∧ (s.tableMinute).board = s.board ∧
    (s.tableMinute).planner = s.planner ∧ (s.tableMinute).engine = s.engine ∧
    (s.tableMinute).sense = s.sense ∧ (s.tableMinute).rx = s.rx ∧ (s.tableMinute).tx = s.tx := by
  unfold State.tableMinute; (repeat' split) <;> simp

@[simp] theorem State.tableSecond_frame (s : State) (pass : PassPlace) :
    (s.tableSecond pass).pending = s.pending ∧ (s.tableSecond pass).elapsed = s.elapsed ∧
    (s.tableSecond pass).loader = s.loader ∧ (s.tableSecond pass).clock = s.clock ∧
    (s.tableSecond pass).sheets = s.sheets ∧ (s.tableSecond pass).table.rebuild = s.table.rebuild ∧
    (s.tableSecond pass).board = s.board ∧ (s.tableSecond pass).planner = s.planner ∧
    (s.tableSecond pass).engine = s.engine ∧ (s.tableSecond pass).sense = s.sense ∧
    (s.tableSecond pass).rx = s.rx := by
  unfold State.tableSecond; (repeat' split) <;> simp

@[simp] theorem State.noticeTick_frame (s : State) :
    (s.noticeTick).pending = s.pending ∧ (s.noticeTick).elapsed = s.elapsed ∧
    (s.noticeTick).loader = s.loader ∧ (s.noticeTick).clock = s.clock ∧ (s.noticeTick).sheets = s.sheets ∧
    (s.noticeTick).table = s.table ∧ (s.noticeTick).planner = s.planner ∧ (s.noticeTick).engine = s.engine ∧
    (s.noticeTick).sense = s.sense ∧ (s.noticeTick).rx = s.rx ∧ (s.noticeTick).tx = s.tx := by
  unfold State.noticeTick; (repeat' split) <;> simp

@[simp] theorem State.composeAfter_frame (s : State) (before : List Entry) (tick : Bool) :
    (s.composeAfter before tick).pending = s.pending ∧ (s.composeAfter before tick).elapsed = s.elapsed ∧
    (s.composeAfter before tick).loader = s.loader ∧ (s.composeAfter before tick).clock = s.clock ∧
    (s.composeAfter before tick).sheets = s.sheets ∧ (s.composeAfter before tick).table = s.table ∧
    (s.composeAfter before tick).board.notices = s.board.notices ∧
    (s.composeAfter before tick).board.current = s.board.current ∧
    (s.composeAfter before tick).board.shownSince = s.board.shownSince ∧
    (s.composeAfter before tick).planner.voltage = s.planner.voltage ∧
    (s.composeAfter before tick).planner.available = s.planner.available ∧
    (s.composeAfter before tick).planner.parkThreshold = s.planner.parkThreshold ∧
    (s.composeAfter before tick).planner.leanThreshold = s.planner.leanThreshold ∧
    (s.composeAfter before tick).planner.energy = s.planner.energy ∧
    (s.composeAfter before tick).planner.boardParked = s.planner.boardParked ∧
    (s.composeAfter before tick).planner.sweep = s.planner.sweep ∧
    (s.composeAfter before tick).engine.port = s.engine.port ∧
    (s.composeAfter before tick).engine.readRequest = s.engine.readRequest ∧
    (s.composeAfter before tick).engine.freshHold = s.engine.freshHold ∧
    (s.composeAfter before tick).engine.faults = s.engine.faults ∧
    (s.composeAfter before tick).engine.faulted = s.engine.faulted ∧
    (s.composeAfter before tick).engine.phaseDeadline = s.engine.phaseDeadline ∧
    (s.composeAfter before tick).engine.readDeadline = s.engine.readDeadline ∧
    (s.composeAfter before tick).engine.commands = s.engine.commands ∧
    (s.composeAfter before tick).sense = s.sense ∧ (s.composeAfter before tick).rx = s.rx ∧
    (s.composeAfter before tick).tx = s.tx := by
  unfold State.composeAfter; (repeat' split) <;> simp

@[simp] theorem State.sweepIfDue_frame (s : State) (order : SweepOrder) :
    (s.sweepIfDue order).pending = s.pending ∧ (s.sweepIfDue order).elapsed = s.elapsed ∧
    (s.sweepIfDue order).loader = s.loader ∧ (s.sweepIfDue order).clock = s.clock ∧
    (s.sweepIfDue order).sheets = s.sheets ∧ (s.sweepIfDue order).table = s.table ∧
    (s.sweepIfDue order).board = s.board ∧
    (s.sweepIfDue order).planner.voltage = s.planner.voltage ∧
    (s.sweepIfDue order).planner.available = s.planner.available ∧
    (s.sweepIfDue order).planner.parkThreshold = s.planner.parkThreshold ∧
    (s.sweepIfDue order).planner.leanThreshold = s.planner.leanThreshold ∧
    (s.sweepIfDue order).planner.energy = s.planner.energy ∧
    (s.sweepIfDue order).planner.boardParked = s.planner.boardParked ∧
    (s.sweepIfDue order).engine.port = s.engine.port ∧
    (s.sweepIfDue order).engine.readRequest = s.engine.readRequest ∧
    (s.sweepIfDue order).engine.freshHold = s.engine.freshHold ∧
    (s.sweepIfDue order).engine.phaseDeadline = s.engine.phaseDeadline ∧
    (s.sweepIfDue order).engine.readDeadline = s.engine.readDeadline ∧
    (s.sweepIfDue order).engine.commands = s.engine.commands ∧
    (s.sweepIfDue order).sense = s.sense ∧ (s.sweepIfDue order).rx = s.rx ∧
    (s.sweepIfDue order).tx = s.tx := by
  unfold State.sweepIfDue; (repeat' split) <;> simp

@[simp] theorem State.composeAndSweep_frame (s : State) (before : List Entry) (tick sweepFirst : Bool) (order : SweepOrder) :
    (s.composeAndSweep before tick sweepFirst order).pending = s.pending ∧
    (s.composeAndSweep before tick sweepFirst order).elapsed = s.elapsed ∧
    (s.composeAndSweep before tick sweepFirst order).loader = s.loader ∧
    (s.composeAndSweep before tick sweepFirst order).clock = s.clock ∧
    (s.composeAndSweep before tick sweepFirst order).sheets = s.sheets ∧
    (s.composeAndSweep before tick sweepFirst order).table = s.table ∧
    (s.composeAndSweep before tick sweepFirst order).board.notices = s.board.notices ∧
    (s.composeAndSweep before tick sweepFirst order).board.current = s.board.current ∧
    (s.composeAndSweep before tick sweepFirst order).board.shownSince = s.board.shownSince ∧
    (s.composeAndSweep before tick sweepFirst order).planner.voltage = s.planner.voltage ∧
    (s.composeAndSweep before tick sweepFirst order).planner.available = s.planner.available ∧
    (s.composeAndSweep before tick sweepFirst order).planner.parkThreshold = s.planner.parkThreshold ∧
    (s.composeAndSweep before tick sweepFirst order).planner.leanThreshold = s.planner.leanThreshold ∧
    (s.composeAndSweep before tick sweepFirst order).planner.energy = s.planner.energy ∧
    (s.composeAndSweep before tick sweepFirst order).planner.boardParked = s.planner.boardParked ∧
    (s.composeAndSweep before tick sweepFirst order).engine.port = s.engine.port ∧
    (s.composeAndSweep before tick sweepFirst order).engine.readRequest = s.engine.readRequest ∧
    (s.composeAndSweep before tick sweepFirst order).engine.freshHold = s.engine.freshHold ∧
    (s.composeAndSweep before tick sweepFirst order).engine.phaseDeadline = s.engine.phaseDeadline ∧
    (s.composeAndSweep before tick sweepFirst order).engine.readDeadline = s.engine.readDeadline ∧
    (s.composeAndSweep before tick sweepFirst order).engine.commands = s.engine.commands ∧
    (s.composeAndSweep before tick sweepFirst order).sense = s.sense ∧
    (s.composeAndSweep before tick sweepFirst order).rx = s.rx ∧
    (s.composeAndSweep before tick sweepFirst order).tx = s.tx := by
  unfold State.composeAndSweep; (repeat' split) <;> simp

@[simp] theorem State.countSecond_frame (s : State) (pass : PassPlace) (sweepFirst : Bool) (order : SweepOrder) :
    (s.countSecond pass sweepFirst order).pending = s.pending ∧
    (s.countSecond pass sweepFirst order).loader = s.loader ∧
    (s.countSecond pass sweepFirst order).clock.timeValid = s.clock.timeValid ∧
    (s.countSecond pass sweepFirst order).clock.stratum = s.clock.stratum ∧
    (s.countSecond pass sweepFirst order).clock.lastAdoption = s.clock.lastAdoption ∧
    (s.countSecond pass sweepFirst order).clock.agingTimer = s.clock.agingTimer ∧
    (s.countSecond pass sweepFirst order).clock.beaconTimer = s.clock.beaconTimer ∧
    (s.countSecond pass sweepFirst order).sheets.offerTimer = s.sheets.offerTimer ∧
    (s.countSecond pass sweepFirst order).table.rebuild = s.table.rebuild ∧
    (s.countSecond pass sweepFirst order).planner.voltage = s.planner.voltage ∧
    (s.countSecond pass sweepFirst order).planner.available = s.planner.available ∧
    (s.countSecond pass sweepFirst order).planner.parkThreshold = s.planner.parkThreshold ∧
    (s.countSecond pass sweepFirst order).planner.leanThreshold = s.planner.leanThreshold ∧
    (s.countSecond pass sweepFirst order).planner.energy = s.planner.energy ∧
    (s.countSecond pass sweepFirst order).planner.boardParked = s.planner.boardParked ∧
    (s.countSecond pass sweepFirst order).engine.freshHold = s.engine.freshHold ∧
    (s.countSecond pass sweepFirst order).sense = s.sense ∧
    (s.countSecond pass sweepFirst order).rx.lastCharacter = s.rx.lastCharacter ∧
    (s.countSecond pass sweepFirst order).rx.queue = s.rx.queue ∧
    (s.countSecond pass sweepFirst order).rx.mode = s.rx.mode ∧
    (s.countSecond pass sweepFirst order).rx.quietTimer = s.rx.quietTimer ∧
    (s.countSecond pass sweepFirst order).rx.sniffTimer = s.rx.sniffTimer := by
  unfold State.countSecond; simp

@[simp] theorem State.ageStratum_frame (s : State) :
    (s.ageStratum).pending = s.pending ∧ (s.ageStratum).elapsed = s.elapsed ∧
    (s.ageStratum).loader = s.loader ∧ (s.ageStratum).clock.timeValid = s.clock.timeValid ∧
    (s.ageStratum).clock.day = s.clock.day ∧ (s.ageStratum).clock.second = s.clock.second ∧
    (s.ageStratum).clock.phase = s.clock.phase ∧ (s.ageStratum).clock.lastAdoption = s.clock.lastAdoption ∧
    (s.ageStratum).clock.beaconTimer = s.clock.beaconTimer ∧ (s.ageStratum).sheets = s.sheets ∧
    (s.ageStratum).table = s.table ∧ (s.ageStratum).board = s.board ∧ (s.ageStratum).planner = s.planner ∧
    (s.ageStratum).engine = s.engine ∧ (s.ageStratum).sense = s.sense ∧ (s.ageStratum).rx = s.rx ∧
    (s.ageStratum).tx = s.tx := by
  unfold State.ageStratum; simp

@[simp] theorem State.beaconPlace_frame (s : State) :
    (s.beaconPlace).pending = s.pending ∧ (s.beaconPlace).elapsed = s.elapsed ∧
    (s.beaconPlace).loader = s.loader ∧ (s.beaconPlace).clock = s.clock ∧ (s.beaconPlace).sheets = s.sheets ∧
    (s.beaconPlace).table = s.table ∧ (s.beaconPlace).board = s.board ∧ (s.beaconPlace).planner = s.planner ∧
    (s.beaconPlace).engine = s.engine ∧ (s.beaconPlace).sense = s.sense ∧
    (s.beaconPlace).rx.lastCharacter = s.rx.lastCharacter ∧ (s.beaconPlace).rx.queue = s.rx.queue ∧
    (s.beaconPlace).rx.mode = s.rx.mode ∧ (s.beaconPlace).rx.quietTimer = s.rx.quietTimer ∧
    (s.beaconPlace).rx.sniffTimer = s.rx.sniffTimer ∧ (s.beaconPlace).tx.reply = s.tx.reply ∧
    (s.beaconPlace).tx.offerWaiting = s.tx.offerWaiting ∧ (s.beaconPlace).tx.lfsr = s.tx.lfsr ∧
    (s.beaconPlace).tx.line = s.tx.line := by
  unfold State.beaconPlace; (repeat' split) <;> simp

@[simp] theorem State.takeBand_frame (s : State) (u : Sense) :
    (s.takeBand u).pending = s.pending ∧ (s.takeBand u).elapsed = s.elapsed ∧
    (s.takeBand u).loader = s.loader ∧ (s.takeBand u).clock = s.clock ∧ (s.takeBand u).sheets = s.sheets ∧
    (s.takeBand u).table = s.table ∧ (s.takeBand u).board = s.board ∧
    (s.takeBand u).planner.voltage = s.planner.voltage ∧
    (s.takeBand u).planner.available = s.planner.available ∧
    (s.takeBand u).planner.parkThreshold = s.planner.parkThreshold ∧
    (s.takeBand u).planner.leanThreshold = s.planner.leanThreshold ∧
    (s.takeBand u).planner.energy = s.planner.energy ∧
    (s.takeBand u).planner.boardParked = s.planner.boardParked ∧
    (s.takeBand u).planner.sweep = s.planner.sweep ∧ (s.takeBand u).engine.port = s.engine.port ∧
    (s.takeBand u).engine.readRequest = s.engine.readRequest ∧
    (s.takeBand u).engine.freshHold = s.engine.freshHold ∧ (s.takeBand u).engine.faults = s.engine.faults ∧
    (s.takeBand u).engine.faulted = s.engine.faulted ∧
    (s.takeBand u).engine.phaseDeadline = s.engine.phaseDeadline ∧
    (s.takeBand u).engine.readDeadline = s.engine.readDeadline ∧
    (s.takeBand u).engine.commands = s.engine.commands ∧ (s.takeBand u).rx = s.rx ∧ (s.takeBand u).tx = s.tx := by
  unfold State.takeBand; (repeat' split) <;> simp

@[simp] theorem State.readSucceeded_frame (s : State) (v : Int) :
    (s.readSucceeded v).pending = s.pending ∧ (s.readSucceeded v).elapsed = s.elapsed ∧
    (s.readSucceeded v).loader = s.loader ∧ (s.readSucceeded v).clock = s.clock ∧
    (s.readSucceeded v).sheets = s.sheets ∧ (s.readSucceeded v).table = s.table ∧
    (s.readSucceeded v).board = s.board ∧ (s.readSucceeded v).planner.voltage = s.planner.voltage ∧
    (s.readSucceeded v).planner.available = s.planner.available ∧
    (s.readSucceeded v).planner.parkThreshold = s.planner.parkThreshold ∧
    (s.readSucceeded v).planner.leanThreshold = s.planner.leanThreshold ∧
    (s.readSucceeded v).planner.energy = s.planner.energy ∧
    (s.readSucceeded v).planner.boardParked = s.planner.boardParked ∧
    (s.readSucceeded v).planner.sweep = s.planner.sweep ∧ (s.readSucceeded v).engine.port = s.engine.port ∧
    (s.readSucceeded v).engine.readRequest = s.engine.readRequest ∧
    (s.readSucceeded v).engine.faults = s.engine.faults ∧
    (s.readSucceeded v).engine.faulted = s.engine.faulted ∧
    (s.readSucceeded v).engine.phaseDeadline = s.engine.phaseDeadline ∧
    (s.readSucceeded v).engine.readDeadline = s.engine.readDeadline ∧
    (s.readSucceeded v).engine.commands = s.engine.commands ∧ (s.readSucceeded v).rx = s.rx ∧
    (s.readSucceeded v).tx = s.tx := by
  unfold State.readSucceeded; simp

@[simp] theorem State.readFailed_frame (s : State) :
    (s.readFailed).pending = s.pending ∧ (s.readFailed).elapsed = s.elapsed ∧
    (s.readFailed).loader = s.loader ∧ (s.readFailed).clock = s.clock ∧ (s.readFailed).sheets = s.sheets ∧
    (s.readFailed).table = s.table ∧ (s.readFailed).board = s.board ∧
    (s.readFailed).planner.voltage = s.planner.voltage ∧
    (s.readFailed).planner.available = s.planner.available ∧
    (s.readFailed).planner.parkThreshold = s.planner.parkThreshold ∧
    (s.readFailed).planner.leanThreshold = s.planner.leanThreshold ∧
    (s.readFailed).planner.energy = s.planner.energy ∧
    (s.readFailed).planner.boardParked = s.planner.boardParked ∧
    (s.readFailed).planner.sweep = s.planner.sweep ∧ (s.readFailed).engine.port = s.engine.port ∧
    (s.readFailed).engine.readRequest = s.engine.readRequest ∧
    (s.readFailed).engine.freshHold = s.engine.freshHold ∧ (s.readFailed).engine.faults = s.engine.faults ∧
    (s.readFailed).engine.faulted = s.engine.faulted ∧
    (s.readFailed).engine.phaseDeadline = s.engine.phaseDeadline ∧
    (s.readFailed).engine.readDeadline = s.engine.readDeadline ∧
    (s.readFailed).engine.commands = s.engine.commands ∧ (s.readFailed).rx = s.rx ∧ (s.readFailed).tx = s.tx := by
  unfold State.readFailed; simp

@[simp] theorem State.setMode_frame (s : State) (e : Energy) :
    (s.setMode e).pending = s.pending ∧ (s.setMode e).elapsed = s.elapsed ∧ (s.setMode e).loader = s.loader ∧
    (s.setMode e).clock = s.clock ∧ (s.setMode e).sheets = s.sheets ∧ (s.setMode e).table = s.table ∧
    (s.setMode e).board = s.board ∧ (s.setMode e).planner = s.planner ∧ (s.setMode e).engine = s.engine ∧
    (s.setMode e).sense = s.sense ∧ (s.setMode e).rx.state = s.rx.state ∧
    (s.setMode e).rx.buffer = s.rx.buffer ∧ (s.setMode e).rx.lastCharacter = s.rx.lastCharacter ∧
    (s.setMode e).rx.queue = s.rx.queue ∧ (s.setMode e).rx.radio = s.rx.radio ∧ (s.setMode e).tx = s.tx ∧
    (s.setMode e).counters = s.counters := by
  unfold State.setMode; (repeat' split) <;> simp

@[simp] theorem State.dormantEdge_frame (s : State) (before : Energy) :
    (s.dormantEdge before).pending = s.pending ∧ (s.dormantEdge before).elapsed = s.elapsed ∧
    (s.dormantEdge before).loader = s.loader ∧ (s.dormantEdge before).clock = s.clock ∧
    (s.dormantEdge before).sheets = s.sheets ∧ (s.dormantEdge before).table = s.table ∧
    (s.dormantEdge before).board = s.board ∧ (s.dormantEdge before).planner.voltage = s.planner.voltage ∧
    (s.dormantEdge before).planner.available = s.planner.available ∧
    (s.dormantEdge before).planner.parkThreshold = s.planner.parkThreshold ∧
    (s.dormantEdge before).planner.leanThreshold = s.planner.leanThreshold ∧
    (s.dormantEdge before).planner.energy = s.planner.energy ∧
    (s.dormantEdge before).planner.boardParked = s.planner.boardParked ∧
    (s.dormantEdge before).planner.staged = s.planner.staged ∧
    (s.dormantEdge before).planner.sweep = s.planner.sweep ∧
    (s.dormantEdge before).planner.nextJob = s.planner.nextJob ∧
    (s.dormantEdge before).planner.hold = s.planner.hold ∧
    (s.dormantEdge before).engine.lines = s.engine.lines ∧
    (s.dormantEdge before).engine.active = s.engine.active ∧
    (s.dormantEdge before).engine.port = s.engine.port ∧
    (s.dormantEdge before).engine.suspendedAt = s.engine.suspendedAt ∧
    (s.dormantEdge before).engine.faults = s.engine.faults ∧
    (s.dormantEdge before).engine.faulted = s.engine.faulted ∧
    (s.dormantEdge before).engine.phaseDeadline = s.engine.phaseDeadline ∧
    (s.dormantEdge before).engine.readDeadline = s.engine.readDeadline ∧
    (s.dormantEdge before).engine.commands = s.engine.commands ∧ (s.dormantEdge before).sense = s.sense ∧
    (s.dormantEdge before).rx = s.rx ∧ (s.dormantEdge before).tx = s.tx ∧
    (s.dormantEdge before).counters = s.counters := by
  unfold State.dormantEdge; (repeat' split) <;> simp

@[simp] theorem State.energyChanged_frame (s : State) (before : Energy) :
    (s.energyChanged before).pending = s.pending ∧ (s.energyChanged before).elapsed = s.elapsed ∧
    (s.energyChanged before).loader = s.loader ∧ (s.energyChanged before).clock = s.clock ∧
    (s.energyChanged before).sheets = s.sheets ∧ (s.energyChanged before).table = s.table ∧
    (s.energyChanged before).board.notices = s.board.notices ∧
    (s.energyChanged before).board.current = s.board.current ∧
    (s.energyChanged before).board.shownSince = s.board.shownSince ∧
    (s.energyChanged before).planner.voltage = s.planner.voltage ∧
    (s.energyChanged before).planner.available = s.planner.available ∧
    (s.energyChanged before).planner.parkThreshold = s.planner.parkThreshold ∧
    (s.energyChanged before).planner.leanThreshold = s.planner.leanThreshold ∧
    (s.energyChanged before).planner.energy = s.planner.energy ∧
    (s.energyChanged before).planner.boardParked = s.planner.boardParked ∧
    (s.energyChanged before).planner.sweep = s.planner.sweep ∧
    (s.energyChanged before).planner.nextJob = s.planner.nextJob ∧
    (s.energyChanged before).planner.hold = s.planner.hold ∧
    (s.energyChanged before).engine.active = s.engine.active ∧
    (s.energyChanged before).engine.port = s.engine.port ∧
    (s.energyChanged before).engine.suspendedAt = s.engine.suspendedAt ∧
    (s.energyChanged before).engine.faults = s.engine.faults ∧
    (s.energyChanged before).engine.faulted = s.engine.faulted ∧
    (s.energyChanged before).engine.phaseDeadline = s.engine.phaseDeadline ∧
    (s.energyChanged before).engine.readDeadline = s.engine.readDeadline ∧
    (s.energyChanged before).engine.commands = s.engine.commands ∧ (s.energyChanged before).sense = s.sense ∧
    (s.energyChanged before).rx.state = s.rx.state ∧ (s.energyChanged before).rx.buffer = s.rx.buffer ∧
    (s.energyChanged before).rx.lastCharacter = s.rx.lastCharacter ∧
    (s.energyChanged before).rx.queue = s.rx.queue ∧ (s.energyChanged before).rx.radio = s.rx.radio ∧
    (s.energyChanged before).tx = s.tx := by
  unfold State.energyChanged; simp

@[simp] theorem State.handOnEnergy_frame (s : State) (before : Energy) (firstScan : Bool) :
    (s.handOnEnergy before firstScan).pending = s.pending ∧
    (s.handOnEnergy before firstScan).elapsed = s.elapsed ∧
    (s.handOnEnergy before firstScan).loader = s.loader ∧ (s.handOnEnergy before firstScan).clock = s.clock ∧
    (s.handOnEnergy before firstScan).sheets = s.sheets ∧ (s.handOnEnergy before firstScan).table = s.table ∧
    (s.handOnEnergy before firstScan).board.notices = s.board.notices ∧
    (s.handOnEnergy before firstScan).board.current = s.board.current ∧
    (s.handOnEnergy before firstScan).board.shownSince = s.board.shownSince ∧
    (s.handOnEnergy before firstScan).planner.voltage = s.planner.voltage ∧
    (s.handOnEnergy before firstScan).planner.available = s.planner.available ∧
    (s.handOnEnergy before firstScan).planner.parkThreshold = s.planner.parkThreshold ∧
    (s.handOnEnergy before firstScan).planner.leanThreshold = s.planner.leanThreshold ∧
    (s.handOnEnergy before firstScan).planner.energy = s.planner.energy ∧
    (s.handOnEnergy before firstScan).planner.boardParked = s.planner.boardParked ∧
    (s.handOnEnergy before firstScan).planner.sweep = s.planner.sweep ∧
    (s.handOnEnergy before firstScan).planner.nextJob = s.planner.nextJob ∧
    (s.handOnEnergy before firstScan).planner.hold = s.planner.hold ∧
    (s.handOnEnergy before firstScan).engine.active = s.engine.active ∧
    (s.handOnEnergy before firstScan).engine.port = s.engine.port ∧
    (s.handOnEnergy before firstScan).engine.suspendedAt = s.engine.suspendedAt ∧
    (s.handOnEnergy before firstScan).engine.faults = s.engine.faults ∧
    (s.handOnEnergy before firstScan).engine.faulted = s.engine.faulted ∧
    (s.handOnEnergy before firstScan).engine.phaseDeadline = s.engine.phaseDeadline ∧
    (s.handOnEnergy before firstScan).engine.readDeadline = s.engine.readDeadline ∧
    (s.handOnEnergy before firstScan).engine.commands = s.engine.commands ∧
    (s.handOnEnergy before firstScan).sense = s.sense ∧
    (s.handOnEnergy before firstScan).rx.state = s.rx.state ∧
    (s.handOnEnergy before firstScan).rx.buffer = s.rx.buffer ∧
    (s.handOnEnergy before firstScan).rx.lastCharacter = s.rx.lastCharacter ∧
    (s.handOnEnergy before firstScan).rx.queue = s.rx.queue ∧
    (s.handOnEnergy before firstScan).rx.radio = s.rx.radio ∧ (s.handOnEnergy before firstScan).tx = s.tx := by
  unfold State.handOnEnergy; (repeat' split) <;> simp

@[simp] theorem State.scanJobs_frame (s : State) :
    (s.scanJobs).pending = s.pending ∧ (s.scanJobs).elapsed = s.elapsed ∧ (s.scanJobs).loader = s.loader ∧
    (s.scanJobs).clock = s.clock ∧ (s.scanJobs).sheets = s.sheets ∧ (s.scanJobs).table = s.table ∧
    (s.scanJobs).board = s.board ∧ (s.scanJobs).planner.voltage = s.planner.voltage ∧
    (s.scanJobs).planner.available = s.planner.available ∧
    (s.scanJobs).planner.parkThreshold = s.planner.parkThreshold ∧
    (s.scanJobs).planner.leanThreshold = s.planner.leanThreshold ∧
    (s.scanJobs).planner.energy = s.planner.energy ∧
    (s.scanJobs).planner.boardParked = s.planner.boardParked ∧ (s.scanJobs).planner.sweep = s.planner.sweep ∧
    (s.scanJobs).engine.port = s.engine.port ∧ (s.scanJobs).engine.readRequest = s.engine.readRequest ∧
    (s.scanJobs).engine.freshHold = s.engine.freshHold ∧ (s.scanJobs).engine.faults = s.engine.faults ∧
    (s.scanJobs).engine.faulted = s.engine.faulted ∧
    (s.scanJobs).engine.phaseDeadline = s.engine.phaseDeadline ∧
    (s.scanJobs).engine.readDeadline = s.engine.readDeadline ∧
    (s.scanJobs).engine.commands = s.engine.commands ∧ (s.scanJobs).sense = s.sense ∧ (s.scanJobs).rx = s.rx ∧
    (s.scanJobs).tx = s.tx := by
  unfold State.scanJobs; simp

@[simp] theorem State.takeVoltage_frame (s : State) (counts : BitVec 12) :
    (s.takeVoltage counts).pending = s.pending ∧ (s.takeVoltage counts).elapsed = s.elapsed ∧
    (s.takeVoltage counts).loader = s.loader ∧ (s.takeVoltage counts).clock = s.clock ∧
    (s.takeVoltage counts).sheets = s.sheets ∧ (s.takeVoltage counts).table = s.table ∧
    (s.takeVoltage counts).board = s.board ∧ (s.takeVoltage counts).planner = s.planner ∧
    (s.takeVoltage counts).engine = s.engine ∧ (s.takeVoltage counts).sense.storeLow = s.sense.storeLow ∧
    (s.takeVoltage counts).sense.temperature = s.sense.temperature ∧
    (s.takeVoltage counts).sense.band = s.sense.band ∧
    (s.takeVoltage counts).sense.failures = s.sense.failures ∧
    (s.takeVoltage counts).sense.scanTimer = s.sense.scanTimer ∧
    (s.takeVoltage counts).sense.temperatureTimer = s.sense.temperatureTimer ∧
    (s.takeVoltage counts).rx = s.rx ∧ (s.takeVoltage counts).tx = s.tx := by
  unfold State.takeVoltage; simp

@[simp] theorem State.arbitrateOnChange_frame (s : State) (before : Energy) :
    (s.arbitrateOnChange before).pending = s.pending ∧ (s.arbitrateOnChange before).elapsed = s.elapsed ∧
    (s.arbitrateOnChange before).loader = s.loader ∧ (s.arbitrateOnChange before).clock = s.clock ∧
    (s.arbitrateOnChange before).sheets = s.sheets ∧ (s.arbitrateOnChange before).table = s.table ∧
    (s.arbitrateOnChange before).board = s.board ∧ (s.arbitrateOnChange before).planner = s.planner ∧
    (s.arbitrateOnChange before).engine = s.engine ∧ (s.arbitrateOnChange before).sense = s.sense ∧
    (s.arbitrateOnChange before).rx = s.rx ∧ (s.arbitrateOnChange before).tx.reply = s.tx.reply ∧
    (s.arbitrateOnChange before).tx.clockWaiting = s.tx.clockWaiting ∧
    (s.arbitrateOnChange before).tx.offerWaiting = s.tx.offerWaiting ∧
    (s.arbitrateOnChange before).tx.lfsr = s.tx.lfsr ∧ (s.arbitrateOnChange before).tx.line = s.tx.line ∧
    (s.arbitrateOnChange before).counters = s.counters := by
  unfold State.arbitrateOnChange; (repeat' split) <;> simp

@[simp] theorem State.completeScan_frame (s : State) (counts : BitVec 12) :
    (s.completeScan counts).pending = s.pending ∧ (s.completeScan counts).elapsed = s.elapsed ∧
    (s.completeScan counts).loader = s.loader ∧ (s.completeScan counts).clock = s.clock ∧
    (s.completeScan counts).sheets = s.sheets ∧ (s.completeScan counts).table = s.table ∧
    (s.completeScan counts).board.notices = s.board.notices ∧
    (s.completeScan counts).board.current = s.board.current ∧
    (s.completeScan counts).board.shownSince = s.board.shownSince ∧
    (s.completeScan counts).planner.boardParked = s.planner.boardParked ∧
    (s.completeScan counts).planner.sweep = s.planner.sweep ∧
    (s.completeScan counts).engine.faults = s.engine.faults ∧
    (s.completeScan counts).engine.faulted = s.engine.faulted ∧
    (s.completeScan counts).sense.storeLow = s.sense.storeLow ∧
    (s.completeScan counts).sense.temperature = s.sense.temperature ∧
    (s.completeScan counts).sense.band = s.sense.band ∧
    (s.completeScan counts).sense.failures = s.sense.failures ∧
    (s.completeScan counts).sense.scanTimer = s.sense.scanTimer ∧
    (s.completeScan counts).sense.temperatureTimer = s.sense.temperatureTimer ∧
    (s.completeScan counts).rx.lastCharacter = s.rx.lastCharacter ∧
    (s.completeScan counts).rx.queue = s.rx.queue ∧ (s.completeScan counts).tx.reply = s.tx.reply ∧
    (s.completeScan counts).tx.clockWaiting = s.tx.clockWaiting ∧
    (s.completeScan counts).tx.offerWaiting = s.tx.offerWaiting ∧
    (s.completeScan counts).tx.lfsr = s.tx.lfsr ∧ (s.completeScan counts).tx.line = s.tx.line := by
  unfold State.completeScan; simp

@[simp] theorem State.stopAtRead_frame (s : State) :
    (s.stopAtRead).pending = s.pending ∧ (s.stopAtRead).elapsed = s.elapsed ∧
    (s.stopAtRead).loader = s.loader ∧ (s.stopAtRead).clock = s.clock ∧ (s.stopAtRead).sheets = s.sheets ∧
    (s.stopAtRead).table = s.table ∧ (s.stopAtRead).board = s.board ∧
    (s.stopAtRead).planner.voltage = s.planner.voltage ∧
    (s.stopAtRead).planner.available = s.planner.available ∧
    (s.stopAtRead).planner.parkThreshold = s.planner.parkThreshold ∧
    (s.stopAtRead).planner.leanThreshold = s.planner.leanThreshold ∧
    (s.stopAtRead).planner.energy = s.planner.energy ∧
    (s.stopAtRead).planner.boardParked = s.planner.boardParked ∧
    (s.stopAtRead).planner.sweep = s.planner.sweep ∧ (s.stopAtRead).engine.port = s.engine.port ∧
    (s.stopAtRead).engine.readRequest = s.engine.readRequest ∧
    (s.stopAtRead).engine.freshHold = s.engine.freshHold ∧ (s.stopAtRead).engine.faults = s.engine.faults ∧
    (s.stopAtRead).engine.faulted = s.engine.faulted ∧
    (s.stopAtRead).engine.phaseDeadline = s.engine.phaseDeadline ∧
    (s.stopAtRead).engine.readDeadline = s.engine.readDeadline ∧
    (s.stopAtRead).engine.commands = s.engine.commands ∧ (s.stopAtRead).sense = s.sense ∧
    (s.stopAtRead).rx = s.rx ∧ (s.stopAtRead).tx = s.tx := by
  unfold State.stopAtRead; (repeat' split) <;> simp

@[simp] theorem State.activateStoreLow_frame (s : State) :
    (s.activateStoreLow).pending = s.pending ∧ (s.activateStoreLow).elapsed = s.elapsed ∧
    (s.activateStoreLow).loader = s.loader ∧ (s.activateStoreLow).clock = s.clock ∧
    (s.activateStoreLow).sheets = s.sheets ∧ (s.activateStoreLow).table = s.table ∧
    (s.activateStoreLow).board = s.board ∧ (s.activateStoreLow).planner.voltage = s.planner.voltage ∧
    (s.activateStoreLow).planner.available = s.planner.available ∧
    (s.activateStoreLow).planner.parkThreshold = s.planner.parkThreshold ∧
    (s.activateStoreLow).planner.leanThreshold = s.planner.leanThreshold ∧
    (s.activateStoreLow).planner.energy = s.planner.energy ∧
    (s.activateStoreLow).planner.boardParked = s.planner.boardParked ∧
    (s.activateStoreLow).planner.sweep = s.planner.sweep ∧ (s.activateStoreLow).engine.port = s.engine.port ∧
    (s.activateStoreLow).engine.readRequest = s.engine.readRequest ∧
    (s.activateStoreLow).engine.freshHold = s.engine.freshHold ∧
    (s.activateStoreLow).engine.faults = s.engine.faults ∧
    (s.activateStoreLow).engine.faulted = s.engine.faulted ∧
    (s.activateStoreLow).engine.phaseDeadline = s.engine.phaseDeadline ∧
    (s.activateStoreLow).engine.readDeadline = s.engine.readDeadline ∧
    (s.activateStoreLow).engine.commands = s.engine.commands ∧
    (s.activateStoreLow).sense.history = s.sense.history ∧
    (s.activateStoreLow).sense.median = s.sense.median ∧
    (s.activateStoreLow).sense.temperature = s.sense.temperature ∧
    (s.activateStoreLow).sense.band = s.sense.band ∧ (s.activateStoreLow).sense.failures = s.sense.failures ∧
    (s.activateStoreLow).sense.scanTimer = s.sense.scanTimer ∧
    (s.activateStoreLow).sense.temperatureTimer = s.sense.temperatureTimer ∧
    (s.activateStoreLow).sense.converting = s.sense.converting ∧ (s.activateStoreLow).rx = s.rx ∧
    (s.activateStoreLow).tx = s.tx := by
  unfold State.activateStoreLow; simp

@[simp] theorem State.clearStoreLow_frame (s : State) :
    (s.clearStoreLow).pending = s.pending ∧ (s.clearStoreLow).elapsed = s.elapsed ∧
    (s.clearStoreLow).loader = s.loader ∧ (s.clearStoreLow).clock = s.clock ∧
    (s.clearStoreLow).sheets = s.sheets ∧ (s.clearStoreLow).table = s.table ∧
    (s.clearStoreLow).board = s.board ∧ (s.clearStoreLow).planner.voltage = s.planner.voltage ∧
    (s.clearStoreLow).planner.available = s.planner.available ∧
    (s.clearStoreLow).planner.parkThreshold = s.planner.parkThreshold ∧
    (s.clearStoreLow).planner.leanThreshold = s.planner.leanThreshold ∧
    (s.clearStoreLow).planner.energy = s.planner.energy ∧
    (s.clearStoreLow).planner.boardParked = s.planner.boardParked ∧
    (s.clearStoreLow).planner.sweep = s.planner.sweep ∧ (s.clearStoreLow).engine.port = s.engine.port ∧
    (s.clearStoreLow).engine.readRequest = s.engine.readRequest ∧
    (s.clearStoreLow).engine.freshHold = s.engine.freshHold ∧
    (s.clearStoreLow).engine.faults = s.engine.faults ∧ (s.clearStoreLow).engine.faulted = s.engine.faulted ∧
    (s.clearStoreLow).engine.phaseDeadline = s.engine.phaseDeadline ∧
    (s.clearStoreLow).engine.readDeadline = s.engine.readDeadline ∧
    (s.clearStoreLow).engine.commands = s.engine.commands ∧
    (s.clearStoreLow).sense.history = s.sense.history ∧ (s.clearStoreLow).sense.median = s.sense.median ∧
    (s.clearStoreLow).sense.temperature = s.sense.temperature ∧ (s.clearStoreLow).sense.band = s.sense.band ∧
    (s.clearStoreLow).sense.failures = s.sense.failures ∧
    (s.clearStoreLow).sense.scanTimer = s.sense.scanTimer ∧
    (s.clearStoreLow).sense.temperatureTimer = s.sense.temperatureTimer ∧
    (s.clearStoreLow).sense.converting = s.sense.converting ∧ (s.clearStoreLow).rx = s.rx := by
  unfold State.clearStoreLow; simp

@[simp] theorem State.scheduleRead_frame (s : State) :
    (s.scheduleRead).pending = s.pending ∧ (s.scheduleRead).elapsed = s.elapsed ∧
    (s.scheduleRead).loader = s.loader ∧ (s.scheduleRead).clock = s.clock ∧
    (s.scheduleRead).sheets = s.sheets ∧ (s.scheduleRead).table = s.table ∧ (s.scheduleRead).board = s.board ∧
    (s.scheduleRead).planner = s.planner ∧ (s.scheduleRead).engine.lines = s.engine.lines ∧
    (s.scheduleRead).engine.active = s.engine.active ∧ (s.scheduleRead).engine.port = s.engine.port ∧
    (s.scheduleRead).engine.freshHold = s.engine.freshHold ∧
    (s.scheduleRead).engine.suspendedAt = s.engine.suspendedAt ∧
    (s.scheduleRead).engine.faults = s.engine.faults ∧ (s.scheduleRead).engine.faulted = s.engine.faulted ∧
    (s.scheduleRead).engine.phaseDeadline = s.engine.phaseDeadline ∧
    (s.scheduleRead).engine.readDeadline = s.engine.readDeadline ∧
    (s.scheduleRead).engine.commands = s.engine.commands ∧ (s.scheduleRead).sense.history = s.sense.history ∧
    (s.scheduleRead).sense.median = s.sense.median ∧ (s.scheduleRead).sense.storeLow = s.sense.storeLow ∧
    (s.scheduleRead).sense.temperature = s.sense.temperature ∧ (s.scheduleRead).sense.band = s.sense.band ∧
    (s.scheduleRead).sense.failures = s.sense.failures ∧
    (s.scheduleRead).sense.scanTimer = s.sense.scanTimer ∧
    (s.scheduleRead).sense.converting = s.sense.converting ∧ (s.scheduleRead).rx = s.rx ∧
    (s.scheduleRead).tx = s.tx ∧ (s.scheduleRead).counters = s.counters := by
  unfold State.scheduleRead; simp

@[simp] theorem State.takeAnswer_frame (s : State) (value : Byte) :
    (s.takeAnswer value).pending = s.pending ∧ (s.takeAnswer value).elapsed = s.elapsed ∧
    (s.takeAnswer value).loader = s.loader ∧ (s.takeAnswer value).clock = s.clock ∧
    (s.takeAnswer value).sheets = s.sheets ∧ (s.takeAnswer value).table = s.table ∧
    (s.takeAnswer value).board = s.board ∧ (s.takeAnswer value).planner.voltage = s.planner.voltage ∧
    (s.takeAnswer value).planner.available = s.planner.available ∧
    (s.takeAnswer value).planner.parkThreshold = s.planner.parkThreshold ∧
    (s.takeAnswer value).planner.leanThreshold = s.planner.leanThreshold ∧
    (s.takeAnswer value).planner.energy = s.planner.energy ∧
    (s.takeAnswer value).planner.boardParked = s.planner.boardParked ∧
    (s.takeAnswer value).planner.sweep = s.planner.sweep ∧
    (s.takeAnswer value).rx.lastCharacter = s.rx.lastCharacter ∧ (s.takeAnswer value).rx.queue = s.rx.queue ∧
    (s.takeAnswer value).rx.mode = s.rx.mode ∧ (s.takeAnswer value).rx.quietTimer = s.rx.quietTimer ∧
    (s.takeAnswer value).rx.sniffTimer = s.rx.sniffTimer ∧ (s.takeAnswer value).tx = s.tx := by
  unfold State.takeAnswer; (repeat' split) <;> simp

@[simp] theorem State.atBoundary_frame (s : State) (a : ActiveJob) :
    (s.atBoundary a).pending = s.pending ∧ (s.atBoundary a).elapsed = s.elapsed ∧
    (s.atBoundary a).loader = s.loader ∧ (s.atBoundary a).clock = s.clock ∧
    (s.atBoundary a).sheets = s.sheets ∧ (s.atBoundary a).table = s.table ∧ (s.atBoundary a).board = s.board ∧
    (s.atBoundary a).planner.voltage = s.planner.voltage ∧
    (s.atBoundary a).planner.available = s.planner.available ∧
    (s.atBoundary a).planner.parkThreshold = s.planner.parkThreshold ∧
    (s.atBoundary a).planner.leanThreshold = s.planner.leanThreshold ∧
    (s.atBoundary a).planner.energy = s.planner.energy ∧
    (s.atBoundary a).planner.boardParked = s.planner.boardParked ∧
    (s.atBoundary a).planner.sweep = s.planner.sweep ∧ (s.atBoundary a).engine.port = s.engine.port ∧
    (s.atBoundary a).engine.readRequest = s.engine.readRequest ∧
    (s.atBoundary a).engine.freshHold = s.engine.freshHold ∧
    (s.atBoundary a).engine.faults = s.engine.faults ∧ (s.atBoundary a).engine.faulted = s.engine.faulted ∧
    (s.atBoundary a).engine.phaseDeadline = s.engine.phaseDeadline ∧
    (s.atBoundary a).engine.readDeadline = s.engine.readDeadline ∧
    (s.atBoundary a).engine.commands = s.engine.commands ∧ (s.atBoundary a).sense = s.sense ∧
    (s.atBoundary a).rx = s.rx ∧ (s.atBoundary a).tx = s.tx := by
  unfold State.atBoundary; (repeat' split) <;> simp

@[simp] theorem State.endLoad_frame (s : State) :
    (s.endLoad).pending = s.pending ∧ (s.endLoad).elapsed = s.elapsed ∧ (s.endLoad).loader = s.loader ∧
    (s.endLoad).clock = s.clock ∧ (s.endLoad).sheets = s.sheets ∧ (s.endLoad).table = s.table ∧
    (s.endLoad).board = s.board ∧ (s.endLoad).planner.voltage = s.planner.voltage ∧
    (s.endLoad).planner.available = s.planner.available ∧
    (s.endLoad).planner.parkThreshold = s.planner.parkThreshold ∧
    (s.endLoad).planner.leanThreshold = s.planner.leanThreshold ∧
    (s.endLoad).planner.energy = s.planner.energy ∧ (s.endLoad).planner.boardParked = s.planner.boardParked ∧
    (s.endLoad).planner.sweep = s.planner.sweep ∧ (s.endLoad).sense = s.sense ∧ (s.endLoad).rx = s.rx ∧
    (s.endLoad).tx = s.tx := by
  unfold State.endLoad; (repeat' split) <;> simp

@[simp] theorem State.afterPhase_frame (s : State) (a : ActiveJob) (b : Bool) :
    (s.afterPhase a b).pending = s.pending ∧ (s.afterPhase a b).elapsed = s.elapsed ∧
    (s.afterPhase a b).loader = s.loader ∧ (s.afterPhase a b).clock = s.clock ∧
    (s.afterPhase a b).sheets = s.sheets ∧ (s.afterPhase a b).table = s.table ∧ (s.afterPhase a b).board = s.board ∧
    (s.afterPhase a b).planner.voltage = s.planner.voltage ∧
    (s.afterPhase a b).planner.available = s.planner.available ∧
    (s.afterPhase a b).planner.parkThreshold = s.planner.parkThreshold ∧
    (s.afterPhase a b).planner.leanThreshold = s.planner.leanThreshold ∧
    (s.afterPhase a b).planner.energy = s.planner.energy ∧ (s.afterPhase a b).engine.port = s.engine.port ∧
    (s.afterPhase a b).engine.readRequest = s.engine.readRequest ∧
    (s.afterPhase a b).engine.freshHold = s.engine.freshHold ∧
    (s.afterPhase a b).engine.faulted = s.engine.faulted ∧
    (s.afterPhase a b).engine.phaseDeadline = s.engine.phaseDeadline ∧
    (s.afterPhase a b).engine.readDeadline = s.engine.readDeadline ∧
    (s.afterPhase a b).engine.commands = s.engine.commands ∧ (s.afterPhase a b).sense = s.sense ∧
    (s.afterPhase a b).rx = s.rx ∧ (s.afterPhase a b).tx = s.tx := by
  unfold State.afterPhase; (repeat' split) <;> simp

@[simp] theorem State.endPhase_frame (s : State) (b : Bool) :
    (s.endPhase b).pending = s.pending ∧ (s.endPhase b).elapsed = s.elapsed ∧ (s.endPhase b).loader = s.loader ∧
    (s.endPhase b).clock = s.clock ∧ (s.endPhase b).sheets = s.sheets ∧ (s.endPhase b).table = s.table ∧
    (s.endPhase b).board = s.board ∧ (s.endPhase b).planner.voltage = s.planner.voltage ∧
    (s.endPhase b).planner.available = s.planner.available ∧
    (s.endPhase b).planner.parkThreshold = s.planner.parkThreshold ∧
    (s.endPhase b).planner.leanThreshold = s.planner.leanThreshold ∧
    (s.endPhase b).planner.energy = s.planner.energy ∧ (s.endPhase b).sense = s.sense ∧ (s.endPhase b).rx = s.rx ∧
    (s.endPhase b).tx = s.tx := by
  unfold State.endPhase; (repeat' split) <;> simp

@[simp] theorem State.takeReady_frame (s : State) (b : Bool) :
    (s.takeReady b).pending = s.pending ∧ (s.takeReady b).elapsed = s.elapsed ∧ (s.takeReady b).loader = s.loader ∧
    (s.takeReady b).clock = s.clock ∧ (s.takeReady b).sheets = s.sheets ∧ (s.takeReady b).table = s.table ∧
    (s.takeReady b).board = s.board ∧ (s.takeReady b).planner.voltage = s.planner.voltage ∧
    (s.takeReady b).planner.available = s.planner.available ∧
    (s.takeReady b).planner.parkThreshold = s.planner.parkThreshold ∧
    (s.takeReady b).planner.leanThreshold = s.planner.leanThreshold ∧
    (s.takeReady b).planner.energy = s.planner.energy ∧ (s.takeReady b).sense = s.sense ∧
    (s.takeReady b).rx.lastCharacter = s.rx.lastCharacter ∧ (s.takeReady b).rx.queue = s.rx.queue ∧
    (s.takeReady b).rx.mode = s.rx.mode ∧ (s.takeReady b).rx.quietTimer = s.rx.quietTimer ∧
    (s.takeReady b).rx.sniffTimer = s.rx.sniffTimer ∧ (s.takeReady b).tx = s.tx := by
  unfold State.takeReady; (repeat' split) <;> simp

@[simp] theorem State.endStop_frame (s : State) :
    (s.endStop).pending = s.pending ∧ (s.endStop).elapsed = s.elapsed ∧ (s.endStop).loader = s.loader ∧
    (s.endStop).clock = s.clock ∧ (s.endStop).sheets = s.sheets ∧ (s.endStop).table = s.table ∧
    (s.endStop).board = s.board ∧ (s.endStop).planner.voltage = s.planner.voltage ∧
    (s.endStop).planner.available = s.planner.available ∧
    (s.endStop).planner.parkThreshold = s.planner.parkThreshold ∧
    (s.endStop).planner.leanThreshold = s.planner.leanThreshold ∧
    (s.endStop).planner.energy = s.planner.energy ∧ (s.endStop).planner.boardParked = s.planner.boardParked ∧
    (s.endStop).planner.sweep = s.planner.sweep ∧ (s.endStop).sense = s.sense ∧ (s.endStop).rx = s.rx ∧
    (s.endStop).tx = s.tx := by
  unfold State.endStop; dsimp only; (repeat' split) <;> simp

@[simp] theorem State.endSuspension_frame (s : State) :
    (s.endSuspension).pending = s.pending ∧ (s.endSuspension).elapsed = s.elapsed ∧
    (s.endSuspension).loader = s.loader ∧ (s.endSuspension).clock = s.clock ∧
    (s.endSuspension).sheets = s.sheets ∧ (s.endSuspension).table = s.table ∧
    (s.endSuspension).board = s.board ∧ (s.endSuspension).planner.voltage = s.planner.voltage ∧
    (s.endSuspension).planner.available = s.planner.available ∧
    (s.endSuspension).planner.parkThreshold = s.planner.parkThreshold ∧
    (s.endSuspension).planner.leanThreshold = s.planner.leanThreshold ∧
    (s.endSuspension).planner.energy = s.planner.energy ∧
    (s.endSuspension).planner.boardParked = s.planner.boardParked ∧
    (s.endSuspension).planner.sweep = s.planner.sweep ∧
    (s.endSuspension).engine.freshHold = s.engine.freshHold ∧
    (s.endSuspension).engine.faults = s.engine.faults ∧ (s.endSuspension).engine.faulted = s.engine.faulted ∧
    (s.endSuspension).sense = s.sense ∧ (s.endSuspension).rx.lastCharacter = s.rx.lastCharacter ∧
    (s.endSuspension).rx.queue = s.rx.queue ∧ (s.endSuspension).rx.mode = s.rx.mode ∧
    (s.endSuspension).rx.quietTimer = s.rx.quietTimer ∧ (s.endSuspension).rx.sniffTimer = s.rx.sniffTimer ∧
    (s.endSuspension).tx = s.tx := by
  unfold State.endSuspension; (repeat' split) <;> simp

@[simp] theorem State.answerDay_frame (s : State) (slot : SlotIx) (day : Day) (listed : Version) :
    (s.answerDay slot day listed).pending = s.pending ∧ (s.answerDay slot day listed).elapsed = s.elapsed ∧
    (s.answerDay slot day listed).loader = s.loader ∧ (s.answerDay slot day listed).clock = s.clock ∧
    (s.answerDay slot day listed).sheets.slots = s.sheets.slots ∧
    (s.answerDay slot day listed).sheets.waiting = s.sheets.waiting ∧
    (s.answerDay slot day listed).sheets.offerTimer = s.sheets.offerTimer ∧
    (s.answerDay slot day listed).table = s.table ∧ (s.answerDay slot day listed).board = s.board ∧
    (s.answerDay slot day listed).planner = s.planner ∧ (s.answerDay slot day listed).engine = s.engine ∧
    (s.answerDay slot day listed).sense = s.sense ∧ (s.answerDay slot day listed).rx = s.rx ∧
    (s.answerDay slot day listed).tx.reply = s.tx.reply ∧
    (s.answerDay slot day listed).tx.clockWaiting = s.tx.clockWaiting ∧
    (s.answerDay slot day listed).tx.offerWaiting = s.tx.offerWaiting ∧
    (s.answerDay slot day listed).tx.relay = s.tx.relay ∧
    (s.answerDay slot day listed).tx.pointer = s.tx.pointer ∧
    (s.answerDay slot day listed).tx.state = s.tx.state ∧
    (s.answerDay slot day listed).tx.granted = s.tx.granted ∧
    (s.answerDay slot day listed).tx.stage = s.tx.stage ∧
    (s.answerDay slot day listed).tx.backoff = s.tx.backoff ∧
    (s.answerDay slot day listed).tx.line = s.tx.line := by
  unfold State.answerDay; (repeat' split) <;> simp

@[simp] theorem State.answerListing_frame (s : State) (nextFirst : Bool) (l : Listing) :
    (s.answerListing nextFirst l).pending = s.pending ∧ (s.answerListing nextFirst l).elapsed = s.elapsed ∧
    (s.answerListing nextFirst l).loader = s.loader ∧ (s.answerListing nextFirst l).clock = s.clock ∧
    (s.answerListing nextFirst l).sheets.slots = s.sheets.slots ∧
    (s.answerListing nextFirst l).sheets.waiting = s.sheets.waiting ∧
    (s.answerListing nextFirst l).sheets.offerTimer = s.sheets.offerTimer ∧ (s.answerListing nextFirst l).table = s.table ∧
    (s.answerListing nextFirst l).board = s.board ∧ (s.answerListing nextFirst l).planner = s.planner ∧
    (s.answerListing nextFirst l).engine = s.engine ∧ (s.answerListing nextFirst l).sense = s.sense ∧
    (s.answerListing nextFirst l).rx = s.rx ∧ (s.answerListing nextFirst l).tx.reply = s.tx.reply ∧
    (s.answerListing nextFirst l).tx.clockWaiting = s.tx.clockWaiting ∧
    (s.answerListing nextFirst l).tx.offerWaiting = s.tx.offerWaiting ∧ (s.answerListing nextFirst l).tx.relay = s.tx.relay ∧
    (s.answerListing nextFirst l).tx.pointer = s.tx.pointer ∧ (s.answerListing nextFirst l).tx.state = s.tx.state ∧
    (s.answerListing nextFirst l).tx.granted = s.tx.granted ∧ (s.answerListing nextFirst l).tx.stage = s.tx.stage ∧
    (s.answerListing nextFirst l).tx.backoff = s.tx.backoff ∧ (s.answerListing nextFirst l).tx.line = s.tx.line := by
  unfold State.answerListing; (repeat' split) <;> simp

@[simp] theorem takeOffer_fr (s : State) (f : OfferFields) (nextFirst : Bool) :
  (s.takeOffer f nextFirst).pending = s.pending ∧ (s.takeOffer f nextFirst).elapsed = s.elapsed ∧ (s.takeOffer f nextFirst).loader = s.loader ∧ (s.takeOffer f nextFirst).clock = s.clock ∧ (s.takeOffer f nextFirst).table = s.table ∧ (s.takeOffer f nextFirst).board = s.board ∧ (s.takeOffer f nextFirst).planner = s.planner ∧ (s.takeOffer f nextFirst).engine = s.engine ∧ (s.takeOffer f nextFirst).sense = s.sense ∧ (s.takeOffer f nextFirst).rx = s.rx ∧ (s.takeOffer f nextFirst).sheets.slots = s.sheets.slots ∧ (s.takeOffer f nextFirst).sheets.waiting = s.sheets.waiting ∧ (s.takeOffer f nextFirst).sheets.offerTimer = s.sheets.offerTimer := by
  unfold State.takeOffer
  split
  · refine ⟨?_, ?_, ?_, ?_, ?_, ?_, ?_, ?_, ?_, ?_, ?_, ?_, ?_⟩
    · exact fold_frame _ (fun s : State => s.pending) (by intros; simp) _ _
    · exact fold_frame _ (fun s : State => s.elapsed) (by intros; simp) _ _
    · exact fold_frame _ (fun s : State => s.loader) (by intros; simp) _ _
    · exact fold_frame _ (fun s : State => s.clock) (by intros; simp) _ _
    · exact fold_frame _ (fun s : State => s.table) (by intros; simp) _ _
    · exact fold_frame _ (fun s : State => s.board) (by intros; simp) _ _
    · exact fold_frame _ (fun s : State => s.planner) (by intros; simp) _ _
    · exact fold_frame _ (fun s : State => s.engine) (by intros; simp) _ _
    · exact fold_frame _ (fun s : State => s.sense) (by intros; simp) _ _
    · exact fold_frame _ (fun s : State => s.rx) (by intros; simp) _ _
    · exact fold_frame _ (fun s : State => s.sheets.slots) (by intros; simp) _ _
    · exact fold_frame _ (fun s : State => s.sheets.waiting) (by intros; simp) _ _
    · exact fold_frame _ (fun s : State => s.sheets.offerTimer) (by intros; simp) _ _
  · simp

@[simp] theorem State.weighPublications_frame (s : State) (f : SheetFields) :
    (s.weighPublications f).pending = s.pending ∧ (s.weighPublications f).elapsed = s.elapsed ∧
    (s.weighPublications f).loader = s.loader ∧ (s.weighPublications f).clock = s.clock ∧
    (s.weighPublications f).sheets.slots = s.sheets.slots ∧
    (s.weighPublications f).sheets.waiting = s.sheets.waiting ∧
    (s.weighPublications f).sheets.offerTimer = s.sheets.offerTimer ∧
    (s.weighPublications f).table = s.table ∧ (s.weighPublications f).board = s.board ∧
    (s.weighPublications f).planner = s.planner ∧ (s.weighPublications f).engine = s.engine ∧
    (s.weighPublications f).sense = s.sense ∧ (s.weighPublications f).rx = s.rx ∧
    (s.weighPublications f).tx = s.tx := by
  unfold State.weighPublications; simp

@[simp] theorem State.acceptFragment_frame (s : State) (f : SheetFields) :
    (s.acceptFragment f).pending = s.pending ∧ (s.acceptFragment f).elapsed = s.elapsed ∧
    (s.acceptFragment f).loader = s.loader ∧ (s.acceptFragment f).clock = s.clock ∧
    (s.acceptFragment f).table.entries = s.table.entries ∧ (s.acceptFragment f).table.marks = s.table.marks ∧
    (s.acceptFragment f).table.passOwed = s.table.passOwed ∧ (s.acceptFragment f).board = s.board ∧
    (s.acceptFragment f).planner = s.planner ∧ (s.acceptFragment f).engine = s.engine ∧
    (s.acceptFragment f).sense = s.sense ∧ (s.acceptFragment f).rx = s.rx := by
  unfold State.acceptFragment; (repeat' split) <;> simp

@[simp] theorem State.takeSheet_frame (s : State) (f : SheetFields) :
    (s.takeSheet f).pending = s.pending ∧ (s.takeSheet f).elapsed = s.elapsed ∧
    (s.takeSheet f).loader = s.loader ∧ (s.takeSheet f).clock = s.clock ∧
    (s.takeSheet f).table.entries = s.table.entries ∧ (s.takeSheet f).table.marks = s.table.marks ∧
    (s.takeSheet f).table.passOwed = s.table.passOwed ∧ (s.takeSheet f).board = s.board ∧
    (s.takeSheet f).planner = s.planner ∧ (s.takeSheet f).engine = s.engine ∧
    (s.takeSheet f).sense = s.sense ∧ (s.takeSheet f).rx = s.rx := by
  unfold State.takeSheet; simp

@[simp] theorem State.restartOffers_frame (s : State) :
    (s.restartOffers).pending = s.pending ∧ (s.restartOffers).elapsed = s.elapsed ∧
    (s.restartOffers).loader = s.loader ∧ (s.restartOffers).clock = s.clock ∧
    (s.restartOffers).sheets.slots = s.sheets.slots ∧ (s.restartOffers).sheets.waiting = s.sheets.waiting ∧
    (s.restartOffers).sheets.publications = s.sheets.publications ∧ (s.restartOffers).table = s.table ∧
    (s.restartOffers).board = s.board ∧ (s.restartOffers).planner = s.planner ∧
    (s.restartOffers).engine = s.engine ∧ (s.restartOffers).sense = s.sense ∧ (s.restartOffers).rx = s.rx ∧
    (s.restartOffers).tx.reply = s.tx.reply ∧ (s.restartOffers).tx.clockWaiting = s.tx.clockWaiting ∧
    (s.restartOffers).tx.offerWaiting = s.tx.offerWaiting ∧ (s.restartOffers).tx.relay = s.tx.relay ∧
    (s.restartOffers).tx.pointer = s.tx.pointer ∧ (s.restartOffers).tx.state = s.tx.state ∧
    (s.restartOffers).tx.granted = s.tx.granted ∧ (s.restartOffers).tx.stage = s.tx.stage ∧
    (s.restartOffers).tx.backoff = s.tx.backoff ∧ (s.restartOffers).tx.line = s.tx.line ∧
    (s.restartOffers).counters = s.counters := by
  unfold State.restartOffers; simp

@[simp] theorem State.offerPlace_frame (s : State) :
    (s.offerPlace).pending = s.pending ∧ (s.offerPlace).elapsed = s.elapsed ∧
    (s.offerPlace).loader = s.loader ∧ (s.offerPlace).clock = s.clock ∧ (s.offerPlace).sheets = s.sheets ∧
    (s.offerPlace).table = s.table ∧ (s.offerPlace).board = s.board ∧ (s.offerPlace).planner = s.planner ∧
    (s.offerPlace).engine = s.engine ∧ (s.offerPlace).sense = s.sense ∧
    (s.offerPlace).rx.lastCharacter = s.rx.lastCharacter ∧ (s.offerPlace).rx.queue = s.rx.queue ∧
    (s.offerPlace).rx.mode = s.rx.mode ∧ (s.offerPlace).rx.quietTimer = s.rx.quietTimer ∧
    (s.offerPlace).rx.sniffTimer = s.rx.sniffTimer ∧ (s.offerPlace).tx.reply = s.tx.reply ∧
    (s.offerPlace).tx.clockWaiting = s.tx.clockWaiting ∧ (s.offerPlace).tx.lfsr = s.tx.lfsr ∧
    (s.offerPlace).tx.line = s.tx.line := by
  unfold State.offerPlace; (repeat' split) <;> simp

@[simp] theorem State.timeOutAssembly_frame (s : State) (i : SlotIx) :
    (s.timeOutAssembly i).pending = s.pending ∧ (s.timeOutAssembly i).elapsed = s.elapsed ∧
    (s.timeOutAssembly i).loader = s.loader ∧ (s.timeOutAssembly i).clock = s.clock ∧
    (s.timeOutAssembly i).table = s.table ∧ (s.timeOutAssembly i).board = s.board ∧
    (s.timeOutAssembly i).planner = s.planner ∧ (s.timeOutAssembly i).engine = s.engine ∧
    (s.timeOutAssembly i).sense = s.sense ∧ (s.timeOutAssembly i).rx = s.rx ∧ (s.timeOutAssembly i).tx = s.tx := by
  unfold State.timeOutAssembly; simp

@[simp] theorem changeEntry_fr (s : State) (i : SlotIx) (d : Day) (r : Nat) (f : Entry → Entry) :
  (s.changeEntry i d r f).pending = s.pending ∧ (s.changeEntry i d r f).elapsed = s.elapsed ∧ (s.changeEntry i d r f).loader = s.loader ∧ (s.changeEntry i d r f).clock = s.clock ∧ (s.changeEntry i d r f).sheets = s.sheets ∧ (s.changeEntry i d r f).board = s.board ∧ (s.changeEntry i d r f).planner = s.planner ∧ (s.changeEntry i d r f).engine = s.engine ∧ (s.changeEntry i d r f).sense = s.sense ∧ (s.changeEntry i d r f).rx = s.rx ∧ (s.changeEntry i d r f).tx = s.tx ∧ (s.changeEntry i d r f).table.marks = s.table.marks ∧ (s.changeEntry i d r f).table.rebuild = s.table.rebuild ∧ (s.changeEntry i d r f).table.passOwed = s.table.passOwed := by
  simp [State.changeEntry, evaluateWhere]

@[simp] theorem State.relayPass_frame (s : State) (p : PassFields) :
    (s.relayPass p).pending = s.pending ∧ (s.relayPass p).elapsed = s.elapsed ∧
    (s.relayPass p).loader = s.loader ∧ (s.relayPass p).clock = s.clock ∧ (s.relayPass p).sheets = s.sheets ∧
    (s.relayPass p).table = s.table ∧ (s.relayPass p).board = s.board ∧ (s.relayPass p).planner = s.planner ∧
    (s.relayPass p).engine = s.engine ∧ (s.relayPass p).sense = s.sense ∧ (s.relayPass p).rx = s.rx ∧
    (s.relayPass p).tx.reply = s.tx.reply ∧ (s.relayPass p).tx.clockWaiting = s.tx.clockWaiting ∧
    (s.relayPass p).tx.offerWaiting = s.tx.offerWaiting ∧ (s.relayPass p).tx.lfsr = s.tx.lfsr ∧
    (s.relayPass p).tx.line = s.tx.line := by
  unfold State.relayPass; (repeat' split) <;> simp

@[simp] theorem State.removeDownstream_frame (s : State) (slot : SlotIx) (p : PassFields) :
    (s.removeDownstream slot p).pending = s.pending ∧ (s.removeDownstream slot p).elapsed = s.elapsed ∧
    (s.removeDownstream slot p).loader = s.loader ∧ (s.removeDownstream slot p).clock = s.clock ∧
    (s.removeDownstream slot p).sheets = s.sheets ∧ (s.removeDownstream slot p).table.marks = s.table.marks ∧
    (s.removeDownstream slot p).table.rebuild = s.table.rebuild ∧
    (s.removeDownstream slot p).table.passOwed = s.table.passOwed ∧
    (s.removeDownstream slot p).board = s.board ∧ (s.removeDownstream slot p).planner = s.planner ∧
    (s.removeDownstream slot p).engine = s.engine ∧ (s.removeDownstream slot p).sense = s.sense ∧
    (s.removeDownstream slot p).rx = s.rx ∧ (s.removeDownstream slot p).tx = s.tx := by
  unfold State.removeDownstream; simp

@[simp] theorem State.weighPass_frame (s : State) (slot : SlotIx) (p : PassFields) (e : Entry) :
    (s.weighPass slot p e).pending = s.pending ∧ (s.weighPass slot p e).elapsed = s.elapsed ∧
    (s.weighPass slot p e).loader = s.loader ∧ (s.weighPass slot p e).clock = s.clock ∧
    (s.weighPass slot p e).sheets = s.sheets ∧ (s.weighPass slot p e).table.marks = s.table.marks ∧
    (s.weighPass slot p e).table.rebuild = s.table.rebuild ∧
    (s.weighPass slot p e).table.passOwed = s.table.passOwed ∧ (s.weighPass slot p e).board = s.board ∧
    (s.weighPass slot p e).planner = s.planner ∧ (s.weighPass slot p e).engine = s.engine ∧
    (s.weighPass slot p e).sense = s.sense ∧ (s.weighPass slot p e).rx = s.rx ∧
    (s.weighPass slot p e).tx.reply = s.tx.reply ∧
    (s.weighPass slot p e).tx.clockWaiting = s.tx.clockWaiting ∧
    (s.weighPass slot p e).tx.offerWaiting = s.tx.offerWaiting ∧ (s.weighPass slot p e).tx.lfsr = s.tx.lfsr ∧
    (s.weighPass slot p e).tx.line = s.tx.line := by
  unfold State.weighPass; dsimp only; (repeat' split) <;> simp

@[simp] theorem State.takeServedPass_frame (s : State) (slot : SlotIx) (p : PassFields) :
    (s.takeServedPass slot p).pending = s.pending ∧ (s.takeServedPass slot p).elapsed = s.elapsed ∧
    (s.takeServedPass slot p).loader = s.loader ∧ (s.takeServedPass slot p).clock = s.clock ∧
    (s.takeServedPass slot p).sheets = s.sheets ∧ (s.takeServedPass slot p).table.marks = s.table.marks ∧
    (s.takeServedPass slot p).table.rebuild = s.table.rebuild ∧
    (s.takeServedPass slot p).table.passOwed = s.table.passOwed ∧ (s.takeServedPass slot p).board = s.board ∧
    (s.takeServedPass slot p).planner = s.planner ∧ (s.takeServedPass slot p).engine = s.engine ∧
    (s.takeServedPass slot p).sense = s.sense ∧ (s.takeServedPass slot p).rx = s.rx ∧
    (s.takeServedPass slot p).tx.reply = s.tx.reply ∧
    (s.takeServedPass slot p).tx.clockWaiting = s.tx.clockWaiting ∧
    (s.takeServedPass slot p).tx.offerWaiting = s.tx.offerWaiting ∧
    (s.takeServedPass slot p).tx.lfsr = s.tx.lfsr ∧ (s.takeServedPass slot p).tx.line = s.tx.line := by
  unfold State.takeServedPass; (repeat' split) <;> simp

@[simp] theorem State.takePass_frame (s : State) (p : PassFields) :
    (s.takePass p).pending = s.pending ∧ (s.takePass p).elapsed = s.elapsed ∧
    (s.takePass p).loader = s.loader ∧ (s.takePass p).clock = s.clock ∧ (s.takePass p).sheets = s.sheets ∧
    (s.takePass p).table.marks = s.table.marks ∧ (s.takePass p).table.rebuild = s.table.rebuild ∧
    (s.takePass p).table.passOwed = s.table.passOwed ∧ (s.takePass p).board.notices = s.board.notices ∧
    (s.takePass p).board.current = s.board.current ∧ (s.takePass p).board.shownSince = s.board.shownSince ∧
    (s.takePass p).planner.voltage = s.planner.voltage ∧
    (s.takePass p).planner.available = s.planner.available ∧
    (s.takePass p).planner.parkThreshold = s.planner.parkThreshold ∧
    (s.takePass p).planner.leanThreshold = s.planner.leanThreshold ∧
    (s.takePass p).planner.energy = s.planner.energy ∧
    (s.takePass p).planner.boardParked = s.planner.boardParked ∧
    (s.takePass p).planner.sweep = s.planner.sweep ∧ (s.takePass p).engine.freshHold = s.engine.freshHold ∧
    (s.takePass p).engine.faults = s.engine.faults ∧ (s.takePass p).engine.faulted = s.engine.faulted ∧
    (s.takePass p).sense = s.sense ∧ (s.takePass p).rx.lastCharacter = s.rx.lastCharacter ∧
    (s.takePass p).rx.queue = s.rx.queue ∧ (s.takePass p).rx.mode = s.rx.mode ∧
    (s.takePass p).rx.quietTimer = s.rx.quietTimer ∧ (s.takePass p).rx.sniffTimer = s.rx.sniffTimer ∧
    (s.takePass p).tx.reply = s.tx.reply ∧ (s.takePass p).tx.clockWaiting = s.tx.clockWaiting ∧
    (s.takePass p).tx.offerWaiting = s.tx.offerWaiting ∧ (s.takePass p).tx.lfsr = s.tx.lfsr ∧
    (s.takePass p).tx.line = s.tx.line := by
  unfold State.takePass; (repeat' split) <;> simp

@[simp] theorem State.takeAt_frame (s : State) (e : Entry) :
    (s.takeAt e).pending = s.pending ∧ (s.takeAt e).elapsed = s.elapsed ∧ (s.takeAt e).loader = s.loader ∧
    (s.takeAt e).clock = s.clock ∧ (s.takeAt e).sheets = s.sheets ∧ (s.takeAt e).table.marks = s.table.marks ∧
    (s.takeAt e).table.rebuild = s.table.rebuild ∧ (s.takeAt e).table.passOwed = s.table.passOwed ∧
    (s.takeAt e).board = s.board ∧ (s.takeAt e).planner = s.planner ∧ (s.takeAt e).engine = s.engine ∧
    (s.takeAt e).sense = s.sense ∧ (s.takeAt e).rx = s.rx ∧ (s.takeAt e).tx = s.tx := by
  unfold State.takeAt; dsimp only; (repeat' split) <;> simp

@[simp] theorem State.takeLeaving_frame (s : State) (e : Entry) :
    (s.takeLeaving e).pending = s.pending ∧ (s.takeLeaving e).elapsed = s.elapsed ∧
    (s.takeLeaving e).loader = s.loader ∧ (s.takeLeaving e).clock = s.clock ∧
    (s.takeLeaving e).sheets = s.sheets ∧ (s.takeLeaving e).table.marks = s.table.marks ∧
    (s.takeLeaving e).table.rebuild = s.table.rebuild ∧ (s.takeLeaving e).table.passOwed = s.table.passOwed ∧
    (s.takeLeaving e).board = s.board ∧ (s.takeLeaving e).planner = s.planner ∧
    (s.takeLeaving e).engine = s.engine ∧ (s.takeLeaving e).sense = s.sense ∧ (s.takeLeaving e).rx = s.rx ∧
    (s.takeLeaving e).tx.reply = s.tx.reply ∧ (s.takeLeaving e).tx.clockWaiting = s.tx.clockWaiting ∧
    (s.takeLeaving e).tx.offerWaiting = s.tx.offerWaiting ∧ (s.takeLeaving e).tx.lfsr = s.tx.lfsr ∧
    (s.takeLeaving e).tx.line = s.tx.line := by
  unfold State.takeLeaving; (repeat' split) <;> simp

@[simp] theorem State.takeSight_frame (s : State) (f : SightFields) :
    (s.takeSight f).pending = s.pending ∧ (s.takeSight f).elapsed = s.elapsed ∧
    (s.takeSight f).loader = s.loader ∧ (s.takeSight f).clock = s.clock ∧ (s.takeSight f).sheets = s.sheets ∧
    (s.takeSight f).table.marks = s.table.marks ∧ (s.takeSight f).table.rebuild = s.table.rebuild ∧
    (s.takeSight f).table.passOwed = s.table.passOwed ∧ (s.takeSight f).board.notices = s.board.notices ∧
    (s.takeSight f).board.current = s.board.current ∧ (s.takeSight f).board.shownSince = s.board.shownSince ∧
    (s.takeSight f).planner.voltage = s.planner.voltage ∧
    (s.takeSight f).planner.available = s.planner.available ∧
    (s.takeSight f).planner.parkThreshold = s.planner.parkThreshold ∧
    (s.takeSight f).planner.leanThreshold = s.planner.leanThreshold ∧
    (s.takeSight f).planner.energy = s.planner.energy ∧
    (s.takeSight f).planner.boardParked = s.planner.boardParked ∧
    (s.takeSight f).planner.sweep = s.planner.sweep ∧ (s.takeSight f).engine.freshHold = s.engine.freshHold ∧
    (s.takeSight f).engine.faults = s.engine.faults ∧ (s.takeSight f).engine.faulted = s.engine.faulted ∧
    (s.takeSight f).sense = s.sense ∧ (s.takeSight f).rx.lastCharacter = s.rx.lastCharacter ∧
    (s.takeSight f).rx.queue = s.rx.queue ∧ (s.takeSight f).rx.mode = s.rx.mode ∧
    (s.takeSight f).rx.quietTimer = s.rx.quietTimer ∧ (s.takeSight f).rx.sniffTimer = s.rx.sniffTimer ∧
    (s.takeSight f).tx.reply = s.tx.reply ∧ (s.takeSight f).tx.clockWaiting = s.tx.clockWaiting ∧
    (s.takeSight f).tx.offerWaiting = s.tx.offerWaiting ∧ (s.takeSight f).tx.lfsr = s.tx.lfsr ∧
    (s.takeSight f).tx.line = s.tx.line := by
  unfold State.takeSight; (repeat' split) <;> simp

@[simp] theorem State.relayNotice_frame (s : State) (n : Notice) (hops : Nat) :
    (s.relayNotice n hops).pending = s.pending ∧ (s.relayNotice n hops).elapsed = s.elapsed ∧
    (s.relayNotice n hops).loader = s.loader ∧ (s.relayNotice n hops).clock = s.clock ∧
    (s.relayNotice n hops).sheets = s.sheets ∧ (s.relayNotice n hops).table = s.table ∧
    (s.relayNotice n hops).board = s.board ∧ (s.relayNotice n hops).planner = s.planner ∧
    (s.relayNotice n hops).engine = s.engine ∧ (s.relayNotice n hops).sense = s.sense ∧
    (s.relayNotice n hops).rx = s.rx ∧ (s.relayNotice n hops).tx.reply = s.tx.reply ∧
    (s.relayNotice n hops).tx.clockWaiting = s.tx.clockWaiting ∧
    (s.relayNotice n hops).tx.offerWaiting = s.tx.offerWaiting ∧ (s.relayNotice n hops).tx.lfsr = s.tx.lfsr ∧
    (s.relayNotice n hops).tx.line = s.tx.line := by
  unfold State.relayNotice; (repeat' split) <;> simp

@[simp] theorem State.evictNotice_frame (s : State) (place : Nat) (n : Notice) :
    (s.evictNotice place n).pending = s.pending ∧ (s.evictNotice place n).elapsed = s.elapsed ∧
    (s.evictNotice place n).loader = s.loader ∧ (s.evictNotice place n).clock = s.clock ∧
    (s.evictNotice place n).sheets = s.sheets ∧ (s.evictNotice place n).table = s.table ∧
    (s.evictNotice place n).board.targets = s.board.targets ∧ (s.evictNotice place n).planner = s.planner ∧
    (s.evictNotice place n).engine = s.engine ∧ (s.evictNotice place n).sense = s.sense ∧
    (s.evictNotice place n).rx = s.rx ∧ (s.evictNotice place n).tx = s.tx ∧
    (s.evictNotice place n).counters = s.counters := by
  unfold State.evictNotice; simp

@[simp] theorem State.storeNew_frame (s : State) (n : Notice) (hops : Nat) :
    (s.storeNew n hops).pending = s.pending ∧ (s.storeNew n hops).elapsed = s.elapsed ∧
    (s.storeNew n hops).loader = s.loader ∧ (s.storeNew n hops).clock = s.clock ∧
    (s.storeNew n hops).sheets = s.sheets ∧ (s.storeNew n hops).table = s.table ∧
    (s.storeNew n hops).board.targets = s.board.targets ∧ (s.storeNew n hops).planner = s.planner ∧
    (s.storeNew n hops).engine = s.engine ∧ (s.storeNew n hops).sense = s.sense ∧
    (s.storeNew n hops).rx = s.rx ∧ (s.storeNew n hops).tx.reply = s.tx.reply ∧
    (s.storeNew n hops).tx.clockWaiting = s.tx.clockWaiting ∧
    (s.storeNew n hops).tx.offerWaiting = s.tx.offerWaiting ∧ (s.storeNew n hops).tx.lfsr = s.tx.lfsr ∧
    (s.storeNew n hops).tx.line = s.tx.line := by
  unfold State.storeNew; (repeat' split) <;> simp

@[simp] theorem State.storeNotice_frame (s : State) (n : Notice) (hops : Nat) :
    (s.storeNotice n hops).pending = s.pending ∧ (s.storeNotice n hops).elapsed = s.elapsed ∧
    (s.storeNotice n hops).loader = s.loader ∧ (s.storeNotice n hops).clock = s.clock ∧
    (s.storeNotice n hops).sheets = s.sheets ∧ (s.storeNotice n hops).table = s.table ∧
    (s.storeNotice n hops).board.targets = s.board.targets ∧ (s.storeNotice n hops).planner = s.planner ∧
    (s.storeNotice n hops).engine = s.engine ∧ (s.storeNotice n hops).sense = s.sense ∧
    (s.storeNotice n hops).rx = s.rx ∧ (s.storeNotice n hops).tx.reply = s.tx.reply ∧
    (s.storeNotice n hops).tx.clockWaiting = s.tx.clockWaiting ∧
    (s.storeNotice n hops).tx.offerWaiting = s.tx.offerWaiting ∧ (s.storeNotice n hops).tx.lfsr = s.tx.lfsr ∧
    (s.storeNotice n hops).tx.line = s.tx.line := by
  unfold State.storeNotice; (repeat' split) <;> simp

@[simp] theorem State.countTruncation_frame (s : State) (f : NoticeFields) :
    (s.countTruncation f).pending = s.pending ∧ (s.countTruncation f).elapsed = s.elapsed ∧
    (s.countTruncation f).loader = s.loader ∧ (s.countTruncation f).clock = s.clock ∧
    (s.countTruncation f).sheets = s.sheets ∧ (s.countTruncation f).table = s.table ∧
    (s.countTruncation f).board = s.board ∧ (s.countTruncation f).planner = s.planner ∧
    (s.countTruncation f).engine = s.engine ∧ (s.countTruncation f).sense = s.sense ∧
    (s.countTruncation f).rx = s.rx ∧ (s.countTruncation f).tx = s.tx := by
  unfold State.countTruncation; (repeat' split) <;> simp

@[simp] theorem State.takeNotice_frame (s : State) (f : NoticeFields) :
    (s.takeNotice f).pending = s.pending ∧ (s.takeNotice f).elapsed = s.elapsed ∧
    (s.takeNotice f).loader = s.loader ∧ (s.takeNotice f).clock = s.clock ∧
    (s.takeNotice f).sheets = s.sheets ∧ (s.takeNotice f).table = s.table ∧
    (s.takeNotice f).planner.voltage = s.planner.voltage ∧
    (s.takeNotice f).planner.available = s.planner.available ∧
    (s.takeNotice f).planner.parkThreshold = s.planner.parkThreshold ∧
    (s.takeNotice f).planner.leanThreshold = s.planner.leanThreshold ∧
    (s.takeNotice f).planner.energy = s.planner.energy ∧
    (s.takeNotice f).planner.boardParked = s.planner.boardParked ∧
    (s.takeNotice f).planner.sweep = s.planner.sweep ∧
    (s.takeNotice f).engine.freshHold = s.engine.freshHold ∧
    (s.takeNotice f).engine.faults = s.engine.faults ∧ (s.takeNotice f).engine.faulted = s.engine.faulted ∧
    (s.takeNotice f).sense = s.sense ∧ (s.takeNotice f).rx.lastCharacter = s.rx.lastCharacter ∧
    (s.takeNotice f).rx.queue = s.rx.queue ∧ (s.takeNotice f).rx.mode = s.rx.mode ∧
    (s.takeNotice f).rx.quietTimer = s.rx.quietTimer ∧ (s.takeNotice f).rx.sniffTimer = s.rx.sniffTimer ∧
    (s.takeNotice f).tx.reply = s.tx.reply ∧ (s.takeNotice f).tx.clockWaiting = s.tx.clockWaiting ∧
    (s.takeNotice f).tx.offerWaiting = s.tx.offerWaiting ∧ (s.takeNotice f).tx.lfsr = s.tx.lfsr ∧
    (s.takeNotice f).tx.line = s.tx.line := by
  unfold State.takeNotice; (repeat' split) <;> simp

@[simp] theorem State.answerQuery_frame (s : State) (q : QueryFields) :
    (s.answerQuery q).pending = s.pending ∧ (s.answerQuery q).elapsed = s.elapsed ∧
    (s.answerQuery q).loader = s.loader ∧ (s.answerQuery q).clock = s.clock ∧
    (s.answerQuery q).sheets = s.sheets ∧ (s.answerQuery q).table = s.table ∧
    (s.answerQuery q).board = s.board ∧ (s.answerQuery q).planner = s.planner ∧
    (s.answerQuery q).engine = s.engine ∧ (s.answerQuery q).sense = s.sense ∧ (s.answerQuery q).rx = s.rx ∧
    (s.answerQuery q).tx.clockWaiting = s.tx.clockWaiting ∧
    (s.answerQuery q).tx.offerWaiting = s.tx.offerWaiting ∧ (s.answerQuery q).tx.lfsr = s.tx.lfsr ∧
    (s.answerQuery q).tx.line = s.tx.line := by
  unfold State.answerQuery; simp

@[simp] theorem State.takeQuery_frame (s : State) (q : QueryFields) :
    (s.takeQuery q).pending = s.pending ∧ (s.takeQuery q).elapsed = s.elapsed ∧
    (s.takeQuery q).loader = s.loader ∧ (s.takeQuery q).clock = s.clock ∧ (s.takeQuery q).sheets = s.sheets ∧
    (s.takeQuery q).table = s.table ∧ (s.takeQuery q).board = s.board ∧ (s.takeQuery q).planner = s.planner ∧
    (s.takeQuery q).engine = s.engine ∧ (s.takeQuery q).sense = s.sense ∧
    (s.takeQuery q).rx.lastCharacter = s.rx.lastCharacter ∧ (s.takeQuery q).rx.queue = s.rx.queue ∧
    (s.takeQuery q).rx.mode = s.rx.mode ∧ (s.takeQuery q).rx.quietTimer = s.rx.quietTimer ∧
    (s.takeQuery q).rx.sniffTimer = s.rx.sniffTimer ∧ (s.takeQuery q).tx.clockWaiting = s.tx.clockWaiting ∧
    (s.takeQuery q).tx.offerWaiting = s.tx.offerWaiting ∧ (s.takeQuery q).tx.lfsr = s.tx.lfsr ∧
    (s.takeQuery q).tx.line = s.tx.line := by
  unfold State.takeQuery; (repeat' split) <;> simp

end Sys2Proof.Machine
end

