-- ==== Sys2Proof/Laws/Commands.lean ====
section
/-! SUPPORT. How a command's meaning runs: the guard of the blocks' start, the dispatcher and the timers, each with
one lemma that says all it can come to. -/

namespace Sys2Proof.Machine

open Sys2Proof

/-- What holds of the state as it is and of the effect holds of a guarded effect. -/
theorem whenStarted_cases {P : State → Prop} {s : State} {f : State → State}
    (idle : s.started = false → P s) (run : s.started = true → P (f s)) : P (s.whenStarted f) := by
  unfold State.whenStarted
  cases h : s.started with
  | true => exact run h
  | false => exact idle h

@[simp] theorem whenStarted_of_started {s : State} {f : State → State} (h : s.started = true) :
    s.whenStarted f = f s := by
  simp [State.whenStarted, h]

theorem whenStarted_of_not {s : State} {f : State → State} (h : s.started = false) : s.whenStarted f = s := by
  simp [State.whenStarted, h]

@[simp] theorem advance_started (s : State) (dt : Nat) : (s.advance dt).started = s.started := rfl

@[simp] theorem advanceTo_started (s : State) (t : Nat) : (s.advanceTo t).started = s.started := rfl

@[simp] theorem advance_elapsed (s : State) (dt : Nat) : (s.advance dt).elapsed = s.elapsed + dt := rfl

@[simp] theorem advanceTo_elapsed (s : State) (t : Nat) : (s.advanceTo t).elapsed = max s.elapsed t := by
  simp only [State.advanceTo, advance_elapsed]; omega

@[simp] theorem advance_headHeld (s : State) (dt : Nat) : (s.advance dt).headHeld = s.headHeld := rfl

@[simp] theorem advance_hearing (s : State) (dt : Nat) : (s.advance dt).hearing = s.hearing := rfl

/-- What the dispatcher hands on: the queue's head, of the kind asked for and not held, and the state without it. -/
theorem dispatch_eq_some {s t : State} {k : Kind} {g : ReceivedFrame} :
    s.dispatch k = some (g, t) ↔ ∃ rest, s.rx.queue = g :: rest ∧ headerKind g.header = k ∧ s.headHeld = false ∧
      t = { s with rx := { s.rx with queue := rest } } := by
  unfold State.dispatch
  split
  · simp_all
  · rename_i f rest h
    simp only [h, List.cons.injEq]
    constructor
    · intro hd
      split at hd
      · rename_i hc
        simp only [Option.some.injEq, Prod.mk.injEq] at hd
        exact ⟨rest, ⟨hd.1, rfl⟩, hd.1 ▸ hc.1, hc.2, hd.2.symm⟩
      · cases hd
    · rintro ⟨r, ⟨rfl, rfl⟩, hk, hh, rfl⟩
      simp [hk, hh]

/-- All a dispatch command can come to: time passes, or the owner takes the head. -/
theorem onDispatch_cases {P : State → Prop} {s : State} {dt : Nat} {k : Kind}
    {f : ReceivedFrame → State → State} (none : P (s.advance dt))
    (take : ∀ g rest, s.started = true → s.rx.queue = g :: rest → headerKind g.header = k → s.headHeld = false →
      P (f g { s.advance dt with rx := { s.rx with queue := rest } })) : P (s.onDispatch dt k f) := by
  unfold State.onDispatch
  refine whenStarted_cases (fun _ => none) (fun hs => ?_)
  cases h : (s.advance dt).dispatch k with
  | none => exact none
  | some p =>
    obtain ⟨g, v⟩ := p
    obtain ⟨rest, hq, hk, hh, rfl⟩ := dispatch_eq_some.1 h
    exact take g rest hs hq hk hh

/-- A dispatch command that finds its head. -/
theorem onDispatch_eq {s : State} {dt : Nat} {k : Kind} {f : ReceivedFrame → State → State} {g : ReceivedFrame}
    {rest : List ReceivedFrame} (hs : s.started = true) (hq : s.rx.queue = g :: rest)
    (hk : headerKind g.header = k) (hh : s.headHeld = false) :
    s.onDispatch dt k f = f g { s.advance dt with rx := { s.rx with queue := rest } } := by
  have hd : (s.advance dt).dispatch k = some (g, { s.advance dt with rx := { s.rx with queue := rest } }) :=
    dispatch_eq_some.2 ⟨rest, hq, hk, hh, rfl⟩
  simp [State.onDispatch, hs, hd]

/-- All a timer's expiry can come to. -/
theorem onTimer_cases {P : State → Prop} {s : State} {timer : Option Nat} {f : State → State} (idle : P s)
    (run : ∀ t, timer = some t → s.started = true → P (f (s.advanceTo t))) : P (s.onTimer timer f) := by
  unfold State.onTimer
  split
  · exact idle
  · exact whenStarted_cases (fun _ => idle) (fun h => run _ rfl h)

@[simp] theorem onTimer_some {s : State} {t : Nat} {f : State → State} (h : s.started = true) :
    s.onTimer (some t) f = f (s.advanceTo t) := by
  simp [State.onTimer, h]

end Sys2Proof.Machine
end

