-- ==== Sys2Proof/Laws/Counters.lean ====
section
/-! SUPPORT. Counters: a count changes its own counter, up to the maximum, and no other. -/

namespace Sys2Proof.Machine

open Sys2Proof

theorem Counter.place_inj {a b : Counter} : a.place = b.place ↔ a = b := by
  constructor
  · intro h
    have hv : a.ctorIdx = b.ctorIdx := congrArg Fin.val h
    rw [← Counter.ofNat_ctorIdx a, ← Counter.ofNat_ctorIdx b, hv]
  · rintro rfl; rfl

theorem Counters.get_add (cs : Counters) (c k : Counter) (n : Nat) :
    (cs.add c n).get k.place = if k = c then min (cs.get k.place + n) 4294967295 else cs.get k.place := by
  by_cases h : k = c
  · subst h
    simp [Counters.add, saturate, Vector.get_eq_getElem]
  · have hp : (c.place : Nat) ≠ k.place := fun hv => h (Counter.place_inj.1 (Fin.ext hv.symm))
    simp [Counters.add, h, Vector.get_eq_getElem, Vector.getElem_set_ne _ _ hp]

@[simp] theorem State.countMany_counter (s : State) (c k : Counter) (n : Nat) :
    (s.countMany c n).counter k = if k = c then min (s.counter k + n) 4294967295 else s.counter k :=
  Counters.get_add _ _ _ _

@[simp] theorem State.count_counter (s : State) (c k : Counter) :
    (s.count c).counter k = if k = c then min (s.counter k + 1) 4294967295 else s.counter k :=
  Counters.get_add _ _ _ _

theorem State.counter_congr {s t : State} (h : t.counters = s.counters) (k : Counter) :
    t.counter k = s.counter k := by
  simp only [State.counter, h]

end Sys2Proof.Machine
end

