-- ==== Sys2Proof/Laws/Vectors.lean ====
section
/-! SUPPORT. Vectors and rows of cells: what stands at a place after a change of all places. -/

namespace Sys2Proof.Machine

open Sys2Proof

@[simp] theorem mapPlaces_getElem {α β : Type} {n : Nat} (f : Nat → α → β) (v : Vector α n) (i : Nat) (h : i < n) :
    (mapPlaces f v)[i] = f i v[i] := by
  simp [mapPlaces]

@[simp] theorem mapVector_getElem {α β : Type} {n : Nat} (f : α → β) (v : Vector α n) (i : Nat) (h : i < n) :
    (mapVector f v)[i] = f v[i] := by
  simp [mapVector]

@[simp] theorem mapPlaces_get {α β : Type} {n : Nat} (f : Nat → α → β) (v : Vector α n) (i : Fin n) :
    (mapPlaces f v).get i = f i (v.get i) := by
  simp [mapPlaces, Vector.get_eq_getElem]

@[simp] theorem toList_getD {α : Type} {n : Nat} (v : Vector α n) (d : α) (i : Nat) (h : i < n) :
    v.toList.getD i d = v[i] := by
  simp [List.getD, h]

/-- A row of exactly `n` cells fills `n` cells. -/
theorem fit_of_length {n : Nat} {cells : Cells} (h : cells.length = n) : fit n cells = cells := by
  simp [fit, ← h]

theorem fit_length (n : Nat) (cells : Cells) : (fit n cells).length = n := by
  simp [fit]

end Sys2Proof.Machine
end

