-- ==== Sys2Proof/Laws/Claims.lean ====
section
/-! SUPPORT. Small lemmas on the words the statements are written in. -/

namespace Sys2Proof.Claims

open Sys2Proof Sys2Proof.Machine

theorem count_cons_iff (c k : Counter) (l : List Counter) :
    (c :: l).count k = l.count k + if k = c then 1 else 0 := by
  rw [List.count_cons]
  by_cases h : k = c
  · simp [h]
  · rw [if_neg h, if_neg (by simpa using fun e => h e.symm)]

theorem count_replicate_iff (c k : Counter) (n : Nat) :
    (List.replicate n c).count k = if k = c then n else 0 := by
  rw [List.count_replicate]
  by_cases h : k = c
  · simp [h]
  · rw [if_neg h, if_neg (by simpa using fun e => h e.symm)]

theorem counted_nil {s t : State} (h : t.counters = s.counters) : Counted [] s t := by
  intro k hk
  rw [State.counter_congr h]
  simpa using hk

theorem counted_of {c : Counter} {s t : State} {cs : List Counter} (v : State) (hv : Counted cs s v)
    (h : t.counters = (v.count c).counters) : Counted (cs ++ [c]) s t := by
  intro k hk
  rw [State.counter_congr h, State.count_counter, List.count_append, count_cons_iff, hv k hk]
  by_cases hc : k = c
  · simp only [hc, if_true, List.count_nil]; omega
  · simp only [hc, if_false, List.count_nil]; omega

theorem counted_one {c : Counter} {s t : State} (h : t.counters = (s.count c).counters) : Counted [c] s t :=
  counted_of s (counted_nil rfl) h

theorem counted_many {c : Counter} {n : Nat} {s t : State} {cs : List Counter} (v : State) (hv : Counted cs s v)
    (h : t.counters = (v.countMany c n).counters) : Counted (cs ++ List.replicate n c) s t := by
  intro k hk
  rw [State.counter_congr h, State.countMany_counter, List.count_append, count_replicate_iff, hv k hk]
  by_cases hc : k = c
  · simp only [hc, if_true]; omega
  · simp only [hc, if_false]; omega

end Sys2Proof.Claims
end

