-- ==== Sys2Proof/Laws/Operations.lean ====
section
/-! SUPPORT. What some shared operations come to, each said once: the candidates and the groups of a fill pass, the comparator, the
record a frame was made from, and the stop of a job at store-low. -/

namespace Sys2Proof.Machine

open Sys2Proof

/-- An entry is the one of a slot, day and run number exactly where it has all three (1.2). -/
@[simp] theorem Entry.isRun_iff {e : Entry} {slot : SlotIx} {day : Day} {run : Nat} :
    e.isRun slot day run = true ↔ e.slot = slot ∧ e.day = day ∧ e.run = run := by
  simp [Entry.isRun, and_assoc]

/-- A candidate is held exactly where some entry is the one of its slot, day and run number (R1). -/
@[simp] theorem Candidate.held_iff {es : List Entry} {x : Candidate} :
    x.held es = true ↔ ∃ e ∈ es, e.slot = x.slot ∧ e.day = x.day ∧ e.run = x.run.number := by
  simp [Candidate.held]

@[simp] theorem mem_insertBy {α : Type} {before : α → α → Bool} {a x : α} {l : List α} :
    x ∈ insertBy before a l ↔ x = a ∨ x ∈ l := by
  induction l with
  | nil => simp [insertBy]
  | cons b rest ih =>
    rw [insertBy]
    split
    · simp
    · simp [ih, or_left_comm]

@[simp] theorem mem_sortBy {α : Type} {before : α → α → Bool} {x : α} {l : List α} :
    x ∈ sortBy before l ↔ x ∈ l := by
  induction l with
  | nil => rfl
  | cons b rest ih => simp [sortBy, ih]

/-- All that the candidates of a pass are: what an enabled slot's sheets for D and D+1 offer, but for the runs the table
holds already (R1, R6). -/
theorem mem_candidates {c : Loaded} {day : Day} {now : Int} {slots : Vector SlotSheets 6} {t : Table} {x : Candidate} :
    x ∈ candidates c day now slots t ↔
      (∃ i ∈ enabledSlots c,
        x ∈ positionCandidates c now (t.marks.get i) i day 0 ((slots.get i).forDay day) ∨
          x ∈ positionCandidates c now (t.marks.get i) i (day + 1#16) 1 ((slots.get i).forDay (day + 1#16))) ∧
        x.held t.entries = false := by
  simp [candidates]

/-- All a fill pass can come to on its groups: the first `k` admitted whole; and then it ends, every place being asked
for and some not free, or a group larger than the table meets every place free (R7). -/
theorem passGroups_cases (c : Loaded) (day : Day) (now : Int) (gs : List (List Candidate)) (used : Nat)
    (r : Table × Counters) :
    ∃ k ≤ gs.length,
      let whole := (gs.take k).flatten
      let admitted := whole.foldl (admitCandidate c day now) r
      (k = 0 ∨ used + whole.length ≤ Config.tableCapacity) ∧
        ((∃ g, gs[k]? = some g ∧ used + whole.length = 0 ∧ Config.tableCapacity < g.length ∧
            passGroups c day now gs used r = admitLargeGroup c day now admitted g) ∨
          ((∀ g, gs[k]? = some g → used + whole.length ≠ 0 ∧
              Config.tableCapacity < used + whole.length + g.length) ∧
            passGroups c day now gs used r = admitted)) := by
  induction gs generalizing used r with
  | nil => exact ⟨0, by simp, .inl rfl, .inr ⟨by simp, rfl⟩⟩
  | cons g rest ih =>
    by_cases fits : used + g.length ≤ Config.tableCapacity
    · obtain ⟨k, hk, room, h⟩ := ih (used + g.length) (g.foldl (admitCandidate c day now) r)
      refine ⟨k + 1, by simpa using hk, .inr ?_, ?_⟩
      · rcases room with rfl | room
        · simpa using fits
        · simpa [Nat.add_assoc] using room
      · simpa [passGroups, fits, Nat.add_assoc] using h
    · refine ⟨0, by simp, .inl rfl, ?_⟩
      by_cases free : used = 0
      · subst free
        have large : ¬ g.length ≤ Config.tableCapacity := by omega
        exact .inl ⟨g, by simp, by simp, by omega, by simp [passGroups, large]⟩
      · exact .inr ⟨by simp; omega, by simp [passGroups, fits, free]⟩

@[simp] theorem comparator_below {warning node : Nat} {low : Bool} (h : node < warning) :
    comparator warning node low = true := by
  simp [comparator, h]

@[simp] theorem comparator_above {warning node : Nat} {low : Bool} (h : warning + 50 < node) :
    comparator warning node low = false := by
  simp [comparator, h, show ¬ node < warning by omega]

@[simp] theorem comparator_between {warning node : Nat} {low : Bool} (h : warning ≤ node) (h' : node ≤ warning + 50) :
    comparator warning node low = low := by
  simp [comparator, Nat.not_lt.2 h, Nat.not_lt.2 h']

/-- Store-low begins where it is inactive and its node lies below Vwarn (R141). -/
theorem storeLow_begins_iff {warning node : Nat} {low : Bool} :
    (!low && comparator warning node low) = true ↔ low = false ∧ node < warning := by
  cases low <;> simp [comparator]

/-- Store-low ends where it is active and its node lies above Vwarn + 50 (R141). -/
theorem storeLow_ends_iff {warning node : Nat} {low : Bool} :
    (low && !comparator warning node low) = true ↔ low = true ∧ warning + 50 < node := by
  cases low
  · simp
  · simp [comparator]; omega

/-- The record a frame was made from is told by all four: its slot, day, version and number (R61). -/
@[simp] theorem Publication.isOf_iff {p : Publication} {slot : SlotIx} {day : Day} {version : Version} {made : Nat} :
    p.isOf slot day version made = true ↔
      p.slot = slot ∧ p.day = day ∧ p.version = version ∧ p.made = made := by
  simp [Publication.isOf, and_assoc]

/-- All that store-low does to a job on the glass at once: nothing, or the stop of a RUNNING job that waits for a read
(R130). -/
theorem State.stopAtRead_cases (s : State) :
    s.stopAtRead = s ∨ ∃ a, s.engine.active = some a ∧ a.state = .running ∧ s.engine.port = .reading ∧
      s.stopAtRead = s.suspendReported a := by
  unfold State.stopAtRead
  split
  · exact .inl rfl
  · rename_i a ha
    by_cases h : a.state = .running ∧ s.engine.port = .reading
    · exact .inr ⟨a, ha, h.1, h.2, by simp [h]⟩
    · exact .inl (by simp [h])

end Sys2Proof.Machine
end

