-- ==== Sys2Proof/WellFormed.lean ====
section
/-! DEFINITION. Which terms of `Instr` are commands the outside world can bring: the bounds the spec puts
on a step's operands. A meaning is total all the same; see assumption log 3. -/

namespace Sys2Proof

/-- The operands of a command lie within the spec's bounds. -/
def WellFormed : Instr → Bool
  | .nporRelease => true
  -- R167: an absent memory shows within the 60 ms of the read
  | .configurationAbsent dt _ => dt ≤ 60
  -- R167: 512 bytes, read within 60 ms of the release
  | .configurationReadComplete dt _ image => dt ≤ 60 && image.length == 512
  | .character _ _ _ _ => true
  | .idle _ => true
  | .clockFrame _ _ _ => true
  | .offerFrame _ => true
  | .sheetFrame _ => true
  | .passFrame _ => true
  | .sightFrame _ => true
  | .noticeFrame _ => true
  | .queryFrame _ => true
  | .replyDiscarded _ => true
  -- R19: a rebuild completes no later than 30 ms after it starts
  | .rebuildCompletion ending => ending.dt ≤ 30
  | .countedSecond _ _ => true
  | .agingTimerExpiry => true
  | .beaconTimerExpiry => true
  | .offerTimerExpiry => true
  | .assemblyTimeout => true
  | .holdoffEnd => true
  | .scanTimerExpiry => true
  -- R139: a conversion completes within 1 ms of its start
  | .scanCompletion dt _ => dt ≤ 1
  | .storeLowActive _ => true
  | .storeLowInactive _ => true
  | .temperatureTimerExpiry => true
  | .temperatureAnswer _ _ => true
  | .readTimeout => true
  | .loadStepEnd _ => true
  | .ready _ _ => true
  | .readyTimeout => true
  | .stopSent _ => true
  | .suspendLimitExpiry => true
  | .quietTimerExpiry => true
  | .sniffTimerExpiry => true
  | .windowClose => true
  | .carrierDetectRise _ => true
  | .carrierQuiet _ => true
  | .backoffSlot _ => true
  -- R165: the longest frame takes 48 character times, about 55 ms
  | .frameSent dt => dt ≤ 56
  | .frameAbandoned => true
  | .nporAsserted => true

end Sys2Proof
end

