-- ==== Sys2Proof/Tests/Slice0.lean ====
section
/-! SUPPORT. Tests: the checks of `WellFormed`, values from the spec's worked sequences, and for each statement a
state and operands that meet its hypotheses. -/

namespace Sys2Proof.Tests

open Sys2Proof Sys2Proof.Machine Sys2Proof.Claims

/-! ### Small states -/

/-- A text as codes, filled up with blanks. -/
def text (n : Nat) (t : List Nat) : Cells := t.map (BitVec.ofNat 8) ++ List.replicate (n - t.length) 32#8

/-- Slot 1 of the worked sequences: route tag 214, s = 9, terminal index 20, T = 1,260. -/
def slot1 : SlotConfig := ⟨true, 214, 9, 20, 1260, text 4 [49, 52], text 18 [78], text 18 [68]⟩

/-- The configuration of the worked sequences: stop id 305, slot 1, defaults elsewhere. -/
def conf : Loaded := { Config.defaults with stopId := 305#16, slots := Config.defaults.slots.set 0 slot1 }

/-- A part that has started, AMPLE, in LISTEN, on day 812 at second 28,005. -/
def base : State := { State.reset with
  elapsed := 50000
  loader := ⟨true, .done, .image, conf⟩
  clock := { State.clockReset with timeValid := true, day := 812#16, second := 28005, stratum := 2 }
  planner := { State.plannerReset conf with energy := .ample }
  rx := { State.rxReset with radio := true }
  tx := { State.txReset with lfsr := 305#16 } }

/-- The state a command leads to. -/
def after (c : Instr) (s : State) : State :=
  match exec c s with
  | .next t => t
  | .fault _ => s
  | .refused _ => s

/-- Run 37 of day 812, due here at 28,260. -/
def run37 : Entry := ⟨0, 812#16, 37, 27000, none, 28260, none, 28260, .expected, none, none⟩

/-- Run 37 at the stop. -/
def stopped37 : Entry := { run37 with
  observation := some ⟨.sight, 9, 350, 28004⟩, predicted := 28610, state := .atStop, lastSight := some 28004 }

/-- A state whose table holds entries. -/
def withEntries (es : List Entry) : State :=
  { base with table := { State.tableReset with entries := es, marks := Vector.replicate 6 28260 } }

/-- A frame as the receive queue holds it. -/
def frame (k : Kind) (body : List Byte) : ReceivedFrame := ⟨header k 0, body, 50000⟩

/-- A state with a frame at the head of the receive queue. -/
def given (s : State) (g : ReceivedFrame) : State := { s with rx := { s.rx with queue := [g] } }

/-- A part in SNIFF in DORMANT, its window open until 52,000. -/
def sniffing : State := { base with
  planner := { base.planner with energy := .dormant }
  rx := { base.rx with mode := .sniff, sniffTimer := some 70000, window := .running 52000 } }

/-- Job 30 of the worked sequence: CLEARING over lines 4..5. -/
def job30 : Job := ⟨30#8, .normal, 4, 5, .clearing, 840, 0⟩

/-- A job that is on the glass. -/
def active30 (phase : Nat) : ActiveJob :=
  ⟨{ job30 with phaseIndex := phase }, .b3, [text 32 [65], text 32 [66]], .running, true, false⟩

/-- A part whose panel port stands in a state with a job active. -/
def driving (port : PanelPort) (a : ActiveJob) : State := { base with
  sense := { base.sense with band := .b3 }
  engine := { base.engine with active := some a, port := port, commands := [.stop] } }

/-- A part in PHASE of job 30. -/
def inPhase (phase : Nat) : State :=
  let s := driving .phase (active30 phase)
  { s with engine := { s.engine with phaseDeadline := some 50180 } }

/-- A part with a frame granted. -/
def granted (source : Source) (state : SendState) : State := { base with
  tx := { base.tx with
    state := state, granted := some ⟨source, ⟨0x61#8, [1#8]⟩, 49000⟩, stage := .countdown, backoff := some 2
    line := if state = .sending then [1#11] else [] } }

/-- A part that holds one of everything the laws speak of. -/
def rich : State :=
  let s := inPhase 3
  { s with
    table := { State.tableReset with entries := [run37], marks := Vector.replicate 6 28260 }
    sheets := { s.sheets with slots := s.sheets.slots.set 0 ⟨[⟨812#16, 40#16, [⟨37, 27000, none⟩]⟩], none⟩ }
    planner := { s.planner with staged := some ⟨31#8, .normal, 1, 2, .partialMode, 300, 0⟩ }
    rx := { s.rx with queue := [frame .clock (clockBody 306#16 1 812#16 28005)] }
    tx := (granted .clock .access).tx }

/-- A part whose store holds a NORMAL and an URGENT notice, the URGENT one current. -/
def noticed : State := { base with board := { base.board with
  notices := [⟨1#16, 1#8, .all 0#16, false, 812#16, 40000, []⟩, ⟨2#16, 1#8, .all 0#16, true, 812#16, 28007, []⟩]
  current := some 1, shownSince := 40000 } }

/-- A whole sheet of one fragment, day 812, version 41. -/
def whole : Assembly := ⟨812#16, 41#16, 1, [(0, [⟨37, 27001, none⟩])], .complete, 49000⟩

/-- A rebuild of slot 1 in flight, behind which a whole sheet of that slot waits. -/
def rebuilding : State := { rich with
  table := { rich.table with rebuild := some ⟨0, 812#16, [⟨37, 27000, none⟩]⟩ }
  sheets := { rich.sheets with
    slots := rich.sheets.slots.set 0 ⟨[⟨812#16, 40#16, [⟨37, 27000, none⟩]⟩], some whole⟩, waiting := [0] } }

/-! ### WellFormed -/

theorem test_wellFormed_absent : WellFormed (.configurationAbsent 60 3000) = true := by decide
theorem test_illFormed_absent_late : WellFormed (.configurationAbsent 61 3000) = false := by decide
theorem test_illFormed_read_late :
    WellFormed (.configurationReadComplete 61 3000 (List.replicate 512 0#8)) = false := by decide
theorem test_illFormed_image_short : WellFormed (.configurationReadComplete 41 3000 [0#8]) = false := by decide
theorem test_illFormed_rebuild_late : WellFormed (.rebuildCompletion ⟨31, true⟩) = false := by decide
theorem test_illFormed_conversion_late : WellFormed (.scanCompletion 2 0#12) = false := by decide
theorem test_illFormed_frame_long : WellFormed (.frameSent 57) = false := by decide

/-! ### Values of the spec -/

/-- The check of R149 is the common one with all ones at the start; its value over the codes of 123456789 is 29B1. -/
theorem test_crc : crc (text 9 [49, 50, 51, 52, 53, 54, 55, 56, 57]) = 0x29B1#16 := by decide +kernel

/-- A row of the table spells no bits, so no word spells a command. -/
theorem test_no_word : decodeTableWord 32 0 = none := by decide

/-- 2.10: PASS k 4, d +340 gives P = 28,540; at 27,952 the figure is 10. -/
theorem test_projection : (Entry.evaluate conf 27952 { run37 with observation := some ⟨.pass, 4, 340, 27950⟩ }).map
    (fun e => (e.predicted, e.shown)) = some (28540, some 10) := by decide

/-- 2.10: at 27,990 the figure of 10 is held, and at 28,005 it falls to 9. -/
theorem test_hysteresis : nextFigure conf (some 10) 550 = 10 ∧ nextFigure conf (some 10) 535 = 9 := by decide

/-- 2.10: without observation the field shows S as 11:21. -/
theorem test_time_field :
    timeField { conf with dayStart := 210 } run37 = text 3 [] ++ [49#8, 49#8, 58#8, 50#8, 49#8] := by
  decide

/-- 1.5: PASS k 4 advances run 37; its relayed copy from behind does not. -/
theorem test_pass_advances :
    (after (.passFrame 0) (given (withEntries [run37])
      (frame .pass (passBody ⟨400#16, 214, 37, 812#16, 4, 340, 27950, 3⟩)))).table.entries.map (·.predicted) =
        [28540] := by
  decide +kernel

/-- 1.5: SIGHT LEAVING takes an entry at the stop out and originates a report. -/
theorem test_sight_leaving :
    let t := after (.sightFrame 0) (given (withEntries [stopped37])
      (frame .sight (bytesOf 2 3 ++ bytesOf 2 214 ++ bytesOf 2 37 ++ bytesOf 1 9 ++ bytesOf 1 1)))
    t.table.entries = [] ∧ t.counter .passageOriginated = 1 := by decide +kernel

/-- 4.6: at 130.005 the frame of the reference station is adopted one stratum below. -/
theorem test_clock_adopted :
    let t := after (.clockFrame 5 true true) (given { base with clock := { base.clock with stratum := 3 } }
      (frame .clock (clockBody 900#16 0 812#16 28091)))
    t.clock.stratum = 1 ∧ t.clock.second = 28091 ∧ t.clock.phase = 5 := by decide +kernel

/-- 4.6: the turn of the day by adoption. -/
theorem test_next_day :
    (after (.clockFrame 0 true true) (given
      { base with clock := { base.clock with second := 86398, phase := 600, stratum := 1 } }
      (frame .clock (clockBody 900#16 0 813#16 1)))).counter .nextDayAdoption = 1 := by decide +kernel

/-- 8.2: 2,404 counts at 6,600 mV full scale are 3,873 mV, and 15,000 mJ above the floor; the part is DORMANT. -/
theorem test_first_scan :
    let t := after (.scanCompletion 0 2404#12) { base with
      planner := { base.planner with energy := .dormant }
      sense := { base.sense with band := .b3, converting := true } }
    t.planner.voltage = some 3873 ∧ t.planner.available = 15000 ∧ t.planner.parkThreshold = 11780 ∧
      t.planner.energy = .dormant := by decide +kernel

/-- 8.5: 3 °C lies outside B3's widened range, and −15 °C inside FROZEN's. -/
theorem test_bands : judgeBand .b3 4 = .b3 ∧ judgeBand .b3 3 = .b2 ∧ judgeBand .b2 5 = .b2 ∧
    judgeBand .unknown (-16) = .frozen ∧ judgeBand .frozen (-15) = .frozen := by decide

/-- 7.11: three of ten phases driven leave ceil(840 · 7 / 10) = 588. -/
theorem test_remaining : ({ job30 with phaseIndex := 3 } : Job).remaining = 588 := by decide

/-- 7.11: READY with store-low active suspends the job at the new phase index. -/
theorem test_suspended :
    let s := inPhase 2
    ((after (.ready 0 false) { s with sense := { s.sense with storeLow := true } }).engine.active.map fun a =>
      (a.job.phaseIndex, a.state)) = some (3, .suspended) := by decide +kernel

/-- 9.8: a rise in the countdown freezes it with its slots kept. -/
theorem test_deferred :
    let t := after (.carrierDetectRise 1) (granted .relay .access)
    t.tx.stage = .carrierWait ∧ t.tx.backoff = some 2 ∧ t.counter .accessDeferred = 1 := by decide +kernel

/-- 9.9: the header of an OFFER is filtered in SNIFF. -/
theorem test_filtered :
    let t := after (.character 0 0x642#11 0x642#11 0x642#11) sniffing
    t.rx.state = .skip ∧ t.counter .filtered = 1 := by decide +kernel

/-- 5.10: a first notice of scope ALL is stored and is current. -/
theorem test_notice :
    let t := after (.noticeFrame 0) (given base
      (frame .notice (noticeBody ⟨900#16, 5#8, .all 0#16, false, 812#16, 40000, [65#8]⟩ 2)))
    t.board.notices.length = 1 ∧ t.board.current = some 0 ∧ t.counter .noticeRelayed = 1 := by decide +kernel

/-- R28, R36: the figure of 10 goes with the stale observation, so 560 s are shown as 9 and not held at 10. -/
theorem test_dropped_figure :
    (after (.passFrame 0) (given
      (withEntries [{ run37 with observation := some ⟨.pass, 4, 340, 27104⟩, shown := some 10 }])
      (frame .pass (passBody ⟨400#16, 214, 37, 812#16, 8, 317, 28000, 3⟩)))).table.entries.map
        (fun e => (e.predicted - 28005, e.shown)) = [(560, some 9)] := by decide +kernel

/-- R7, R8, R33: with 47 entries a run past its grace is the 48th, and ends the pass though it leaves at once. -/
theorem test_last_place :
    let s := withEntries (List.replicate 47 run37)
    let s := { s with
      sheets := { s.sheets with
        slots := s.sheets.slots.set 0 ⟨[⟨812#16, 40#16, [⟨1, 25740, none⟩, ⟨2, 27001, none⟩]⟩], none⟩ }
      table := { s.table with marks := Vector.replicate 6 26999 } }
    let t := s.fillPass
    t.table.entries.length = 47 ∧ t.counter .admission = 1 ∧ t.counter .overdueRemoval = 1 ∧
      t.table.marks.get 0 = 27000 := by decide +kernel

/-- R61: the end of a frame that was made from a discarded record moves no other record's cursor. -/
theorem test_report_of_a_gone_record :
    let s := granted (.publication 0 812#16 40#16 0) .sending
    let s := { s with
      sheets := { s.sheets with publications := [⟨0, 812#16, 40#16, 0, .holdoff 60000, 1⟩], made := 2 } }
    (after (.frameSent 9) s).sheets.publications = s.sheets.publications := by decide +kernel

/-- R141: with Vwarn at 3,400 mV a node of 3,450 mV leaves store-low as it stands, one of 3,451 mV ends it; and a node
of 3,400 mV does not begin it, one of 3,399 mV does. -/
theorem test_comparator :
    let low := { base with sense := { base.sense with storeLow := true } }
    conf.warning = 3400 ∧
      (after (.storeLowInactive ⟨0, 3450⟩) low).sense.storeLow = true ∧
      (after (.storeLowInactive ⟨0, 3451⟩) low).sense.storeLow = false ∧
      (after (.storeLowActive ⟨0, 3400⟩) base).sense.storeLow = false ∧
      (after (.storeLowActive ⟨0, 3399⟩) base).sense.storeLow = true := by decide +kernel

/-- R85, R176: a notice of scope ALL has no scope id, which its page gives as all ones. -/
theorem test_absent_scope_id :
    ((payload { base with
      board := { base.board with notices := [⟨900#16, 5#8, .all 0#16, false, 812#16, 40000, [65#8]⟩] } }
      4 6).drop 4).take 2 = [255#8, 255#8] := by decide +kernel

/-! ### Witnesses: each statement's hypotheses are met -/

/-- A frame of a kind stands at the head of a state that has started. -/
theorem atHead_given (s : State) (k : Kind) (b : List Byte) (h : s.started = true) (hk : headerKind (header k 0) = k)
    (hh : (given s (frame k b)).headHeld = false) : AtHead k (frame k b) [] (given s (frame k b)) :=
  ⟨h, rfl, hk, hh⟩

theorem test_witness_StepRunsTheFrontCommand :
    ({ base with pending := [.idle 5] } : State).pending = .idle 5 :: [] ∧ base.pending = [] := by decide

theorem test_witness_CommandsOutOfPlaceDoNothing :
    (State.reset.loader.state = .reading ∧ Instr.idle 5 ≠ .nporRelease ∧ Instr.idle 5 ≠ .nporAsserted ∧
      (∀ dt node, Instr.idle 5 ≠ .configurationAbsent dt node) ∧
      ∀ dt node image, Instr.idle 5 ≠ .configurationReadComplete dt node image) ∧
    (∀ g rest, ¬ AtHead .pass g rest base) ∧
      ∀ g rest, ¬ AtHead .pass g rest
        (given { base with table := { base.table with rebuild := some ⟨0, 812#16, []⟩ } } (frame .pass [])) := by
  refine ⟨⟨by decide, by decide, by decide, (fun _ _ h => nomatch h), (fun _ _ _ h => nomatch h)⟩, ?_, ?_⟩
  · intro g rest h; have := h.2.1; cases this
  · intro g rest h; have := h.2.2.2; revert this; decide

theorem test_witness_TimeStaysValid :
    base.clock.timeValid = true ∧ ∃ t, exec (.countedSecond .first ⟨true, .planner⟩) base = .next t :=
  ⟨by decide, _, rfl⟩

theorem test_witness_StepKeepsCapacities :
    rich.Bounded ∧ rich.QueueFits ∧ noticed.RotationSound ∧
      ∃ t, step { rich with pending := [.clockFrame 0 true true] } = .next t := by
  refine ⟨by unfold State.Bounded; decide, by unfold State.QueueFits; decide, by unfold State.RotationSound; decide,
      _, rfl⟩

theorem test_witness_StepKeepsRanges : rich.InRange ∧ rich.GhostsInRange := by
  refine ⟨by unfold State.InRange; decide, by decide, ?_, by decide⟩
  intro a h
  have : active30 3 = a := by simpa [rich, inPhase, driving] using h
  subst this
  exact .inl rfl

theorem test_witness_CountersOnlyRise : rich.CountersInRange := by
  intro k; simp [rich, inPhase, driving, base, State.counter, State.reset]

theorem rich_sheets_sound : rich.SheetsSound := by
  intro i
  refine ⟨?_, ?_, ?_⟩ <;> revert i <;> (try unfold sheetSound) <;> decide

theorem test_witness_StepKeepsSheetsSound : rich.SheetsSound ∧ rebuilding.WaitingSound ∧
    rebuilding.sheets.waiting ≠ [] := by
  refine ⟨rich_sheets_sound, ?_, by decide⟩
  unfold State.WaitingSound; decide

theorem test_witness_StepKeepsFillMarks : rich.table.entries ≠ [] ∧ rich.MarksCover ∧ rich.SheetsSound ∧
    rich.OneEntryEach := by
  refine ⟨by decide, by unfold State.MarksCover; decide, rich_sheets_sound, ?_⟩
  unfold State.OneEntryEach; decide

theorem test_witness_StepKeepsPredictionsInRange : rich.PredictionsInRange := by
  refine ⟨?_, by decide⟩
  intro e h
  have : e = run37 := by simpa [rich] using h
  subst this
  exact ⟨by intro o h; simp [run37] at h, by decide, by decide⟩

theorem test_witness_StepKeepsJobsApart :
    rich.planner.staged ≠ none ∧ rich.engine.active ≠ none ∧ rich.JobsApart ∧ rich.DormantStagesPark ∧
      rich.ActiveInDriveBand := by
  refine ⟨by decide, by decide, ?_, by intro h; exact absurd h (by decide), ?_⟩
  · intro j a hj ha n
    have hj' : (⟨31#8, .normal, 1, 2, .partialMode, 300, 0⟩ : Job) = j := by
      simpa [rich, inPhase, driving] using hj
    have ha' : active30 3 = a := by simpa [rich, inPhase, driving] using ha
    subst hj' ha'; revert n; decide
  · intro a ha
    have ha' : active30 3 = a := by simpa [rich, inPhase, driving] using ha
    subst ha'; decide

theorem test_witness_StepKeepsPortsSound :
    rich.SuspensionMarked ∧ rich.PortSound ∧ rich.SendSound ∧ rich.RadioSound := by
  refine ⟨⟨by decide, ?_⟩, by unfold State.PortSound; decide, by unfold State.SendSound; decide,
    by unfold State.RadioSound; decide⟩
  rintro ⟨a, ha, hs⟩
  have ha' : active30 3 = a := by simpa [rich, inPhase, driving] using ha
  subst ha'; simp [active30] at hs

theorem test_witness_ConfigurationStartsTheBlocks :
    (after .nporRelease State.reset).AtPowerOn ∧ (after .nporRelease State.reset).loader.released = true ∧
      (List.replicate 512 (0#8 : Byte)).length = 512 ∧ base.loader.state = .done ∧
      State.reset.loader.released = false := ⟨rfl, rfl, List.length_replicate .., rfl, rfl⟩

theorem test_witness_CharacterMovesTheReceiveState :
    base.started = true ∧ base.hearing = true ∧ base.radioWanted = true ∧ base.rx.mode = .listen ∧
      (∀ i < 11, (0x402#11).getLsbD i = true ↔
        2 ≤ ([0x402#11, 0x402#11, 0x400#11].countP fun x => x.getLsbD i)) ∧
      sniffing.started = true ∧ sniffing.hearing = true ∧ sniffing.radioWanted = true ∧
      ¬ passesFilter conf 0x21#8 ∧ passesFilter conf 0x76#8 ∧ State.reset.rx.radio = false ∧
      (granted .clock .sending).tx.state = .sending := by
  refine ⟨rfl, rfl, rfl, rfl, by decide, rfl, rfl, rfl, ?_, ?_, rfl, rfl⟩
  · intro h; exact h
  · exact ⟨0, by decide, by decide⟩

theorem test_witness_IdleJudgesTheFrame :
    ∀ st ∈ [ReceiveState.hunt, .assemble, .skip],
      let s := { base with rx := { base.rx with state := st, buffer := [1#8] } }
      s.started = true ∧ s.hearing = true ∧ s.radioWanted = true := by decide

theorem test_witness_QuietScanAndAgingTimers :
    let s := { base with
      rx := { base.rx with quietTimer := some 50000 }
      sense := { base.sense with scanTimer := some 51000 }
      clock := { base.clock with agingTimer := some 50001, stratum := 7 } }
    s.started = true ∧ s.rx.quietTimer = some 50000 ∧ s.sense.scanTimer = some 51000 ∧
      s.clock.agingTimer = some 50001 := by decide

theorem test_witness_SniffWindowsOpenAndClose :
    sniffing.started = true ∧ sniffing.rx.sniffTimer = some 70000 ∧ sniffing.rx.window = .running 52000 ∧
      sniffing.rx.radio = true := by decide

theorem test_radio_sound : base.RadioSound ∧ sniffing.RadioSound := by
  unfold State.RadioSound; decide

/-- A CLOCK frame of this second, its stratum `f` and second `x`. -/
def clockHead (f x : Nat) : ReceivedFrame := frame .clock (clockBody 306#16 f 812#16 x)

theorem test_witness_ClockFramesAdopted :
    AtHead .clock (clockHead 1 28007) [] (given base (clockHead 1 28007)) ∧
    (given base (clockHead 1 28007)).RadioSound ∧
      (∀ x ∈ [clockHead 1 28007, clockHead 0 28005],
        (readClock x.body).stratum ≠ 7 ∧ (readClock x.body).second ≤ 86399 ∧
        Adopted base.clock (base.clock.second * 1000) (readClock x.body) (presentOf (readClock x.body) 0)) ∧
      Adopted State.clockReset 0 (readClock (clockHead 6 86399).body) (presentOf ⟨6, 812#16, 86399⟩ 0) ∧
      (given noticed (clockHead 1 28007)).RotationSound ∧ (given base (clockHead 1 28007)).WaitingSound ∧
      rebuilding.WaitingSound ∧ (discarded 811#16 rebuilding.sheets).waiting = [0] ∧
      Good ((discarded 811#16 rebuilding.sheets).slots.get 0) whole := by
  refine ⟨atHead_given _ _ _ rfl rfl rfl, test_radio_sound.1, ?_, .inl rfl, by unfold State.RotationSound; decide,
      ?_, ?_⟩
  · unfold Adopted; decide
  · unfold State.WaitingSound; decide
  · unfold State.WaitingSound Good; decide +kernel

theorem test_witness_CountedSecondMovesTheClock :
    (∀ x ∈ [28005, 28014, 86399],
      ({ base with clock := { base.clock with second := x } } : State).clock.second < 86400) ∧
      base.started = true ∧ base.clock.timeValid = true ∧ (28005 + 1) % 15 ≠ 0 ∧ (28004 + 1) % 15 = 0 ∧
      noticed.RotationSound := by
  refine ⟨by decide, rfl, rfl, by decide, by decide, ?_⟩
  unfold State.RotationSound; decide

theorem test_witness_BeaconTimerPlacesAClock :
    ({ base with clock := { base.clock with beaconTimer := some 50000, stratum := 6 } } : State).clock.beaconTimer =
      some 50000 ∧ base.started = true ∧ base.planner.energy ≠ .dormant ∧
      sniffing.planner.energy = .dormant := by decide

theorem test_witness_OfferTimerPlacesAnOffer :
    ({ base with sheets := { base.sheets with offerTimer := some 50001 } } : State).sheets.offerTimer = some 50001 ∧
      base.started = true ∧ base.clock.timeValid = true := by decide

theorem test_witness_VersionsWrap :
    (1#16 ≠ 0#16) ∧ (32769#16 ≠ 0#16) ∧ (((32769#16).toNat : Int) - (1#16).toNat) % 65536 = 32768 ∧
      newerVersion 1#16 65535#16 = true ∧ newerVersion 32768#16 1#16 = true := by decide

/-- An OFFER of day 812 that lists slot 1's tag at a version. -/
def offerHead (day : Day) (v : Version) : ReceivedFrame := frame .offer (offerBody 306#16 day [⟨214, v, 0#16⟩])

theorem test_witness_OffersAreAnswered :
    (∀ x ∈ [offerHead 812#16 39#16, offerHead 813#16 39#16], AtHead .offer x [] (given rich x)) ∧
      (readOffer (offerHead 813#16 39#16).body).day ≠ rich.clock.day ∧
      demands rich (readOffer (offerHead 812#16 39#16).body) true = [(0, 812#16)] ∧
      (Desk.asked ⟨[], 305#16, 0, []⟩ 50000 0 812#16 40#16).cases = [.publicationRequested] ∧
      (Desk.asked ⟨[⟨0, 812#16, 39#16, 1, .sending, 0⟩], 305#16, 1, []⟩ 50000 0 812#16 40#16).cases =
        [.publicationMerged] ∧
      (Desk.asked ⟨[⟨1, 812#16, 39#16, 1, .sending, 0⟩, ⟨2, 812#16, 39#16, 1, .sending, 1⟩], 305#16, 2, []⟩ 50000 0
        812#16 40#16).cases = [.publicationRefused] := by
  refine ⟨?_, by decide, by decide, by decide, by decide, by decide⟩
  intro x hx
  refine ⟨rfl, rfl, ?_, ?_⟩ <;> revert x <;> decide

/-- R56: of a NEXT-day sheet alone the offer makes its request under D+1. -/
theorem test_next_day_is_asked :
    let s := { rich with clock := { rich.clock with day := 811#16 } }
    demands s (readOffer (offerHead 811#16 39#16).body) false = [(0, 812#16)] := by decide

/-- A SHEET frame of slot 1 for a day, one run in it. -/
def sheetHead (day : Day) (v : Version) (count : Nat) (origin : Nat) : ReceivedFrame :=
  frame .sheet (sheetBody 306#16 214 day v 0 count [⟨37, origin, none⟩])

theorem test_witness_FragmentsAreCollected :
    AtHead .sheet (sheetHead 812#16 41#16 2 27000) [] (given base (sheetHead 812#16 41#16 2 27000)) ∧
      sheetRefusal base (readSheet (sheetHead 812#16 41#16 2 27000).body) = none ∧ Serves conf 0 214 ∧
      (collected 812#16 50000 (readSheet (sheetHead 812#16 41#16 2 27000).body)
        (base.sheets.slots.get 0).assembly).isSome = true := by
  refine ⟨atHead_given _ _ _ rfl rfl rfl, by decide, by unfold Serves; decide, by decide⟩

theorem test_witness_WholeSheetsCommit :
    let half : Assembly := ⟨812#16, 41#16, 2, [(1, [⟨38, 86399, none⟩])], .collecting, 49000⟩
    let first := sheetHead 812#16 41#16 2 27000
    let s := { base with sheets := { base.sheets with slots := base.sheets.slots.set 0 ⟨[], some half⟩ } }
    (∀ x ∈ [sheetHead 812#16 41#16 1 86399, sheetHead 812#16 41#16 1 86400],
      AtHead .sheet x [] (given base x) ∧ sheetRefusal base (readSheet x.body) = none ∧
        collected 812#16 50000 (readSheet x.body) none = none ∧
        (Good ⟨[], none⟩ (madeWhole 50000 (readSheet x.body) none).1 ↔ x = sheetHead 812#16 41#16 1 86399)) ∧
      AtHead .sheet first [] (given s first) ∧ sheetRefusal s (readSheet first.body) = none ∧
      collected 812#16 50000 (readSheet first.body) (some half) = none ∧
      (madeWhole 50000 (readSheet first.body) (some half)).1.fragments.length = 2 ∧
      Serves conf 0 214 ∧ base.WaitingSound ∧ base.table.rebuild = none ∧ rebuilding.table.rebuild ≠ none := by
  refine ⟨?_, atHead_given _ _ _ rfl rfl rfl, by decide, by decide, by decide, by unfold Serves; decide,
    by unfold State.WaitingSound; decide, rfl, by decide⟩
  intro x hx
  refine ⟨⟨rfl, rfl, ?_, ?_⟩, ?_, ?_, ?_⟩ <;> revert x <;> (try unfold Good) <;> decide

theorem test_witness_AssembliesTimeOut :
    let a : Assembly := ⟨812#16, 41#16, 2, [], .collecting, 40000⟩
    let s := { base with sheets := { base.sheets with slots := base.sheets.slots.set 0 ⟨[], some a⟩ } }
    s.started = true ∧ CollectsSince s 0 40000 ∧
      ∀ j v, CollectsSince s j v → 40000 < v ∨ (40000 = v ∧ (0 : SlotIx) ≤ j) := by
  refine ⟨rfl, ⟨_, rfl, rfl, rfl⟩, ?_⟩
  rintro j v ⟨a, ha, -, rfl⟩
  right
  refine ⟨?_, Fin.zero_le j⟩
  revert a
  revert j
  intro j
  match j with
  | 0 => intro a h; cases h; rfl
  | 1 => intro a h; cases h
  | 2 => intro a h; cases h
  | 3 => intro a h; cases h
  | 4 => intro a h; cases h
  | 5 => intro a h; cases h

theorem test_witness_HoldoffsEnd :
    let p : Publication := ⟨0, 812#16, 40#16, 0, .holdoff 50000, 0⟩
    let s := { rich with
      sheets := { rich.sheets with publications := [p] }
      tx := base.tx }
    s.started = true ∧ s.RadioSound ∧ s.sheets.publications = [] ++ p :: [] ∧ s.tx.state = .idle ∧ s.tx.reply = none ∧
      s.tx.clockWaiting = false ∧ s.tx.offerWaiting = none ∧ s.tx.relay = [] ∧ s.planner.energy = .ample ∧
      (fragmentAt s p).isSome = true := by
  refine ⟨rfl, by unfold State.RadioSound; decide, rfl, rfl, rfl, rfl, rfl, rfl, rfl, by decide⟩

theorem test_witness_EvaluationFollowsItsSteps :
    (549 : Int) < 60 * 10 - 30 - conf.hysteresis ∧ 60 * (10 : Int) - 30 - conf.hysteresis ≤ 550 ∧
      (649 : Int) < 60 * 10 + 30 + conf.hysteresis ∧ 60 * (10 : Int) + 30 + conf.hysteresis ≤ 650 := by decide

theorem test_witness_TimeFieldIsWrittenInCodes :
    stopped37.state = .atStop ∧ ({ run37 with state := .overdue } : Entry).state = .overdue ∧
      run37.state = .expected ∧ run37.shown = none ∧
      (∀ m ∈ [0, 1, 9, 10, 59, 60], ({ run37 with shown := some m } : Entry).shown = some m) ∧
      (conf.dayStart * 60 + (32220 : Int)) % 86400 / 60 = 12 * 60 + 27 := by decide

theorem conf_texts_fit : TextsFit conf := by unfold TextsFit; decide

theorem test_witness_TargetsReadLineByLine :
    TextsFit base.loader.loaded ∧
    (let s := { base with clock := { base.clock with second := 28004 } }
    s.started = true ∧ s.RadioSound ∧ s.clock.timeValid = true ∧ (s.clock.second + 1) % 15 = 0) ∧
    (∀ k ∈ [State.clockReset, { base.clock with stratum := 7 }],
      let s := given { base with clock := k } (clockHead 5 28007)
      AtHead .clock (clockHead 5 28007) [] s ∧ s.RadioSound ∧
        Adopted k (k.second * 1000 + k.phase) (readClock (clockHead 5 28007).body)
          (presentOf (readClock (clockHead 5 28007).body) 0)) ∧
      (readClock (clockHead 5 28007).body).stratum ≠ 7 ∧ (readClock (clockHead 5 28007).body).second ≤ 86399 := by
  refine ⟨conf_texts_fit, ⟨rfl, test_radio_sound.1, rfl, rfl⟩, ?_, by decide, by decide⟩
  intro k hk
  refine ⟨atHead_given _ _ _ rfl rfl rfl, ?_, ?_⟩ <;> revert k
  · unfold State.RadioSound; decide
  · unfold Adopted; decide

/-- A PASS frame of run 37 from stop `k`, its time `x`. -/
def passHead (k : Nat) (x : Int) : ReceivedFrame :=
  frame .pass (passBody ⟨400#16, 214, 37, 812#16, k, 340, x, 3⟩)

theorem isRun37 (e : Entry) (h : e = run37 ∨ e = stopped37) : IsRun e 0 812#16 37 := by
  rcases h with rfl | rfl <;> exact ⟨rfl, rfl, rfl⟩

theorem test_witness_PassFramesFromBeyondRemove :
    let s := given (withEntries [run37]) (passHead 9 28000)
    AtHead .pass (passHead 9 28000) [] s ∧ s.RadioSound ∧ Serves conf 0 214 ∧
      s.table.entries = [] ++ run37 :: [] ∧ IsRun run37 0 812#16 37 ∧ Alone run37 [] ∧
      (conf.slots.get 0).stopIndex ≤ (readPass (passHead 9 28000).body).stop :=
  ⟨atHead_given _ _ _ rfl rfl rfl, test_radio_sound.1, by unfold Serves; decide, rfl, isRun37 _ (.inl rfl),
    (fun _ h => nomatch h), by decide⟩

theorem test_witness_PassFramesAdvance :
    let s := given (withEntries [run37]) (passHead 8 27105)
    AtHead .pass (passHead 8 27105) [] s ∧ s.RadioSound ∧ IsRun run37 0 812#16 37 ∧
      (readPass (passHead 8 27105).body).stop < (conf.slots.get 0).stopIndex ∧ run37.state ≠ .atStop ∧
      (s.clock.second : Int) - (readPass (passHead 8 27105).body).time ≤ conf.trust ∧ run37.observation = none ∧
      (∃ h, ({ run37 with observation := some ⟨.pass, 8, 340, 27104⟩ } : Entry).observation = some h ∧
        (conf.trust : Int) < 28005 - h.time) := by
  refine ⟨atHead_given _ _ _ rfl rfl rfl, test_radio_sound.1, isRun37 _ (.inl rfl), by decide, by decide, by decide,
      rfl,
    _, rfl, by decide⟩

theorem test_witness_PassFramesWithoutEffect :
    AtHead .pass (passHead 8 28000) [] (given base (passHead 8 28000)) ∧ base.table.entries = [] ∧
      AtHead .pass (passHead 8 27104) [] (given (withEntries [run37]) (passHead 8 27104)) ∧
      (conf.trust : Int) < 28005 - (readPass (passHead 8 27104).body).time ∧
      (let e := { run37 with observation := some ⟨.pass, 4, 340, 27104⟩ }
      let s := given (withEntries [e]) (passHead 8 27104)
      AtHead .pass (passHead 8 27104) [] s ∧ s.RadioSound ∧ Serves conf 0 214 ∧ s.table.entries = [] ++ e :: [] ∧
        IsRun e 0 812#16 37 ∧ (readPass (passHead 8 27104).body).stop < (conf.slots.get 0).stopIndex ∧
        e.state ≠ .atStop) := by
  refine ⟨atHead_given _ _ _ rfl rfl rfl, rfl, atHead_given _ _ _ rfl rfl rfl, by decide,
    atHead_given _ _ _ rfl rfl rfl, test_radio_sound.1, by unfold Serves; decide, rfl, ⟨rfl, rfl, rfl⟩, by decide,
    by decide⟩

/-- A SIGHT frame of run 37. -/
def sightHead (phase : Nat) : ReceivedFrame :=
  frame .sight (bytesOf 2 3 ++ bytesOf 2 214 ++ bytesOf 2 37 ++ bytesOf 1 9 ++ bytesOf 1 phase)

theorem sighted_alone (s : State) (f : SightFields) (e : Entry) (h : Sees s f e) : Sighted s f e [] [] :=
  ⟨h, (fun _ h => nomatch h), (fun _ h => nomatch h)⟩

theorem test_witness_SightAtPutsTheEntryAtStop :
    let s := given (withEntries [run37]) (sightHead 0)
    AtHead .sight (sightHead 0) [] s ∧ s.RadioSound ∧ (readSight (sightHead 0).body).phase = 0 ∧
      s.table.entries = [] ++ run37 :: [] ∧ Sighted s (readSight (sightHead 0).body) run37 [] [] :=
  ⟨atHead_given _ _ _ rfl rfl rfl, test_radio_sound.1, by decide, rfl,
    sighted_alone _ _ _ ⟨by unfold Serves; decide, by decide, by decide, .inl (by decide)⟩⟩

theorem test_witness_SightLeavingDepartsTheEntry :
    (∀ e ∈ [run37, stopped37],
      let s := given (withEntries [e]) (sightHead 1)
      AtHead .sight (sightHead 1) [] s ∧ s.RadioSound ∧ (readSight (sightHead 1).body).phase = 1 ∧
        Sighted s (readSight (sightHead 1).body) e [] []) ∧
    AtHead .sight (sightHead 0) [] (given base (sightHead 0)) ∧ base.table.entries = [] ∧
      AtHead .sight (sightHead 2) [] (given (withEntries [run37]) (sightHead 2)) ∧
      1 < (readSight (sightHead 2).body).phase := by
  refine ⟨?_, atHead_given _ _ _ rfl rfl rfl, rfl, atHead_given _ _ _ rfl rfl rfl, by decide⟩
  intro e he
  refine ⟨atHead_given _ _ _ rfl rfl rfl, test_radio_sound.1, by decide, sighted_alone _ _ _ ⟨?_, ?_, ?_, .inl ?_⟩⟩ <;>
    revert e <;> (try unfold Serves) <;> decide

theorem test_witness_FillPassesAdmitCandidates :
    rich.clock.timeValid = true ∧
      ({ rich with table := State.tableReset } : State).fillPass.table.entries.map (·.run) = [37] ∧
      (∀ k ∈ [rich.clock, { rich.clock with second := 86399 }, State.clockReset],
        let s := given { rich with clock := k } (clockHead 0 1)
        AtHead .clock (clockHead 0 1) [] s ∧ s.RadioSound ∧ s.SheetsSound ∧ s.sheets.waiting = []) ∧
      (readClock (clockHead 0 1).body).stratum = 0 ∧ (readClock (clockHead 0 1).body).second ≤ 86399 ∧
      ∀ own p, Adopted rich.clock own (readClock (clockHead 0 1).body) p ∧
        Adopted State.clockReset own (readClock (clockHead 0 1).body) p := by
  refine ⟨rfl, by decide +kernel, ?_, by decide, by decide, fun _ _ => ⟨.inr (.inl (by decide)), .inl rfl⟩⟩
  intro k hk
  exact ⟨atHead_given _ _ _ rfl rfl rfl, by revert k; unfold State.RadioSound; decide,
    rich_sheets_sound, rfl⟩

theorem test_witness_SecondsTurnTheTable :
    ∀ x ∈ [28005, 28014, 28019, 86399],
      let s := { rich with clock := { rich.clock with second := x } }
      s.started = true ∧ s.RadioSound ∧ s.SheetsSound ∧ s.clock.timeValid = true ∧ s.clock.second < 86400 := by
  intro x hx
  exact ⟨rfl, test_witness_StepKeepsPortsSound.2.2.2, rich_sheets_sound, rfl, by revert x; decide⟩

theorem test_witness_RebuildsComplete :
    let r : Rebuild := ⟨0, 812#16, [⟨37, 27000, none⟩]⟩
    rebuilding.started = true ∧ rebuilding.RadioSound ∧ rebuilding.SheetsSound ∧ rebuilding.WaitingSound ∧
      rebuilding.clock.timeValid = true ∧ rebuilding.table.rebuild = some r ∧ (r.day - rebuilding.clock.day).toInt = 0 ∧
      Good (rebuilding.sheets.slots.get 0) whole := by
  refine ⟨rfl, by unfold State.RadioSound; decide, ?_, by unfold State.WaitingSound; decide, rfl, rfl, by decide,
    by unfold Good; decide⟩
  intro i
  refine ⟨?_, ?_, ?_⟩ <;> revert i <;> (try unfold sheetSound) <;> decide

/-- R1: the new sheet puts run 37 above the fill mark before its rebuild; a pass that comes after the commit makes no
second entry of it. -/
theorem test_one_entry_of_a_moved_run :
    (after (.rebuildCompletion ⟨0, true⟩) rebuilding).table.entries.map (fun e => (e.slot, e.day, e.run)) =
      [(0, 812#16, 37)] ∧
    (after (.rebuildCompletion ⟨0, true⟩) rebuilding).table.rebuild = some ⟨0, 812#16, [⟨37, 27001, none⟩]⟩ := by
  decide +kernel

/-- A NOTICE frame of origin 900. -/
def noticeHead (urgent : Bool) (expiry hops : Nat) : ReceivedFrame :=
  frame .notice (noticeBody ⟨900#16, 5#8, .all 0#16, urgent, 812#16, expiry, [65#8]⟩ hops)

/-- Notices of four other origins. -/
def fourNotices (urgent : Bool) : List Notice :=
  [⟨1#16, 1#8, .all 0#16, urgent, 812#16, 40001, []⟩, ⟨2#16, 1#8, .all 0#16, true, 812#16, 40000, []⟩,
    ⟨3#16, 1#8, .all 0#16, true, 812#16, 40000, []⟩, ⟨4#16, 1#8, .all 0#16, true, 812#16, 40000, []⟩]

theorem test_witness_ClockSheetAndNoticeFramesRefused :
    (AtHead .clock (clockHead 7 28005) [] (given base (clockHead 7 28005)) ∧
      (readClock (clockHead 7 28005).body).stratum = 7 ∧ (readClock (clockHead 1 86400).body).second = 86400 ∧
      (∀ x ∈ [clockHead 2 0, clockHead 1 28006],
        ¬ Adopted base.clock (base.clock.second * 1000) (readClock x.body) (presentOf (readClock x.body) 0))) ∧
    (AtHead .sheet (sheetHead 812#16 0#16 1 27000) [] (given base (sheetHead 812#16 0#16 1 27000)) ∧
      sheetRefusal base (readSheet (sheetHead 812#16 0#16 1 27000).body) = some .sheetMalformed ∧
      sheetRefusal base (readSheet (sheetHead 812#16 41#16 13 27000).body) = some .sheetMalformed ∧
      sheetRefusal base (readSheet (sheetHead 814#16 41#16 1 27000).body) = some .sheetOutOfDay ∧
      sheetRefusal rich (readSheet (sheetHead 812#16 40#16 1 27000).body) = some .sheetNotNewer ∧
      sheetRefusal State.reset (readSheet (sheetHead 812#16 40#16 1 27000).body) = some .sheetUnserved) ∧
    AtHead .notice (noticeHead false 28005 2) [] (given base (noticeHead false 28005 2)) ∧
      noticeRefusal base (readNotice (noticeHead false 28005 2).body) = some .noticeOutOfDay ∧
      noticeRefusal base (readNotice (noticeHead false 86400 2).body) = some .noticeMalformed ∧
      noticeRefusal base (readNotice (noticeHead false 40000 16).body) = some .noticeMalformed ∧
      noticeRefusal { base with board := { base.board with
        notices := [⟨900#16, 5#8, .all 0#16, false, 812#16, 40000, []⟩] } }
        (readNotice (noticeHead false 40000 1).body) = some .noticeNotNewer := by
  refine ⟨⟨atHead_given _ _ _ rfl rfl rfl, by decide, by decide, ?_⟩,
    ⟨atHead_given _ _ _ rfl rfl rfl, by decide, by decide, by decide, by decide, by decide⟩,
    atHead_given _ _ _ rfl rfl rfl, by decide, by decide, by decide, by decide⟩
  unfold Adopted; decide

theorem test_witness_NoticesAreStored :
    AtHead .notice (noticeHead true 28006 2) [] (given base (noticeHead true 28006 2)) ∧
      noticeRefusal base (readNotice (noticeHead true 28006 2).body) = none ∧
      (let s := { base with board := { base.board with
        notices := [⟨900#16, 4#8, .all 0#16, false, 812#16, 40000, []⟩], current := some 0 } }
      noticeRefusal s (readNotice (noticeHead true 28006 2).body) = none ∧ s.RotationSound) ∧
      (∀ u ∈ [true, false],
        let s := { base with board := { base.board with notices := fourNotices u, current := some 1 } }
        noticeRefusal s (readNotice (noticeHead true 28006 2).body) = none ∧ s.board.notices.length = 4 ∧
          s.RotationSound) ∧ base.RotationSound ∧ base.RadioSound := by
  refine ⟨atHead_given _ _ _ rfl rfl rfl, by decide, ?_, ?_, ?_, test_radio_sound.1⟩ <;>
    unfold State.RotationSound <;> decide

/-- A QUERY to stop 305. -/
def queryHead (stop code : Nat) : ReceivedFrame :=
  frame .query (bytesOf 2 77 ++ bytesOf 2 stop ++ bytesOf 1 code ++ bytesOf 1 0)

theorem test_witness_ServiceFramesAreAnswered :
    (∀ x ∈ [queryHead 305 0, queryHead 305 6, queryHead 306 1, queryHead 305 1, queryHead 305 5],
      AtHead .query x [] (given base x)) ∧ base.tx.reply = none ∧
      AtHead .reply (frame .reply [1#8, 2#8, 1#8, 0#8]) [] (given base (frame .reply [1#8, 2#8, 1#8, 0#8])) := by
  refine ⟨?_, rfl, atHead_given _ _ _ rfl rfl rfl⟩
  intro x hx
  refine ⟨rfl, rfl, ?_, ?_⟩ <;> revert x <;> decide

theorem test_witness_ScansDriveTheEnergyState :
    (∀ h ∈ [[], [3000], [3000, 4000], [3000, 4000, 5000]],
      let s := { base with sense := { base.sense with converting := true, history := h } }
      s.started = true ∧ s.RadioSound ∧ s.sense.converting = true ∧ s.sense.history.length ≤ 3) ∧
    let a := { active30 3 with state := .suspended }
    let s := driving .idle a
    s.engine.active = some a ∧ a.state = .suspended ∧ a.job.kind = .normal ∧ s.sense.storeLow = false ∧
      s.sense.band.drive = true ∧ s.engine.freshHold = false ∧ s.planner.halt = none ∧ a.job.mode = .clearing := by
  unfold State.RadioSound; decide

theorem test_witness_PlanningStagesABand :
    base.planner.energy ≠ .dormant ∧ base.sense.band.drive = false ∧
    let s := driving .phase (active30 3)
    let s := { s with sense := { s.sense with converting := true } }
    s.planner.staged = none ∧ s.planner.hold = false ∧ s.sense.band.drive = true ∧ s.engine.faulted = false ∧
      s.started = true ∧ s.RadioSound ∧ s.sense.converting = true ∧ s.engine.active = some (active30 3) ∧
      (active30 3).state = .running := by
  unfold State.RadioSound; decide

theorem test_witness_StagedJobsAreWithdrawn :
    let s := { driving .phase (active30 3) with
      planner := { base.planner with staged := some ⟨31#8, .normal, 1, 2, .partialMode, 300, 0⟩ } }
    let due := { s with
      loader := { s.loader with loaded := { conf with sweepMinute := (conf.dayStart + 467) % 1440 } }
      clock := { s.clock with second := 28019 }
      board := { s.board with targets := (after (.countedSecond .last ⟨true, .planner⟩)
        { s with clock := { s.clock with second := 28019 } }).board.targets } }
    withdrawals s = [.stagedWithdrawn] ∧ s.engine.active ≠ none ∧ s.started = true ∧
      (after (.countedSecond .last ⟨true, .planner⟩)
        { s with clock := { s.clock with second := 28019 } }).board.targets ≠ s.board.targets ∧
      AtSweep due.loader.loaded 28020 ∧
      (after (.countedSecond .last ⟨true, .planner⟩) due).board.targets = due.board.targets ∧
      (after (.scanCompletion 0 0#12) { s with sense := { s.sense with converting := true } }).planner.energy ≠
        s.planner.energy ∧
      (after (.temperatureAnswer 0 0#8) { s with engine := { s.engine with port := .reading } }).sense.band ≠
        s.sense.band := by
  unfold AtSweep; decide +kernel

theorem test_witness_PlanningParksTheBoard :
    (∀ a ∈ [none, some (active30 3), some { active30 3 with state := .suspended }], ∀ port ∈ [PanelPort.idle, .reading],
      let s := { sniffing with
        sense := { sniffing.sense with converting := true, band := .b3 }
        engine := { sniffing.engine with active := a, port := port } }
      s.started = true ∧ s.RadioSound ∧ s.sense.converting = true ∧ s.planner.energy = .dormant ∧
        s.planner.staged = none ∧ s.engine.freshHold = false ∧ s.loader.loaded.standby.length = 32 ∧
        s.planner.boardParked = false) ∧
    (let s := { base with
      planner := { base.planner with staged := some job30 }, sense := { base.sense with converting := true } }
    s.RadioSound ∧ job30.kind = .normal ∧ s.planner.energy ≠ .dormant ∧
      (after (.scanCompletion 0 0#12) s).planner.energy = .dormant) ∧
    ParkPossible { base with sense := { base.sense with band := .b3 } } (9 * conf.clearingCost.b3) := by
  refine ⟨?_, ⟨test_radio_sound.1, rfl, by decide, by decide +kernel⟩, ?_⟩
  · unfold State.RadioSound; decide
  · unfold ParkPossible; decide

theorem test_witness_StoreLowHoldsAndReleases :
    base.sense.storeLow = false ∧ base.RadioSound ∧ conf.warning = 3400 ∧
    (driving .reading (active30 2)).engine.port = .reading ∧
      (let s := { base with
        sense := { base.sense with storeLow := true, band := .b3 }
        planner := { base.planner with staged := some job30, available := 840 + conf.reserve } }
      s.planner.staged = some job30 ∧ s.planner.energy ≠ .dormant ∧ s.engine.active = none ∧ s.sense.band.drive = true ∧
        s.engine.freshHold = false ∧ s.engine.faulted = false ∧
        job30.remaining + s.loader.loaded.reserve ≤ s.planner.available) := by
  refine ⟨rfl, test_radio_sound.1, rfl, rfl, ?_⟩; decide

theorem test_witness_TemperatureTimerAsksForARead :
    ∀ p ∈ [PanelPort.idle, .reading, .phase],
      let s := { base with
        sense := { base.sense with temperatureTimer := some 49999 }
        engine := { base.engine with port := p } }
      s.started = true ∧ s.RadioSound ∧ s.sense.temperatureTimer = some 49999 := by
  unfold State.RadioSound; decide

theorem test_witness_TemperatureReadsEnd :
    let s := { base with engine := { base.engine with port := .reading, readDeadline := some 50020 } }
    s.started = true ∧ s.RadioSound ∧ s.engine.port = .reading ∧ s.engine.readDeadline = some 50020 ∧
      base.engine.port ≠ .reading := by unfold State.RadioSound; decide

/-- Whether a state meets what the statements of the engine ask of every state. -/
theorem driving_sound (p : PanelPort) (a : ActiveJob) : (driving p a).started = true ∧ (driving p a).RadioSound :=
  ⟨rfl, test_radio_sound.1⟩

/-- A part in DORMANT whose job is asked to halt and gives way to the PARK job. -/
def parking (s : State) : State := { s with
  planner := { s.planner with energy := .dormant, halt := some 30#8, available := 9 * conf.clearingCost.b3 } }

theorem test_witness_LoadStepsEnd :
    (∀ low : Bool,
      let s := driving .loading (active30 0)
      let s := { s with sense := { s.sense with storeLow := low } }
      s.engine.port = .loading ∧ s.engine.active = some (active30 0) ∧ (active30 0).state = .running ∧
        (Stops s job30 ↔ low = true)) ∧
      let s := parking (driving .loading (active30 0))
      s.RadioSound ∧ Stops s job30 ∧ ParkNow s job30 ∧ s.loader.loaded.standby.length = 32 := by
  refine ⟨?_, by unfold State.RadioSound; decide, .inr rfl, by unfold ParkNow ParkPossible; decide, by decide⟩
  intro low
  refine ⟨rfl, rfl, rfl, ?_⟩
  cases low
  · exact ⟨fun h => by rcases h with h | h <;> revert h <;> decide, fun h => by cases h⟩
  · exact ⟨fun _ => rfl, fun _ => .inl rfl⟩

theorem test_witness_ReadyEndsThePhase :
    base.engine.port ≠ .phase ∧ (inPhase 8).engine.port = .phase ∧ (inPhase 8).engine.active = some (active30 8) ∧
      (active30 8).loaded = true ∧ (active30 8).state = .running ∧ (active30 8).job.phaseIndex + 1 < 10 ∧
      ¬ Stops (inPhase 8) (active30 8).job ∧ Stops (parking (inPhase 8)) (active30 8).job ∧
      ParkNow (parking (inPhase 8)) (active30 8).job := by
  refine ⟨by decide, rfl, rfl, rfl, rfl, by decide, ?_, .inr rfl, by unfold ParkNow ParkPossible; decide⟩
  rintro (h | h) <;> revert h <;> decide

theorem test_witness_ReadyCompletesTheJob :
    (inPhase 9).started = true ∧ (inPhase 9).RadioSound ∧ (inPhase 9).engine.port = .phase ∧
      (inPhase 9).engine.active = some (active30 9) ∧ (active30 9).job.phaseIndex + 1 = 10 ∧
      (active30 9).job.mode = .clearing := ⟨rfl, test_radio_sound.1, rfl, rfl, rfl, rfl⟩

theorem test_witness_JobsAreAbandoned :
    ((inPhase 0).engine.phaseDeadline = some 50180 ∧ (inPhase 0).RadioSound ∧
      (driving .stopping (active30 0)).engine.port = .stopping ∧
      (driving .stopping (active30 0)).engine.active = some (active30 0)) ∧
    (let a := { active30 3 with state := .suspended }
    let s := driving .idle a
    let s := { s with engine := { s.engine with suspendedAt := some 40000 } }
    s.started = true ∧ s.RadioSound ∧ s.engine.active = some a ∧ a.state = .suspended ∧
      s.engine.suspendedAt = some 40000 ∧ s.DormantStagesPark) :=
  ⟨⟨rfl, test_radio_sound.1, rfl, rfl⟩, rfl, test_radio_sound.1, rfl, rfl, rfl, fun h => absurd h (by decide)⟩

theorem test_witness_GlassMovesOnlyAtCompletion :
    (∀ c ∈ [Instr.stopSent 1, .ready 0 true],
      ¬ Completes c (driving .stopping (active30 0)) ∧ c ≠ .nporAsserted) ∧
    ¬ Completes (.ready 0 true) (inPhase 3) ∧ Completes (.ready 0 true) (inPhase 9) := by
  refine ⟨?_, ?_, ⟨_, _, rfl⟩, rfl, _, rfl, by decide⟩
  · intro c hc
    refine ⟨fun h => absurd h.2.1 (by decide), ?_⟩
    revert c; decide
  · rintro ⟨-, -, a, ha, h⟩
    have ha' : active30 3 = a := by simpa [inPhase, driving] using ha
    subst ha'; revert h; decide

theorem test_witness_FramesGainTheChannel :
    (∀ low ∈ [true, false], ∀ stratum ∈ [2, 7], ∀ stage ∈ [AccessStage.carrierWait, .countdown],
      let s := granted .clock .access
      let s := { s with
        sense := { s.sense with storeLow := low }
        clock := { s.clock with stratum := stratum }
        tx := { s.tx with stage := stage, backoff := some 0 } }
      s.started = true ∧ s.RadioSound ∧ s.tx.granted = some ⟨.clock, ⟨0x61#8, [1#8]⟩, 49000⟩ ∧ s.tx.state = .access ∧
        s.tx.stage = stage ∧ s.tx.backoff = some 0) ∧
      (granted .clock .access).tx.backoff = some 2 ∧ base.tx.state ≠ .access := by
  refine ⟨?_, rfl, by decide⟩
  intro low _ stratum _ stage _
  have h : (granted .clock .access).RadioSound := by unfold State.RadioSound; decide
  exact ⟨rfl, h, rfl, rfl, rfl, rfl⟩

theorem test_witness_FramesEnd :
    ∀ x ∈ [Source.reply, .clock, .offer, .relay, .publication 0 812#16 40#16 0], ∀ st ∈ [SendState.access, .sending],
      let s := granted x st
      s.started = true ∧ s.RadioSound ∧ s.tx.granted = some ⟨x, ⟨0x61#8, [1#8]⟩, 49000⟩ ∧ s.tx.state = st := by
  unfold State.RadioSound; decide

theorem test_witness_PagesAreLaidOut :
    (withEntries [run37]).table.entries[0]? = some run37 ∧ meterOrder[10 * 11 + 9]? = some .replyAbandoned ∧
      meterOrder.length = 120 ∧
      (∀ n : Fin 10, ∀ g, (base.engine.lines.get n).glass = some g → g.length = 32) ∧
      (withEntries [run37]).table.entries.length ≤ 1 ∧
      (rebuilding.loader.loaded.slots.get 0).enabled = true ∧ (rebuilding.loader.loaded.slots.get 1).enabled = false ∧
      (rebuilding.sheets.slots.get 0).assembly = some whole ∧ (whole.fragments.map (·.1)).Nodup := by decide

theorem test_witness_BodiesAreReadAndReadBack :
    ((List.replicate 8 (1#8 : Byte)).length = 8 ∧ 5 ∈ bodyLengths .offer ∧ 41 ∈ bodyLengths .offer ∧
      9 ∈ bodyLengths .sheet ∧ 44 ∈ bodyLengths .sheet ∧ 14 ∈ bodyLengths .notice ∧ 45 ∈ bodyLengths .notice) ∧
    (⟨400#16, 4095, 1023, 812#16, 63, -32768, 8388607, 15⟩ : PassFields).tag < 4096 ∧
      readPass (passBody ⟨400#16, 4095, 1023, 812#16, 63, -32768, 8388607, 15⟩) =
        ⟨400#16, 4095, 1023, 812#16, 63, -32768, 8388607, 15⟩ ∧
      readClock (clockBody 306#16 7 812#16 16777215) = ⟨7, 812#16, 16777215⟩ :=
  ⟨by decide, by decide, by decide +kernel, by decide +kernel⟩

end Sys2Proof.Tests
end

section
/-! PROOF. The time field (2.7): the digits and clock times as codes, the text of each entry, and the field that R38
writes out (O32). -/

namespace Sys2Proof.Proofs

open Sys2Proof Sys2Proof.Machine

/-! ### Digits (R38) -/

theorem digit_of_lt_ten {n : Nat} (h : n < 10) : digit n = BitVec.ofNat 8 (48 + n) := by
  rw [digit, Nat.mod_eq_of_lt h]

theorem twoDigits_of_lt_hundred {n : Nat} (h : n < 100) :
    twoDigits n = [BitVec.ofNat 8 (48 + n / 10), BitVec.ofNat 8 (48 + n % 10)] := by
  rw [twoDigits, digit_of_lt_ten (Nat.div_lt_of_lt_mul h), digit]

@[simp] theorem twoDigits_length (n : Nat) : (twoDigits n).length = 2 := rfl

/-! ### The local second and the clock time (R39) -/

theorem localSecond_cast (c : Loaded) (y : Int) :
    (localSecond c y : Int) = (c.dayStart * 60 + y) % 86400 := by
  rw [localSecond, Int.toNat_of_nonneg (Int.emod_nonneg _ (by decide))]
  push_cast
  rfl

theorem localSecond_lt (c : Loaded) (y : Int) : localSecond c y < 86400 := by
  have hcast := localSecond_cast c y
  omega

/-- The hour of the local second, taken over the integers as R39 writes it. -/
theorem localSecond_hour (c : Loaded) (y : Int) :
    ((c.dayStart * 60 + y) % 86400 / 3600).toNat = localSecond c y / 3600 := by
  rw [← localSecond_cast]
  omega

/-- The minute of the local second, taken over the integers as R39 writes it. -/
theorem localSecond_minute (c : Loaded) (y : Int) :
    ((c.dayStart * 60 + y) % 86400 % 3600 / 60).toNat = localSecond c y % 3600 / 60 := by
  rw [← localSecond_cast]
  omega

@[simp] theorem clockText_length (c : Loaded) (y : Int) : (clockText c y).length = 5 := rfl

/-- A clock time is read off the whole local minutes. -/
theorem clockText_of_minute {c : Loaded} {y : Int} {hour minute : Nat} (hm : minute < 60)
    (h : (c.dayStart * 60 + y) % 86400 / 60 = (hour * 60 + minute : Nat)) :
    clockText c y = twoDigits hour ++ [58#8] ++ twoDigits minute := by
  rw [← localSecond_cast] at h
  have hhour : localSecond c y / 3600 = hour := by omega
  have hminute : localSecond c y % 3600 / 60 = minute := by omega
  rw [clockText, hhour, hminute]

/-! ### The text of the time field (R37) -/

theorem timeText_atStop {c : Loaded} {e : Entry} (h : e.state = .atStop) : timeText c e = nowText := by
  simp only [timeText, h]

theorem timeText_overdue {c : Loaded} {e : Entry} (h : e.state = .overdue) : timeText c e = dueText := by
  simp only [timeText, h]

section Expected

variable {c : Loaded} {e : Entry} (h : e.state = .expected)
include h

theorem timeText_unshown (hs : e.shown = none) : timeText c e = clockText c e.scheduled := by
  simp only [timeText, h, hs]

theorem timeText_zero (hs : e.shown = some 0) : timeText c e = dueText := by
  simp only [timeText, h, hs, if_true]

variable {m : Nat} (hs : e.shown = some m)
include hs

theorem timeText_oneDigit (h1 : 1 ≤ m) (h9 : m ≤ 9) : timeText c e = digit m :: minText := by
  have hne : m ≠ 0 := by omega
  have hlt : m < 10 := by omega
  simp only [timeText, h, hs, if_neg hne, if_pos hlt]

theorem timeText_twoDigits (h10 : 10 ≤ m) (h59 : m ≤ 59) : timeText c e = twoDigits m ++ minText := by
  have hne : m ≠ 0 := by omega
  have hge : ¬ m < 10 := by omega
  have hlt : m < 60 := by omega
  simp only [timeText, h, hs, if_neg hne, if_neg hge, if_pos hlt]

theorem timeText_farAhead (h60 : 60 ≤ m) : timeText c e = clockText c e.predicted := by
  have hne : m ≠ 0 := by omega
  have hge : ¬ m < 10 := by omega
  have hfar : ¬ m < 60 := by omega
  simp only [timeText, h, hs, if_neg hne, if_neg hge, if_neg hfar]

end Expected

theorem timeText_length_le (c : Loaded) (e : Entry) : (timeText c e).length ≤ 8 := by
  cases hst : e.state with
  | atStop => rw [timeText_atStop hst]; decide
  | overdue => rw [timeText_overdue hst]; decide
  | expected =>
    cases hs : e.shown with
    | none => simp [timeText_unshown hst hs]
    | some m =>
      obtain rfl | hone | htwo | hfar :
          m = 0 ∨ (1 ≤ m ∧ m ≤ 9) ∨ (10 ≤ m ∧ m ≤ 59) ∨ 60 ≤ m := by omega
      · rw [timeText_zero hst hs]; decide
      · simp [timeText_oneDigit hst hs hone.1 hone.2, minText]
      · simp [timeText_twoDigits hst hs htwo.1 htwo.2, minText]
      · simp [timeText_farAhead hst hs hfar]

/-! ### The eight cells -/

theorem rightAlign_length {n : Nat} {text : Cells} (h : text.length ≤ n) : (rightAlign n text).length = n := by
  rw [rightAlign, List.length_append, List.length_replicate, Nat.sub_add_cancel h]

theorem timeField_length (c : Loaded) (e : Entry) : (timeField c e).length = 8 :=
  rightAlign_length (timeText_length_le c e)

/-- A clock time in the field: three blanks, then two digits, a colon and two digits. -/
theorem rightAlign_clockText (c : Loaded) (y : Int) :
    rightAlign 8 (clockText c y) =
      let l := (c.dayStart * 60 + y) % 86400
      List.replicate 3 32#8 ++
        [BitVec.ofNat 8 (48 + (l / 3600).toNat / 10), BitVec.ofNat 8 (48 + (l / 3600).toNat % 10)] ++ [58#8] ++
        [BitVec.ofNat 8 (48 + (l % 3600 / 60).toNat / 10), BitVec.ofNat 8 (48 + (l % 3600 / 60).toNat % 10)] := by
  have hlt := localSecond_lt c y
  have hhour : localSecond c y / 3600 < 100 := by omega
  have hminute : localSecond c y % 3600 / 60 < 100 := by omega
  simp only [rightAlign, clockText_length, localSecond_hour, localSecond_minute]
  rw [clockText, twoDigits_of_lt_hundred hhour, twoDigits_of_lt_hundred hminute]
  simp only [List.append_assoc]

/-- Settles O32: one case per row of R37, each text aligned in the eight cells. -/
theorem timeFieldIsWrittenInCodes : Obligations.TimeFieldIsWrittenInCodes := by
  intro c e
  have aligned {text : Cells} (h : timeText c e = text) : timeField c e = rightAlign 8 text := by rw [timeField, h]
  refine ⟨timeField_length c e, fun h => aligned (timeText_atStop h), fun h => aligned (timeText_overdue h),
    fun h hs => ?unshown, fun m h hs => ⟨?zero, ?oneDigit, ?nine, ?twoDigits, fun h60 => ?farAhead⟩⟩
  case unshown => exact (aligned (timeText_unshown h hs)).trans (rightAlign_clockText c e.scheduled)
  case zero => rintro rfl; exact aligned (timeText_zero h hs)
  case oneDigit =>
    intro h1 h9
    rw [aligned (timeText_oneDigit h hs h1 h9), digit_of_lt_ten (by omega)]
    rfl
  case nine => rintro rfl; exact aligned (timeText_oneDigit h hs (by decide) (by decide))
  case twoDigits =>
    intro h10 h59
    rw [aligned (timeText_twoDigits h hs h10 h59), twoDigits_of_lt_hundred (by omega)]
    rfl
  case farAhead =>
    have hfield := aligned (timeText_farAhead h hs h60)
    refine ⟨hfield.trans (rightAlign_clockText c e.predicted), fun hmin => ?_, fun hmin => ?_⟩
    · rw [hfield, clockText_of_minute (hour := 12) (minute := 27) (by decide) hmin]
      rfl
    · rw [hfield, clockText_of_minute (hour := 3) (minute := 40) (by decide) hmin]
      rfl

end Sys2Proof.Proofs
end

section
/-! PROOF. Versions (3, R43): what `newerVersion` compares where both versions are nonzero, and where one is 0 (O25). -/

namespace Sys2Proof.Proofs

open Sys2Proof Sys2Proof.Machine

/-! ### The wrap-around difference -/

/-- The machine's subtraction of versions is R43's (a − b) mod 65,536. -/
theorem version_sub_toNat (a b : Version) : ((a - b).toNat : Int) = ((a.toNat : Int) - b.toNat) % 65536 := by
  rw [BitVec.toNat_sub]
  omega

/-! ### The branches of the comparison -/

@[simp] theorem newerVersion_zero_left (b : Version) : newerVersion 0#16 b = false := rfl

theorem newerVersion_zero_right {a : Version} (ha : a ≠ 0#16) : newerVersion a 0#16 = true := by
  simp [newerVersion, ha]

theorem newerVersion_iff {a b : Version} (ha : a ≠ 0#16) (hb : b ≠ 0#16) :
    newerVersion a b = true ↔
      1 ≤ ((a.toNat : Int) - b.toNat) % 65536 ∧ ((a.toNat : Int) - b.toNat) % 65536 ≤ 32767 := by
  simp only [newerVersion, if_neg ha, if_neg hb, Bool.and_eq_true, decide_eq_true_eq, ← version_sub_toNat]
  omega

@[simp] theorem newerVersion_self (a : Version) : newerVersion a a = false := by
  by_cases ha : a = 0#16
  · rw [ha, newerVersion_zero_left]
  · simp [← Bool.not_eq_true, newerVersion_iff ha ha]

/-- Half the circle is past the last newer difference. -/
theorem newerVersion_of_opposite {a b : Version} (ha : a ≠ 0#16) (hb : b ≠ 0#16)
    (h : ((a.toNat : Int) - b.toNat) % 65536 = 32768) : newerVersion a b = false := by
  rw [← Bool.not_eq_true, newerVersion_iff ha hb]
  omega

/-- Settles O25: the branches of the comparison; a distance of 32,768 is one from either side. -/
theorem versionsWrap : Obligations.VersionsWrap := by
  intro a b
  refine ⟨newerVersion_iff, newerVersion_zero_right, newerVersion_zero_left b, newerVersion_self a,
    fun h ha hb => ?opposite, ?wrap⟩
  case opposite =>
    have hback : ((b.toNat : Int) - a.toNat) % 65536 = 32768 := by omega
    exact ⟨newerVersion_of_opposite ha hb h, newerVersion_of_opposite hb ha hback⟩
  case wrap => exact (newerVersion_iff (by decide) (by decide)).mpr (by decide)

end Sys2Proof.Proofs
end

section
/-! PROOF. Moves: what the operations of the model can do to a state, block by block, each said once. Every command is a
run of moves (`exec_answered`, below), so a law that each move keeps is kept by every step (O2, O4 to O10, O56). -/

namespace Sys2Proof.Proofs

open Sys2Proof Sys2Proof.Machine Sys2Proof.Claims

/-! ### What a move keeps, block by block -/

/-- From counters in range none falls and none leaves the range (00_scope, Counters). -/
def CountersRise (k k' : Counters) : Prop :=
  ∀ c : Counter, k.get c.place ≤ 4294967295 → k.get c.place ≤ k'.get c.place ∧ k'.get c.place ≤ 4294967295

/-- Time stays valid, and X and the stratum stay in range (R63, R64, R73). -/
structure ClockKept (k k' : Clock) : Prop where
  valid : k.timeValid = true → k'.timeValid = true
  second : k.second < 86400 → k'.second < 86400
  stratum : k.stratum ≤ 7 → k'.stratum ≤ 7

/-- One slot's sheets are sound, and its assembly is no larger than R46 allows (R42, R44). -/
def SlotSound (h : SlotSheets) : Prop :=
  (∀ sh ∈ h.sheets, sheetSound sh) ∧ (h.sheets.map (·.day)).Nodup ∧ ∀ a, h.assembly = some a → a.count ≤ 12

/-- Every slot is sound. -/
def StoreSound (st : SheetStore) : Prop := ∀ i : SlotIx, SlotSound (st.slots.get i)

structure SheetsKept (st st' : SheetStore) : Prop where
  room : st.publications.length ≤ 2 → st'.publications.length ≤ 2
  sound : StoreSound st → StoreSound st'

/-- No two entries of one slot, day and run number (R1). -/
def OneEach (es : List Entry) : Prop := es.Pairwise fun a b => ¬ (a.slot = b.slot ∧ a.day = b.day ∧ a.run = b.run)

structure TableKept (s : State) (t : Table) : Prop where
  room : s.table.entries.length ≤ 48 → t.entries.length ≤ 48
  marks : (∀ e ∈ s.table.entries, e.scheduled ≤ s.table.marks.get e.slot) →
    ∀ e ∈ t.entries, e.scheduled ≤ t.marks.get e.slot
  each : StoreSound s.sheets → OneEach s.table.entries → OneEach t.entries
  predictions : (∀ e ∈ s.table.entries, predictionInRange s.loader.loaded.early e) →
    ∀ e ∈ t.entries, predictionInRange s.loader.loaded.early e

/-- The rotation is sound over some notices (R91). -/
def RotationOk (ns : List Notice) (current : Option Nat) : Prop :=
  (ns ≠ [] → current ≠ none) ∧
    ∀ i, current = some i → ∃ n, ns[i]? = some n ∧ (n.urgent = true ∨ ∀ m ∈ ns, m.urgent = false)

structure BoardKept (b b' : Board) : Prop where
  room : b.notices.length ≤ 4 → b'.notices.length ≤ 4
  rotation : RotationOk b.notices b.current → RotationOk b'.notices b'.current

structure SenseKept (u u' : Sense) : Prop where
  room : u.history.length ≤ 3 → u'.history.length ≤ 3
  failures : u.failures ≤ 3 → u'.failures ≤ 3

/-- Every frame of a queue has a body of a length of its kind (R150). -/
def QueueOk (q : List ReceivedFrame) : Prop := ∀ g ∈ q, g.body.length ∈ bodyLengths (headerKind g.header)

structure RxKept (r r' : Receiver) : Prop where
  room : r.queue.length ≤ 4 → r'.queue.length ≤ 4
  buffer : r.buffer.length ≤ 48 → r'.buffer.length ≤ 48
  fits : QueueOk r.queue → QueueOk r'.queue

/-- Granted frame and line go with the send state (R161, R165). -/
def SendOk (x : Sender) : Prop := (x.state = .idle ↔ x.granted = none) ∧ (x.state = .sending ↔ x.line ≠ [])

structure TxKept (x x' : Sender) : Prop where
  room : x.relay.length ≤ 8 → x'.relay.length ≤ 8
  lfsr : x.lfsr ≠ 0#16 → x'.lfsr ≠ 0#16
  send : SendOk x → SendOk x'

/-- Commands and deadlines go with the state of the panel port (R123, R126, R136). -/
def PortOk (e : Engine) : Prop :=
  (e.port = .idle ↔ e.commands = []) ∧ (e.port = .phase ↔ e.phaseDeadline.isSome = true) ∧
    (e.port = .reading ↔ e.readDeadline.isSome = true)

/-- Glass and ghost count of every line are as they were. -/
def SameGlass (l l' : Vector LineRecord 10) : Prop :=
  ∀ n : Fin 10, (l'.get n).glass = (l.get n).glass ∧ (l'.get n).ghost = (l.get n).ghost

/-- An engine whose job and suspension instant are as they were: its lines keep their glass, its fault count its range,
its port its soundness. -/
structure EngineKept (e e' : Engine) : Prop where
  active : e'.active = e.active
  suspendedAt : e'.suspendedAt = e.suspendedAt
  lines : SameGlass e.lines e'.lines
  faults : e.faults ≤ 3 → e'.faults ≤ 3
  port : PortOk e → PortOk e'

/-- The active job with its flags or its phase index changed: lines, mode and band are those latched at its promotion. -/
structure SameJob (a a' : ActiveJob) : Prop where
  first : a'.job.first = a.job.first
  last : a'.job.last = a.job.last
  mode : a'.job.mode = a.job.mode
  band : a'.band = a.band

/-! ### Moves -/

/-- What an operation can do to planner and engine; a completion is among it only where `fin` says so (chapters 6, 7). -/
inductive JobMove (fin : Bool) (s : State) : Planner → Engine → Prop
  /-- The planner alone, with nothing newly staged: in DORMANT what stays staged is the PARK job, unless it was already so. -/
  | planner (p : Planner) (staged : p.staged = none ∨ p.staged = s.planner.staged)
      (energy : p.energy = s.planner.energy ∨ ∀ j, p.staged = some j → j.kind = .park) : JobMove fin s p s.engine
  /-- A job staged, apart from the active one. -/
  | stage (p : Planner) (j : Job) (staged : p.staged = some j) (energy : p.energy = s.planner.energy)
      (kind : s.planner.energy = .dormant → j.kind = .park)
      (apart : ∀ n : Fin 10, j.contains n = true → s.inActive n = false) : JobMove fin s p s.engine
  /-- A promotion (R120, R122). -/
  | promote (p : Planner) (j : Job) (was : s.planner.staged = some j) (ready : s.promotable j = true)
      (staged : p.staged = none) (energy : p.energy = s.planner.energy) :
      JobMove fin s p { s.engine with active := some (s.latched j) }
  /-- The engine's other registers. -/
  | engine (e : Engine) (kept : EngineKept s.engine e) : JobMove fin s s.planner e
  /-- The active job goes on, its state as it was. -/
  | goOn (a a' : ActiveJob) (was : s.engine.active = some a) (same : SameJob a a') (state : a'.state = a.state) :
      JobMove fin s s.planner { s.engine with active := some a' }
  /-- The active job SUSPENDED (R130). -/
  | suspend (a a' : ActiveJob) (now : Nat) (was : s.engine.active = some a) (same : SameJob a a')
      (state : a'.state = .suspended) :
      JobMove fin s s.planner { s.engine with active := some a', suspendedAt := some now }
  /-- The active job RUNNING again (R132). -/
  | resume (a a' : ActiveJob) (was : s.engine.active = some a) (same : SameJob a a') (state : a'.state = .running) :
      JobMove fin s s.planner { s.engine with active := some a', suspendedAt := none }
  /-- The active slot emptied with no line's glass touched (R133). -/
  | empty (l : Vector LineRecord 10) (lines : SameGlass s.engine.lines l) :
      JobMove fin s s.planner { s.engine with lines := l, active := none, suspendedAt := none }
  /-- The completion of the active job (R129). -/
  | complete (a : ActiveJob) (was : s.engine.active = some a) (content target : Nat → Cells) (may : fin = true) :
      JobMove fin s s.planner { s.engine with
        lines := mapJobLines a.job (fun n r => r.completed a.job.mode (content n) (target n) s.elapsed) s.engine.lines
        active := none
        suspendedAt := none
        faults := 0 }

/-- One move: time passes, or one block (planner and engine taken together) changes within its laws. -/
inductive Move (fin : Bool) : State → State → Prop
  | pass (s : State) (dt : Nat) : Move fin s (s.advance dt)
  | counters (s : State) (k : Counters) (rise : CountersRise s.counters k) : Move fin s { s with counters := k }
  | clock (s : State) (k : Clock) (kept : ClockKept s.clock k) : Move fin s { s with clock := k }
  | sheets (s : State) (st : SheetStore) (kept : SheetsKept s.sheets st) : Move fin s { s with sheets := st }
  | table (s : State) (t : Table) (kept : TableKept s t) : Move fin s { s with table := t }
  | board (s : State) (b : Board) (kept : BoardKept s.board b) : Move fin s { s with board := b }
  | jobs (s : State) (p : Planner) (e : Engine) (move : JobMove fin s p e) :
      Move fin s { s with planner := p, engine := e }
  | sense (s : State) (u : Sense) (kept : SenseKept s.sense u) : Move fin s { s with sense := u }
  | rx (s : State) (r : Receiver) (kept : RxKept s.rx r) : Move fin s { s with rx := r }
  | tx (s : State) (x : Sender) (kept : TxKept s.tx x) : Move fin s { s with tx := x }

/-- A run of moves. -/
abbrev Moves (fin : Bool) : State → State → Prop := Relation.ReflTransGen (Move fin)

variable {fin : Bool}

/-- A law that each move keeps, a run of moves keeps. -/
theorem Moves.keeps {P : State → Prop} (h : ∀ s t, Move fin s t → P s → P t) {s t : State} (m : Moves fin s t)
    (hs : P s) : P t := by
  induction m with
  | refl => exact hs
  | tail _ m ih => exact h _ _ m ih

/-- An operation carried out for each element of a list. -/
theorem foldl_moves {α : Type} {f : State → α → State} (h : ∀ s a, Moves fin s (f s a)) (l : List α) (s : State) :
    Moves fin s (l.foldl f s) := by
  induction l generalizing s with
  | nil => exact .refl
  | cons a l ih => exact (h s a).trans (ih (f s a))

/-! ### Counters, time and draws -/

theorem countersRise_add (k : Counters) (c : Counter) (n : Nat) : CountersRise k (k.add c n) := by
  intro x hx
  rw [Counters.get_add]
  split <;> omega

theorem CountersRise.trans {k l m : Counters} (h : CountersRise k l) (h' : CountersRise l m) : CountersRise k m :=
  fun c hc => ⟨(h c hc).1.trans (h' c (h c hc).2).1, (h' c (h c hc).2).2⟩

theorem countMany_moves (s : State) (c : Counter) (n : Nat) : Moves fin s (s.countMany c n) :=
  .single (.counters s _ (countersRise_add _ c n))

theorem count_moves (s : State) (c : Counter) : Moves fin s (s.count c) := countMany_moves s c 1

theorem Moves.countMany {s t : State} (h : Moves fin s t) (c : Counter) (n : Nat) : Moves fin s (t.countMany c n) :=
  h.trans (countMany_moves t c n)

theorem Moves.count {s t : State} (h : Moves fin s t) (c : Counter) : Moves fin s (t.count c) := h.countMany c 1

/-- A case counted under a condition, as several operations begin. -/
theorem countIf_moves (s : State) (p : Prop) [Decidable p] (c : Counter) : Moves fin s (if p then s.count c else s) := by
  split
  · exact count_moves s c
  · exact .refl

theorem advance_moves (s : State) (dt : Nat) : Moves fin s (s.advance dt) := .single (.pass s dt)

theorem advanceTo_moves (s : State) (t : Nat) : Moves fin s (s.advanceTo t) := advance_moves s _

/-- The register never comes to 0: where all bits but the highest are 0, the highest feeds back as 1 (R162). -/
theorem lfsrStep_ne_zero {v : BitVec 16} (h : v ≠ 0#16) : lfsrStep v ≠ 0#16 := by
  intro h0
  have bit (i : Nat) (hi : i < 16) : (lfsrStep v).getLsbD i = false := by simp [h0]
  have low (i : Nat) (hi : i < 15) : v.getLsbD i = false := by
    have h1 := bit (i + 1) (by omega)
    simp only [lfsrStep, BitVec.getLsbD_or, BitVec.getLsbD_shiftLeft, Bool.or_eq_false_iff] at h1
    simpa [show i + 1 < 16 by omega] using h1.1
  have high : v.getLsbD 15 = false := by
    have h13 := low 13 (by omega)
    have h12 := low 12 (by omega)
    have h10 := low 10 (by omega)
    have fed := bit 0 (by omega)
    simp_all [lfsrStep]
  refine h (BitVec.eq_of_getLsbD_eq fun i hi => ?_)
  rcases Nat.lt_or_eq_of_le (Nat.le_of_lt_succ hi) with hi' | rfl
  · simpa using low i hi'
  · simpa using high

theorem lfsrSteps_ne_zero (n : Nat) {v : BitVec 16} (h : v ≠ 0#16) : lfsrSteps n v ≠ 0#16 := by
  induction n generalizing v with
  | zero => exact h
  | succ n ih => exact ih (lfsrStep_ne_zero h)

theorem afterDraw_moves (s : State) : Moves fin s s.afterDraw :=
  .single (.tx s _ ⟨id, lfsrSteps_ne_zero 16, id⟩)

end Sys2Proof.Proofs
end

section
/-! PROOF. The moves of planner and engine: each shared operation of chapters 6 and 7 as a run of moves. -/

namespace Sys2Proof.Proofs

open Sys2Proof Sys2Proof.Machine Sys2Proof.Claims

variable {fin : Bool}

/-! ### Seeds and bands (R104, R105) -/

theorem eldest_mem {s : State} {l : List (Fin 10)} {n : Fin 10} {t : Nat} (h : eldest s l = some (n, t)) : n ∈ l := by
  induction l generalizing n t with
  | nil => cases h
  | cons m rest ih =>
    simp only [eldest] at h
    split at h
    · exact .tail _ (ih h)
    · cases h; exact .head _
    next u m' u' _ best =>
      split at h
      · cases h; exact .head _
      · cases h; exact .tail _ (ih best)

theorem starvedLine_eligible {s : State} {n : Fin 10} (h : s.starvedLine = some n) : s.eligible n = true := by
  unfold State.starvedLine at h
  split at h
  · cases h
  next m t best =>
    split at h
    · cases h
      have found := List.of_mem_filter (eldest_mem best)
      simp only [Bool.and_eq_true] at found
      exact found.1
    · cases h

/-- The seed of a band is eligible, by whichever of the three tests it was found (R104). -/
theorem seed_eligible {s : State} {n : Fin 10} (h : s.seed = some n) : s.eligible n = true := by
  simp only [State.seed, Option.orElse_eq_orElse, Option.orElse_eq_or, Option.or_eq_some_iff] at h
  rcases h with starved | ⟨-, dirty | ⟨-, swept⟩⟩
  · exact starvedLine_eligible starved
  · have found := List.find?_some dirty
    simp only [Bool.and_eq_true] at found
    exact found.1
  · split at swept
    · have found := List.find?_some swept
      simp only [Bool.and_eq_true] at found
      exact found.1
    · cases swept

theorem inActive_of_eligible {s : State} {n : Fin 10} (h : s.eligible n = true) : s.inActive n = false := by
  simp only [State.eligible, Bool.and_eq_true, Bool.not_eq_true'] at h
  exact h.1

theorem inActive_of_fits {s : State} {m : Mode} {n : Nat} (h : s.fits m n = true) : s.inActive n = false := by
  unfold State.fits at h
  split at h
  · simp only [Bool.and_eq_true] at h
    exact inActive_of_eligible h.1.1
  · cases h

/-- The lines of a band that has grown are none of the active job's where the seed's are not (R105). -/
theorem grow_inActive {s : State} {m : Mode} (fuel : Nat) {b : Nat × Nat}
    (h : ∀ n, b.1 ≤ n → n ≤ b.2 → s.inActive n = false) (n : Nat) (hlo : (s.grow m fuel b).1 ≤ n)
    (hhi : n ≤ (s.grow m fuel b).2) : s.inActive n = false := by
  induction fuel generalizing b with
  | zero => exact h n hlo hhi
  | succ fuel ih =>
    obtain ⟨first, last⟩ := b
    simp only [State.grow] at hlo hhi
    split at hlo
    next after =>
      rw [if_pos after] at hhi
      refine ih (fun k klo khi => ?_) hlo hhi
      rcases Nat.lt_or_eq_of_le khi with hk | rfl
      · exact h k klo (Nat.le_of_lt_succ hk)
      · exact inActive_of_fits after
    next after =>
      rw [if_neg after] at hhi
      split at hlo
      next before =>
        rw [if_pos before] at hhi
        simp only [Bool.and_eq_true, decide_eq_true_eq] at before
        refine ih (fun k klo khi => ?_) hlo hhi
        rcases Nat.lt_or_eq_of_le klo with hk | rfl
        · exact h k (by simp only at hk; omega) khi
        · exact inActive_of_fits before.2
      next before =>
        rw [if_neg before] at hhi
        exact h n hlo hhi

/-- All that the choice of a NORMAL job comes to (R104 to R107): nothing; the planning hold; or a job staged whose lines
are none of the active job's, its band narrowed to the seed or not. -/
theorem stageNormal_cases (s : State) :
    s.stageNormal = s ∨ s.stageNormal = s.holdStaging ∨ ∃ first last m cost,
      (∀ n, first ≤ n → n ≤ last → s.inActive n = false) ∧
        (s.stageNormal = s.stage .normal first last m cost ∨
          s.stageNormal = (s.stage .normal first last m cost).count .bandNarrowed) := by
  unfold State.stageNormal
  split
  · exact .inl rfl
  next n hseed =>
    have alone : ∀ k, n.val ≤ k → k ≤ n.val → s.inActive k = false := by
      intro k hlo hhi
      rw [Nat.le_antisymm hhi hlo]
      exact inActive_of_eligible (seed_eligible hseed)
    dsimp only
    split
    · exact .inr (.inr ⟨_, _, _, _, grow_inActive 3 alone, .inl rfl⟩)
    · split
      · exact .inr (.inr ⟨n, n, _, _, alone, .inr rfl⟩)
      · exact .inr (.inl (by rfl))

/-! ### Staging and planning -/

theorem planner_moves (s : State) (p : Planner) (staged : p.staged = none ∨ p.staged = s.planner.staged)
    (energy : p.energy = s.planner.energy ∨ ∀ j, p.staged = some j → j.kind = .park) :
    Moves fin s { s with planner := p } := .single (.jobs s p s.engine (.planner p staged energy))

theorem engine_moves (s : State) (e : Engine) (kept : EngineKept s.engine e) : Moves fin s { s with engine := e } :=
  .single (.jobs s s.planner e (.engine e kept))

theorem SameGlass.refl (l : Vector LineRecord 10) : SameGlass l l := fun _ => ⟨rfl, rfl⟩

theorem withdrawStaged_moves (s : State) : Moves fin s s.withdrawStaged := by
  unfold State.withdrawStaged
  split
  · exact .refl
  · split
    · exact .refl
    · exact .count (planner_moves s _ (.inl (by rfl)) (.inl (by rfl))) _

theorem stage_moves {s : State} {kind : JobKind} {first last : Nat} {mode : Mode} {cost : Nat}
    (hkind : s.planner.energy = .dormant → kind = .park)
    (apart : ∀ n, first ≤ n → n ≤ last → s.inActive n = false) :
    Moves fin s (s.stage kind first last mode cost) := by
  refine .count (.single (.jobs s _ s.engine (.stage _ _ (by rfl) (by rfl) (by exact hkind) fun n hn => ?_))) _
  simp only [Job.contains, Bool.and_eq_true, decide_eq_true_eq] at hn
  exact apart n hn.1 hn.2

theorem holdStaging_moves (s : State) : Moves fin s s.holdStaging :=
  .count (planner_moves s _ (.inr (by rfl)) (.inl (by rfl))) _

theorem stageNormal_moves {s : State} (h : s.planner.energy ≠ .dormant) : Moves fin s s.stageNormal := by
  rcases stageNormal_cases s with e | e | ⟨first, last, m, cost, apart, e | e⟩
  · rw [e]
  · exact e ▸ holdStaging_moves s
  · exact e ▸ stage_moves (fun h' => absurd h' h) apart
  · exact e ▸ .count (stage_moves (fun h' => absurd h' h) apart) _

/-- A change of each line of a job that leaves its glass and its ghost count. -/
theorem sameGlass_mapPlaces {f : Nat → LineRecord → LineRecord} {l : Vector LineRecord 10}
    (h : ∀ n r, (f n r).glass = r.glass ∧ (f n r).ghost = r.ghost) : SameGlass l (mapPlaces f l) := by
  intro n
  rw [mapPlaces_get]
  exact h _ _

theorem dropActive_moves (s : State) (a : ActiveJob) : Moves fin s (s.dropActive a) := by
  have lines : SameGlass s.engine.lines (mapJobLines a.job (fun _ r => r.abandoned s.elapsed) s.engine.lines) :=
    sameGlass_mapPlaces fun n r => by split <;> exact ⟨rfl, rfl⟩
  have emptied : Moves fin s { s with engine := { s.engine with lines := _, active := none, suspendedAt := none } } :=
    .single (.jobs s _ _ (.empty _ lines))
  exact .count (emptied.trans (planner_moves _ _ (.inr (by rfl)) (.inl (by rfl)))) _

theorem suspendActive_moves {s : State} {a a' : ActiveJob} (h : s.engine.active = some a) (same : SameJob a a') :
    Moves fin s (s.suspendActive a') :=
  .count (.single (.jobs s _ _ (.suspend a { a' with state := .suspended, loaded := false } _ h ⟨same.first, same.last, same.mode, same.band⟩ rfl))) _

theorem SameJob.refl (a : ActiveJob) : SameJob a a := ⟨rfl, rfl, rfl, rfl⟩

theorem stopWaiting_moves (s : State) : Moves fin s s.stopWaiting := by
  unfold State.stopWaiting
  split
  · exact .refl
  next a ha =>
    split
    · exact suspendActive_moves ha (.refl a)
    · exact .refl

theorem askHalt_moves (s : State) : Moves fin s s.askHalt := by
  unfold State.askHalt
  split
  · exact .refl
  next a ha =>
    split
    · have asked : Moves fin s { s with planner := { s.planner with halt := some a.job.number } } :=
        planner_moves s _ (.inr (by rfl)) (.inl (by rfl))
      have noted := asked.tail (.jobs _ _ _ (.goOn a { a with haltAsked := true } ha ⟨rfl, rfl, rfl, rfl⟩ rfl))
      exact (Moves.count noted .haltRequested).trans (stopWaiting_moves _)
    · exact .refl

theorem clearForPark_moves (s : State) : Moves fin s s.clearForPark := by
  unfold State.clearForPark
  split
  · exact .refl
  · exact dropActive_moves s _

/-- Room has been made for the PARK job: the active slot is empty (R112). -/
@[simp] theorem clearForPark_active (s : State) : s.clearForPark.engine.active = none := by
  unfold State.clearForPark
  split
  · assumption
  · rfl

theorem inActive_of_empty {s : State} (h : s.engine.active = none) (n : Nat) : s.inActive n = false := by
  simp [State.inActive, h]

theorem stagePark_moves (s : State) : Moves fin s s.stagePark := by
  unfold State.stagePark
  split
  · exact (clearForPark_moves s).trans
      (stage_moves (fun _ => rfl) fun n _ _ => inActive_of_empty (clearForPark_active s) n)
  · exact .refl

theorem plan_moves (s : State) : Moves fin s s.plan := by
  unfold State.plan State.planPark
  split
  · split
    · exact (askHalt_moves s).trans (stagePark_moves _)
    · exact .refl
  next awake =>
    split
    · exact .refl
    · exact stageNormal_moves awake

theorem promote_moves {s : State} {j : Job} (was : s.planner.staged = some j) (ready : s.promotable j = true) :
    Moves fin s (s.promote j) :=
  .count (.single (.jobs s _ _ (.promote _ j was ready (by rfl) (by rfl)))) _

theorem promoteJobs_moves (s : State) : Moves fin s s.promoteJobs := by
  unfold State.promoteJobs
  split
  · exact .refl
  next j hj =>
    split
    next ready => exact (promote_moves hj ready).trans (plan_moves _)
    · exact .refl

theorem Moves.promoteJobs {s t : State} (h : Moves fin s t) : Moves fin s t.promoteJobs := h.trans (promoteJobs_moves t)

theorem planJobs_moves (s : State) : Moves fin s s.planJobs := (plan_moves s).trans (promoteJobs_moves _)

/-! ### The panel port -/

theorem servePort_moves (s : State) : Moves fin s s.servePort := by
  unfold State.servePort
  split
  next idle =>
    have stays {e : Engine} (lines : e.lines = s.engine.lines) (active : e.active = s.engine.active)
        (susp : e.suspendedAt = s.engine.suspendedAt) (faults : e.faults = s.engine.faults)
        (port : PortOk s.engine → PortOk e) : EngineKept s.engine e :=
      ⟨active, susp, lines ▸ .refl _, fun h => faults ▸ h, port⟩
    split
    · exact engine_moves s _ (stays rfl rfl rfl rfl (by simp +contextual [PortOk, idle]))
    · split
      · exact .refl
      · split
        · split
          · dsimp only
            split
            · exact engine_moves s _ (stays rfl rfl rfl rfl (by simp [PortOk, idle]))
            · exact .refl
          · exact engine_moves s _ (stays rfl rfl rfl rfl (by simp [PortOk, idle, ActiveJob.loadCommands]))
        · exact .refl
  · exact .refl

theorem releasePort_moves (s : State) : Moves fin s s.releasePort :=
  engine_moves s _ ⟨rfl, rfl, .refl _, id, fun _ => by simp [PortOk, Engine.release]⟩

theorem requestRead_moves (s : State) : Moves fin s s.requestRead := by
  unfold State.requestRead
  split
  · exact .refl
  · exact engine_moves s _ ⟨rfl, rfl, .refl _, id, id⟩

theorem Moves.requestRead {s t : State} (h : Moves fin s t) : Moves fin s t.requestRead := h.trans (requestRead_moves t)

/-! ### Suspension, completion, abandonment, resumption -/

theorem abandonActive_moves (s : State) (a : ActiveJob) : Moves fin s (s.abandonActive a) :=
  (dropActive_moves s a).trans (planJobs_moves _)

theorem suspendReported_moves {s : State} {a a' : ActiveJob} (h : s.engine.active = some a) (same : SameJob a a') :
    Moves fin s (s.suspendReported a') := (suspendActive_moves h same).trans (planJobs_moves _)

theorem reportCompletion_moves (s : State) (j : Job) : Moves fin s (s.reportCompletion j) :=
  planner_moves s _ (.inr (by rfl)) (.inl (by rfl))

theorem recordCompletion_moves {s : State} {a : ActiveJob} (h : s.engine.active = some a) (may : fin = true) :
    Moves fin s (s.recordCompletion a) := by
  have done := Relation.ReflTransGen.single
    (Move.jobs s _ _ (.complete a h a.contentOf (fun n => s.board.targets.toList.getD n []) may))
  exact .count (.countMany (done.trans (planner_moves _ _ (.inr (by rfl)) (.inl (by rfl)))) _ _) _

/-- Planning apart from a job's lines stages a job or sets the hold, as planning does (R116). -/
theorem planWithout_moves (s : State) (j : Job) : Moves fin s (s.planWithout j) := by
  unfold State.planWithout
  split
  · exact plan_moves s
  next awake =>
    have same : (s.hideLines j).planner.energy ≠ .dormant := awake
    dsimp only [State.plan]
    rw [if_neg same]
    split
    · exact .refl
    · rcases stageNormal_cases (s.hideLines j) with e | e | ⟨first, last, m, cost, apart, e | e⟩ <;> rw [e]
      · exact .refl
      · exact holdStaging_moves s
      · exact stage_moves (s := s) (kind := .normal) (fun h => absurd h awake) apart
      · exact .count (stage_moves (s := s) (kind := .normal) (fun h => absurd h awake) apart) .bandNarrowed

theorem completeActive_moves {s : State} {a : ActiveJob} (first : Bool) (h : s.engine.active = some a)
    (may : fin = true) : Moves fin s (s.completeActive a first) := by
  have done := recordCompletion_moves h may
  have reported : Moves fin s ((s.recordCompletion a).reportCompletion a.job).planJobs :=
    done.trans ((reportCompletion_moves _ _).trans (planJobs_moves _))
  unfold State.completeActive
  dsimp only
  split
  · exact reported
  next j hj =>
    split
    next ready =>
      simp only [Bool.and_eq_true] at ready
      exact done.trans ((promote_moves hj ready.2).trans
        ((planWithout_moves _ _).trans ((reportCompletion_moves _ _).trans (plan_moves _))))
    · exact reported

theorem tryResume_moves (s : State) : Moves fin s s.tryResume := by
  unfold State.tryResume
  split
  · exact .refl
  next a ha =>
    split
    · have resumed := Move.jobs (fin := fin) s _ _
        (.resume a { a with state := .running, loaded := false } ha ⟨rfl, rfl, rfl, rfl⟩ rfl)
      exact (Moves.count (.single resumed) .resumptions).trans (planJobs_moves _)
    · exact .refl

/-! ### The energy account and the sweep time -/

/-- The account with the reports of a change of the energy state, up to the withdrawal of what was staged in the state
before (R98, R99, R108). -/
theorem account_withdraw_moves (s : State) (v : Nat) (c : Counter) :
    Moves fin s (((s.account v).count c).withdrawStaged) := by
  unfold State.withdrawStaged
  split
  next none =>
    exact .count (planner_moves s _ (.inr (by rfl)) (.inr fun j hj => by cases none.symm.trans hj)) c
  next j hj =>
    split
    next park =>
      refine .count (planner_moves s _ (.inr (by rfl)) (.inr fun j' hj' => ?_)) c
      cases hj.symm.trans hj'
      exact park
    · exact ((planner_moves s { (s.account v).planner with staged := none } (.inl (by rfl))
        (.inr fun _ h => by cases h)).count c).count .stagedWithdrawn

/-- The account of a scan that leaves the energy state as it is. -/
theorem account_moves {s : State} {v : Nat} (h : (s.account v).planner.energy = s.planner.energy) :
    Moves fin s (s.account v) := planner_moves s _ (.inr (by rfl)) (.inl h)

theorem setSweep_moves (s : State) : Moves fin s s.setSweep :=
  .count (planner_moves s _ (.inr (by rfl)) (.inl (by rfl))) _

theorem leaveFaulted_moves (s : State) : Moves fin s s.leaveFaulted := by
  unfold State.leaveFaulted
  split
  · exact engine_moves s _ ⟨rfl, rfl, .refl _, fun _ => Nat.le_succ 2, id⟩
  · exact .refl

theorem leaveAndPromote_moves (s : State) : Moves fin s s.leaveAndPromote := by
  unfold State.leaveAndPromote
  split
  · exact (leaveFaulted_moves s).trans (promoteJobs_moves _)
  · exact .refl

theorem planSweep_moves (s : State) : Moves fin s s.planSweep :=
  (setSweep_moves s).trans ((withdrawStaged_moves _).trans (planJobs_moves _))

theorem sweepNow_moves (s : State) (order : SweepOrder) : Moves fin s (s.sweepNow order) := by
  cases order
  case planner => exact (planSweep_moves s).trans (leaveAndPromote_moves _)
  case engine => exact (leaveFaulted_moves s).trans (planSweep_moves _)
  case promotion => exact (leaveAndPromote_moves s).trans (planSweep_moves _)

end Sys2Proof.Proofs
end

section
/-! PROOF. The moves of the board composer, of the channel port, of the sense unit and of the blocks' start. -/

namespace Sys2Proof.Proofs

open Sys2Proof Sys2Proof.Machine Sys2Proof.Claims

variable {fin : Bool}

/-! ### Places in lists -/

theorem placeWhere_eq_some {α : Type} {p : α → Bool} {l : List α} {i : Nat} (h : placeWhere p l = some i) :
    ∃ a, l[i]? = some a ∧ p a = true := by
  induction l generalizing i with
  | nil => cases h
  | cons a rest ih =>
    rw [placeWhere] at h
    split at h
    next found => cases h; exact ⟨a, rfl, found⟩
    next =>
      obtain ⟨j, hj, rfl⟩ := Option.map_eq_some_iff.1 h
      exact ih hj

theorem placeWhere_eq_none {α : Type} {p : α → Bool} {l : List α} (h : placeWhere p l = none) :
    ∀ a ∈ l, p a = false := by
  induction l with
  | nil => simp
  | cons a rest ih =>
    rw [placeWhere] at h
    split at h
    · cases h
    next miss =>
      simp only [Option.map_eq_none_iff] at h
      simpa [miss] using ih h

/-! ### The rotation (R91) -/

theorem eligibleNotice_iff {ns : List Notice} {n : Notice} :
    eligibleNotice ns n = true ↔ n.urgent = true ∨ ∀ m ∈ ns, m.urgent = false := by
  simp [eligibleNotice, anyUrgent]

theorem exists_eligible {ns : List Notice} (h : ns ≠ []) : ∃ n ∈ ns, eligibleNotice ns n = true := by
  by_cases urgent : ∃ n ∈ ns, n.urgent = true
  · obtain ⟨n, hn, hu⟩ := urgent
    exact ⟨n, hn, eligibleNotice_iff.2 (.inl hu)⟩
  · obtain ⟨n, hn⟩ := List.exists_mem_of_ne_nil ns h
    exact ⟨n, hn, eligibleNotice_iff.2 (.inr fun m hm => by simpa using fun hu => urgent ⟨m, hm, hu⟩)⟩

/-- The search finds an eligible notice, and finds one wherever there are notices (R91). -/
theorem nextEligible_ok (ns : List Notice) (start : Nat) : RotationOk ns (nextEligible ns start) := by
  have found {j : Nat} (h : ∃ n, ns[j]? = some n ∧ eligibleNotice ns n = true) : RotationOk ns (some j) := by
    refine ⟨fun _ => by simp, fun i hi => ?_⟩
    cases hi
    obtain ⟨n, hn, he⟩ := h
    exact ⟨n, hn, eligibleNotice_iff.1 he⟩
  unfold nextEligible
  split
  next i hi =>
    obtain ⟨n, hn, he⟩ := placeWhere_eq_some hi
    exact found ⟨n, by simpa using hn, he⟩
  next =>
    cases hw : placeWhere (eligibleNotice ns) ns with
    | some i => exact found (placeWhere_eq_some hw)
    | none =>
      refine ⟨fun hne => ?_, fun _ h => by cases h⟩
      obtain ⟨n, hn, he⟩ := exists_eligible hne
      exact absurd he (by simp [placeWhere_eq_none hw n hn])

theorem settledCurrent_ok (ns : List Notice) (had : Bool) (kept : Option Nat) (place : Nat) :
    RotationOk ns (settledCurrent ns had kept place) := by
  unfold settledCurrent
  split
  · exact nextEligible_ok ns _
  · split
    next n hn =>
      split
      next he =>
        refine ⟨fun _ => by simp, fun j hj => ?_⟩
        cases hj
        exact ⟨n, hn, eligibleNotice_iff.1 he⟩
      · exact nextEligible_ok ns _
    · exact nextEligible_ok ns _
  · exact nextEligible_ok ns _

theorem board_moves (s : State) (b : Board) (kept : BoardKept s.board b) : Moves fin s { s with board := b } :=
  .single (.board s b kept)

/-- A changed store taken over with its settled rotation. -/
theorem setNotices_moves {s : State} {ns : List Notice} {had : Bool} {kept : Option Nat} {place : Nat} {same : Bool}
    (room : s.board.notices.length ≤ 4 → ns.length ≤ 4) :
    Moves fin s (s.setNotices ns (settledCurrent ns had kept place) same) :=
  board_moves s _ ⟨room, fun _ => settledCurrent_ok ns had kept place⟩

theorem removeNotices_moves (s : State) (p : Notice → Bool) : Moves fin s (s.removeNotices p) := by
  have room : s.board.notices.length ≤ 4 → (s.board.notices.filter fun n => !p n).length ≤ 4 :=
    (List.length_filter_le _ _).trans
  unfold State.removeNotices
  dsimp only
  split <;> exact setNotices_moves room

theorem appendNotice_moves {s : State} (n : Notice) (free : s.board.notices.length < 4) :
    Moves fin s (s.appendNotice n) := setNotices_moves fun _ => by simpa using free

theorem replaceNotice_moves (s : State) (i : Nat) (n : Notice) : Moves fin s (s.replaceNotice i n) :=
  setNotices_moves fun h => by simpa using h

theorem expireNotices_moves (s : State) : Moves fin s s.expireNotices := by
  unfold State.expireNotices
  dsimp only
  split
  · exact .refl
  · exact .countMany (removeNotices_moves s _) _ _

theorem rotateNotices_moves (s : State) : Moves fin s s.rotateNotices := by
  unfold State.rotateNotices
  split
  · exact .refl
  · split
    · exact board_moves s _ ⟨id, fun _ => nextEligible_ok _ _⟩
    · exact .refl

/-! ### Compositions -/

theorem sameGlass_judgeLines (old new : Vector Cells 10) (now : Nat) (p : Nat → Bool) (l : Vector LineRecord 10) :
    SameGlass l (judgeLines old new now p l) :=
  sameGlass_mapPlaces fun n r => by split <;> exact ⟨rfl, rfl⟩

theorem reportTargets_moves (s : State) (new : Vector Cells 10) (p : Nat → Bool) :
    Moves fin s (s.reportTargets new p) := by
  have targets := board_moves (fin := fin) s { s.board with targets := new } ⟨id, id⟩
  have judged := targets.trans (engine_moves _ { s.engine with
    lines := judgeLines s.board.targets new s.elapsed p s.engine.lines }
    ⟨rfl, rfl, sameGlass_judgeLines _ _ _ _ _, id, id⟩)
  exact (Moves.countMany (.count judged .boardRecomposed) .targetChange _).trans (withdrawStaged_moves _)

theorem composeTargets_moves (s : State) : Moves fin s s.composeTargets := by
  unfold State.composeTargets
  split
  · exact reportTargets_moves s _ _
  · exact .refl

theorem compose_moves (s : State) : Moves fin s s.compose := by
  unfold State.compose
  split
  · exact (composeTargets_moves s).trans (planJobs_moves _)
  · exact .refl

theorem composeFirst_moves (s : State) : Moves fin s s.composeFirst :=
  (reportTargets_moves s _ _).trans (planJobs_moves _)

/-! ### The receive side at blanking and loss of radio power -/

theorem rx_moves (s : State) (r : Receiver) (kept : RxKept s.rx r) : Moves fin s { s with rx := r } :=
  .single (.rx s r kept)

theorem enterHunt_moves (s : State) : Moves fin s s.enterHunt := by
  have hunt (u : State) (h : u.rx = s.rx) : Moves fin u { u with rx := { s.rx with state := .hunt, buffer := [] } } :=
    rx_moves u _ (h ▸ ⟨id, fun _ => by simp, id⟩)
  unfold State.enterHunt
  dsimp only
  split
  · exact (count_moves s _).trans (hunt _ (by simp))
  · exact hunt s rfl

theorem closeHeld_moves (s : State) : Moves fin s s.closeHeld := by
  unfold State.closeHeld
  split
  · exact rx_moves s _ ⟨id, id, id⟩
  · exact .refl

theorem followRadio_moves (s : State) : Moves fin s s.followRadio := by
  have follow (u : State) : Moves fin u { u with rx := { u.rx with radio := s.radioWanted } } :=
    rx_moves u _ ⟨id, id, id⟩
  unfold State.followRadio
  dsimp only
  split
  · exact (enterHunt_moves s).trans (follow _)
  · exact follow s

theorem settleRadio_moves (s : State) : Moves fin s s.settleRadio := (closeHeld_moves s).trans (followRadio_moves _)

theorem finish_moves (s : State) : Moves fin s s.finish := (servePort_moves s).trans (settleRadio_moves _)

/-! ### Arbitration and the places of the send side -/

theorem tx_moves (s : State) (x : Sender) (kept : TxKept s.tx x) : Moves fin s { s with tx := x } :=
  .single (.tx s x kept)

theorem pick_room {s : State} {p : Pick} (h : s.pick = some p) : p.tx.relay.length ≤ s.tx.relay.length := by
  rcases pick_cases h with h | h | h
  · rw [h]
  · unfold State.pickRelay at h
    split at h
    · cases h
    next f rest hr => cases h; simp [hr]
  · rw [pickPublication_keeps h]

theorem arbitrate_moves (s : State) : Moves fin s s.arbitrate := by
  unfold State.arbitrate
  split
  next idle =>
    split
    · exact .refl
    next p hp =>
      refine tx_moves s _ ⟨(pick_room hp).trans, ?lfsr, fun ok => ?send⟩
      case lfsr => simp [pick_keeps hp]
      case send =>
        have line : s.tx.line = [] := by simpa [idle] using ok.2.symm
        simp [SendOk, pick_keeps hp, line]
  · exact .refl

theorem countIf_tx (s : State) (p : Prop) [Decidable p] (c : Counter) : (if p then s.count c else s).tx = s.tx := by
  split <;> simp

theorem Moves.arbitrate {s t : State} (h : Moves fin s t) : Moves fin s t.arbitrate := h.trans (arbitrate_moves t)

theorem placeRelay_moves (s : State) (f : SendFrame) : Moves fin s (s.placeRelay f) := by
  refine .arbitrate ((countIf_moves s _ .relayDropped).trans (tx_moves _ _ ?_))
  rw [countIf_tx]
  refine ⟨fun room => ?_, id, id⟩
  simp only [List.length_append, List.length_singleton, Config.relayCapacity]
  split
  · simp only [List.length_drop]; omega
  · omega

/-- An OFFER that takes the place of a granted one leaves the send side granted or not as it was (R159). -/
theorem carryGrant_eq_none {x : Sender} {f : SendFrame} : carryGrant x f = none ↔ x.granted = none := by
  unfold carryGrant
  split
  · simp [*]
  · split <;> simp [*]

theorem placeOffer_moves (s : State) (f : SendFrame) : Moves fin s (s.placeOffer f) := by
  refine .arbitrate ((countIf_moves s _ .beaconReplaced).trans (tx_moves _ _ ?_))
  rw [countIf_tx]
  exact ⟨id, id, fun ok => by simpa [SendOk, carryGrant_eq_none] using ok⟩

theorem placeClock_moves (s : State) : Moves fin s s.placeClock := by
  refine .arbitrate ((countIf_moves s _ .beaconReplaced).trans (tx_moves _ _ ?_))
  rw [countIf_tx]
  exact ⟨id, id, id⟩

theorem placeReply_moves (s : State) (f : SendFrame) : Moves fin s (s.placeReply f) :=
  .arbitrate (tx_moves s _ (by exact ⟨id, id, id⟩))

/-! ### The start and the end of a frame -/

/-- The send side released, its other places as they stand or emptied: IDLE, with no frame and no line. -/
theorem releaseTx_moves {s : State} {x : Sender} (relay : x.relay = s.tx.relay) (lfsr : x.lfsr = s.tx.lfsr)
    (idle : x.state = .idle) (granted : x.granted = none) (line : x.line = []) :
    Moves fin s (State.arbitrate { s with tx := x }) :=
  (tx_moves s x ⟨fun h => relay ▸ h, fun h => lfsr ▸ h, fun _ => by simp [SendOk, idle, granted, line]⟩).trans
    (arbitrate_moves _)

theorem withdrawClock_moves (s : State) : Moves fin s s.withdrawClock := by
  have withdrawn := tx_moves (fin := fin) s { s.tx.release with clockWaiting := false }
    ⟨id, id, fun _ => by simp [SendOk, Sender.release]⟩
  exact (Moves.count withdrawn .clockWithdrawn).trans (arbitrate_moves _)

@[simp] theorem frameCharacters_ne_nil (f : SendFrame) : frameCharacters f ≠ [] := by simp [frameCharacters]

theorem putOnAir_moves (s : State) (g : Granted) : Moves fin s (s.putOnAir g) :=
  (enterHunt_moves s).trans (tx_moves _ _ ⟨by simp, by simp, fun _ => by simp [SendOk]⟩)

theorem startFrame_moves (s : State) : Moves fin s s.startFrame := by
  unfold State.startFrame
  split
  · exact .refl
  · split
    · exact tx_moves s _ ⟨id, id, id⟩
    · split
      · exact withdrawClock_moves s
      · exact putOnAir_moves s _

theorem sheets_moves (s : State) (st : SheetStore) (kept : SheetsKept s.sheets st) :
    Moves fin s { s with sheets := st } := .single (.sheets s st kept)

theorem fragmentSent_moves (s : State) (slot : SlotIx) (day : Day) (version : Version) (made : Nat) :
    Moves fin s (s.fragmentSent slot day version made) := by
  refine .countMany (.count (sheets_moves s _ ?_) _) _ _
  exact ⟨fun room => (List.length_filter_le _ _).trans (by simpa using room), id⟩

theorem fragmentAbandoned_moves (s : State) (slot : SlotIx) (day : Day) (version : Version) (made : Nat) :
    Moves fin s (s.fragmentAbandoned slot day version made) := countIf_moves s _ _

theorem tellSent_moves (s : State) (x : Source) : Moves fin s (s.tellSent x) := by
  cases x
  case reply => exact .count (tx_moves s _ (by exact ⟨id, id, id⟩)) _
  case publication slot day version made => exact fragmentSent_moves s slot day version made
  all_goals exact .refl

theorem tellAbandoned_moves (s : State) (x : Source) : Moves fin s (s.tellAbandoned x) := by
  cases x
  case reply => exact .count (tx_moves s _ (by exact ⟨id, id, id⟩)) _
  case relay => exact count_moves s _
  case publication slot day version made => exact fragmentAbandoned_moves s slot day version made
  all_goals exact tx_moves s _ ⟨id, id, id⟩

theorem endFrame_moves (s : State) (g : Granted) : Moves fin s (s.endFrame g) :=
  (count_moves s _).trans ((tellSent_moves _ _).trans (releaseTx_moves rfl rfl rfl rfl rfl))

theorem abandonFrame_moves (s : State) (g : Granted) : Moves fin s (s.abandonFrame g) :=
  (count_moves s _).trans ((tellAbandoned_moves _ _).trans (releaseTx_moves rfl rfl rfl rfl rfl))

/-! ### The sense unit -/

theorem sense_moves (s : State) (u : Sense) (kept : SenseKept s.sense u) : Moves fin s { s with sense := u } :=
  .single (.sense s u kept)

theorem takeBand_moves {s : State} {u : Sense} (kept : SenseKept s.sense u) : Moves fin s (s.takeBand u) := by
  unfold State.takeBand
  dsimp only
  split
  · exact sense_moves s u kept
  · exact (Moves.count (sense_moves s u kept) _).trans ((withdrawStaged_moves _).trans (planJobs_moves _))

theorem readSucceeded_moves (s : State) (v : Int) : Moves fin s (s.readSucceeded v) := by
  have taken : Moves fin s ((s.count .temperatureRead).takeBand (s.sense.readSuccess v)) :=
    (count_moves s _).trans (takeBand_moves ⟨by simp [Sense.readSuccess], fun _ => by simp [Sense.readSuccess]⟩)
  exact taken.trans (Moves.promoteJobs (engine_moves _ _ (by exact ⟨rfl, rfl, .refl _, id, id⟩)))

theorem readFailed_moves (s : State) : Moves fin s s.readFailed :=
  (count_moves s _).trans
    (takeBand_moves ⟨by simp [Sense.readFailure], fun _ => Nat.min_le_left 3 _⟩)

theorem setMode_moves (s : State) (e : Energy) : Moves fin s (s.setMode e) := by
  cases e <;> exact rx_moves s _ ⟨id, id, id⟩

theorem dormantEdge_moves (s : State) (before : Energy) : Moves fin s (s.dormantEdge before) := by
  have hold (e : Bool) : EngineKept s.engine { s.engine with freshHold := e } := ⟨rfl, rfl, .refl _, id, id⟩
  unfold State.dormantEdge
  split
  · exact .trans (engine_moves s _ (hold true))
      (.trans (planner_moves _ _ (.inr (by rfl)) (.inl (by rfl))) (requestRead_moves _))
  · split
    · exact engine_moves s _ (hold false)
    · exact .refl

/-- The account of a scan, and the reports of a change of the energy state where there is one (R98, R99, R155). -/
theorem handOnEnergy_moves (s : State) (v : Nat) (first : Bool) :
    Moves fin s ((s.account v).handOnEnergy s.planner.energy first) := by
  unfold State.handOnEnergy
  split
  next => exact (account_withdraw_moves s v _).trans
            ((dormantEdge_moves _ _).trans ((composeTargets_moves _).trans (setMode_moves _ _)))
  next same =>
    have accounted : Moves fin s (s.account v) := account_moves (by simpa using same)
    split
    · exact accounted.trans (setMode_moves _ _)
    · exact accounted

theorem scanJobs_moves (s : State) : Moves fin s s.scanJobs :=
  (planJobs_moves s).trans ((tryResume_moves _).trans (promoteJobs_moves _))

/-! ### The start of the blocks (R171) -/

theorem lfsrSeed_ne_zero (id : StopId) : lfsrSeed id ≠ 0#16 := by
  unfold lfsrSeed
  split
  · decide
  · assumption

theorem startPort_moves (s : State) : Moves fin s s.startPort :=
  .tail (rx_moves s { s.rx with state := .hunt, mode := .listen, radio := true } ⟨id, id, id⟩)
    (.tx _ _ ⟨id, fun _ => lfsrSeed_ne_zero _, id⟩)

theorem armStoreLow_moves (s : State) (node : Nat) : Moves fin s (s.armStoreLow node) := by
  unfold State.armStoreLow
  split
  · exact .count (sense_moves s _ (by exact ⟨id, id⟩)) _
  · exact .refl

theorem startSense_moves (s : State) : Moves fin s s.startSense :=
  .requestRead (sense_moves s _ (by exact ⟨id, id⟩))

theorem startBlocks_moves (s : State) (node : Nat) : Moves fin s (s.startBlocks node) := by
  have planned : Moves fin s s.startPlanner := planner_moves s _ (.inr (by rfl)) (.inl (by rfl))
  exact planned.trans ((startPort_moves _).trans ((armStoreLow_moves _ node).trans
    ((startSense_moves _).trans ((composeFirst_moves _).trans (servePort_moves _)))))

/-! ### The receive side -/

theorem receiveAs_moves {s : State} {st : ReceiveState} {buffer : List Byte} (room : buffer.length ≤ 48) :
    Moves fin s (s.receiveAs st buffer) := rx_moves s _ ⟨id, fun _ => room, id⟩

theorem judgeHeader_moves (s : State) (h : Byte) : Moves fin s (s.judgeHeader h) := by
  unfold State.judgeHeader
  split
  · exact receiveAs_moves (by simp)
  · exact (count_moves s _).trans (receiveAs_moves (by simp))

theorem markedCharacter_moves (s : State) (b : Byte) : Moves fin s (s.markedCharacter b) := by
  unfold State.markedCharacter
  split
  · exact (count_moves s _).trans (judgeHeader_moves _ b)
  · exact judgeHeader_moves s b

theorem unmarkedCharacter_moves (s : State) (b : Byte) : Moves fin s (s.unmarkedCharacter b) := by
  unfold State.unmarkedCharacter
  split
  · exact count_moves s _
  · exact .refl
  · split
    next free => exact receiveAs_moves (by simpa using free)
    · exact (count_moves s _).trans (receiveAs_moves (by simp))

theorem badCharacter_moves (s : State) : Moves fin s s.badCharacter := by
  unfold State.badCharacter
  dsimp only
  split
  · exact (count_moves s _).trans (receiveAs_moves (by simp))
  · exact count_moves s _

theorem takeCharacter_moves (s : State) (a b c : BitVec 11) : Moves fin s (s.takeCharacter a b c) := by
  have timed : Moves fin s { s with rx := { s.rx with lastCharacter := s.elapsed } } := rx_moves s _ ⟨id, id, id⟩
  have noted (u : State) : Moves fin u (u.countNoise a b c) := by
    unfold State.countNoise
    split
    · exact .refl
    · exact count_moves u _
  have valued (u : State) (v : BitVec 11) : Moves fin u (u.takeValue v) := by
    unfold State.takeValue
    split
    · exact badCharacter_moves u
    · split
      · exact markedCharacter_moves u _
      · exact unmarkedCharacter_moves u _
  exact timed.trans ((noted _).trans (valued _ _))

/-- The length check of R150 is the list of lengths its table gives. -/
theorem lengthFits_iff {k : Kind} {n : Nat} : lengthFits k n = true ↔ n ∈ bodyLengths k := by
  cases k
  case notice =>
    simp only [lengthFits, bodyLengths, Bool.and_eq_true, decide_eq_true_eq, List.mem_map, List.mem_range]
    exact ⟨fun h => ⟨n - 14, by omega⟩, fun ⟨a, h⟩ => by omega⟩
  case reply =>
    simp only [lengthFits, bodyLengths, Bool.and_eq_true, decide_eq_true_eq, List.mem_map, List.mem_range]
    exact ⟨fun h => ⟨n - 4, by omega⟩, fun ⟨a, h⟩ => by omega⟩
  all_goals
    simp [lengthFits, bodyLengths] <;> omega

theorem heardFrame_moves (s : State) : Moves fin s s.heardFrame := by
  unfold State.heardFrame
  split
  · exact rx_moves s _ ⟨id, id, id⟩
  · exact .refl

theorem offerToQueue_moves {s : State} {f : ReceivedFrame} (fits : f.body.length ∈ bodyLengths (headerKind f.header)) :
    Moves fin s (s.offerToQueue f) := by
  unfold State.offerToQueue
  split
  next free =>
    have kept : RxKept s.rx { s.rx with queue := s.rx.queue ++ [f] } := by
      refine ⟨fun _ => by simpa using free, id, fun ok g hg => ?_⟩
      rcases List.mem_append.1 hg with old | new
      · exact ok g old
      · rw [List.mem_singleton.1 new]; exact fits
    exact (Moves.count (rx_moves s _ kept) .frameReceived).trans (heardFrame_moves _)
  · exact count_moves s _

theorem judgeFrame_moves (s : State) : Moves fin s s.judgeFrame := by
  have ended : Moves fin s (s.receiveAs .hunt []) := receiveAs_moves (by simp)
  unfold State.judgeFrame
  dsimp only
  split
  · exact ended.count _
  · split
    · exact .count ended _
    · split
      · exact .count ended _
      next fits => exact ended.trans (offerToQueue_moves (lengthFits_iff.1 (by simpa using fits)))

theorem takeIdle_moves (s : State) : Moves fin s s.takeIdle := by
  unfold State.takeIdle
  split
  · exact .refl
  · exact receiveAs_moves (by simp)
  · exact judgeFrame_moves s

theorem openWindow_moves (s : State) : Moves fin s s.openWindow := by
  have opened (u : State) (h : u.rx = s.rx) (w : Window) (t : Option Nat) :
      Moves fin u { u with rx := { s.rx with window := w, sniffTimer := t } } := rx_moves u _ (h ▸ ⟨id, id, id⟩)
  unfold State.openWindow
  dsimp only
  split
  · exact (count_moves s _).trans (opened _ (by simp) _ _)
  · exact opened s rfl _ _

theorem endWindow_moves (s : State) : Moves fin s s.endWindow := rx_moves s _ ⟨id, id, id⟩

/-! ### Access to the channel -/

theorem accessAs_moves (s : State) (st : AccessStage) (n : Option Nat) : Moves fin s (s.accessAs st n) :=
  tx_moves s _ ⟨id, id, id⟩

theorem freezeCountdown_moves (s : State) : Moves fin s s.freezeCountdown := .count (accessAs_moves s _ _) _

theorem countDown_moves (s : State) (n : Nat) : Moves fin s (s.countDown n) := by
  unfold State.countDown
  split
  · exact (accessAs_moves s _ _).trans (startFrame_moves _)
  · exact accessAs_moves s _ _

theorem endFirstStage_moves (s : State) : Moves fin s s.endFirstStage := by
  unfold State.endFirstStage
  split
  · exact (afterDraw_moves s).trans (countDown_moves _ _)
  · exact countDown_moves s _

theorem countSlot_moves (s : State) : Moves fin s s.countSlot := by
  unfold State.countSlot
  split
  · exact .refl
  · exact countDown_moves s _

theorem finishSending_moves (s : State) : Moves fin s s.finishSending := by
  unfold State.finishSending
  split
  · exact .refl
  · exact (endFrame_moves s _).trans (settleRadio_moves _)

theorem giveUp_moves (s : State) : Moves fin s s.giveUp := by
  unfold State.giveUp
  split
  · exact .refl
  · exact (abandonFrame_moves s _).trans (settleRadio_moves _)

end Sys2Proof.Proofs
end

section
/-! PROOF. The moves of the departure table: what evaluations, fill passes, departures, rollovers, flushes and rebuilds
do to entries and fill marks, with the laws of capacity, fill marks, identity and predicted times (chapters 1 and 2). -/

namespace Sys2Proof.Proofs

open Sys2Proof Sys2Proof.Machine Sys2Proof.Claims

variable {fin : Bool}

/-! ### Order -/

theorem insertBy_perm {α : Type} (before : α → α → Bool) (a : α) (l : List α) : (insertBy before a l).Perm (a :: l) := by
  induction l with
  | nil => exact .refl _
  | cons b rest ih =>
    rw [insertBy]
    split
    · exact .refl _
    · exact (ih.cons b).trans (.swap a b rest)

theorem sortBy_perm {α : Type} (before : α → α → Bool) (l : List α) : (sortBy before l).Perm l := by
  induction l with
  | nil => exact .refl _
  | cons a rest ih => exact (insertBy_perm before a _).trans (ih.cons a)

/-! ### What an evaluation leaves of an entry (R27) -/

/-- Slot, day and run number are an entry's identity (1.2). -/
def SameRun (e e' : Entry) : Prop := e'.slot = e.slot ∧ e'.day = e.day ∧ e'.run = e.run

theorem SameRun.refl (e : Entry) : SameRun e e := ⟨rfl, rfl, rfl⟩

/-- An entry's observed delay is at most its clamp (R10, R14). -/
def DelayOk (e : Entry) : Prop := ∀ o, e.observation = some o → o.delay ≤ 5400

theorem projectedDelay_range (c : Loaded) (stop : Nat) {obs : Option Observation}
    (h : ∀ o, obs = some o → o.delay ≤ 5400) :
    -(c.early : Int) ≤ projectedDelay c stop obs ∧ projectedDelay c stop obs ≤ 5400 := by
  unfold projectedDelay
  split
  · omega
  next o =>
    have hd := h o rfl
    have loss : (0 : Int) ≤ c.recovery * hopDistance stop o := by positivity
    split <;> omega

theorem dropStale_cases (c : Loaded) (now : Int) (e : Entry) :
    e.dropStale c now = e ∨ e.dropStale c now = { e with observation := none, shown := none } := by
  unfold Entry.dropStale
  split
  · exact .inr rfl
  · exact .inl rfl

/-- The state test moves the state alone (R32). -/
theorem testState_eq (now : Int) (e : Entry) : ∃ st, e.testState now = { e with state := st } := by
  unfold Entry.testState
  split <;> exact ⟨_, rfl⟩

/-- What stays of an entry that an evaluation keeps: all but observation, P, state and shown minutes; its observation is
its own or gone, and P is the projection's (R27 to R36). -/
theorem evaluate_some {c : Loaded} {now : Int} {e e' : Entry} (h : e.evaluate c now = some e') :
    e' = { e with observation := e'.observation, predicted := e'.predicted, state := e'.state, shown := e'.shown } ∧
      (e'.observation = e.observation ∨ e'.observation = none) ∧
      e'.predicted = e.scheduled + projectedDelay c (c.slots.get e.slot).stopIndex e'.observation := by
  unfold Entry.evaluate Entry.judged at h
  split at h
  · cases h
  · obtain ⟨st, hst⟩ := testState_eq now ((e.dropStale c now).project c)
    cases h
    rw [hst]
    rcases dropStale_cases c now e with hd | hd <;> simp [hd, Entry.countdown, Entry.project]

theorem evaluate_sameRun {c : Loaded} {now : Int} {e e' : Entry} (h : e.evaluate c now = some e') :
    SameRun e e' ∧ e'.scheduled = e.scheduled := by
  rw [(evaluate_some h).1]
  exact ⟨⟨rfl, rfl, rfl⟩, rfl⟩

/-- P after an evaluation is in range, the observed delay being at most its clamp (R31). -/
theorem evaluate_inRange {c : Loaded} {now : Int} {e e' : Entry} (h : e.evaluate c now = some e') (ok : DelayOk e) :
    predictionInRange c.early e' := by
  obtain ⟨-, hobs, hp⟩ := evaluate_some h
  have hs := (evaluate_sameRun h).2
  have ok' : ∀ o, e'.observation = some o → o.delay ≤ 5400 := by
    rcases hobs with hobs | hobs
    · rw [hobs]; exact ok
    · rw [hobs]; exact fun _ h => by cases h
  have range := projectedDelay_range c (c.slots.get e.slot).stopIndex ok'
  exact ⟨ok', by omega, by omega⟩

/-! ### Tables whose entries come from the entries before -/

theorem oneEach_of_perm {l l' : List Entry} (p : l'.Perm l) (h : OneEach l) : OneEach l' :=
  (p.pairwise_iff fun hab hba => hab ⟨hba.1.symm, hba.2.1.symm, hba.2.2.symm⟩).2 h

theorem oneEach_filterMap {g : Entry → Option Entry} (same : ∀ e e', g e = some e' → SameRun e e') {l : List Entry}
    (h : OneEach l) : OneEach (l.filterMap g) := by
  rw [OneEach, List.pairwise_filterMap]
  refine h.imp fun {a b} apart a' ha b' hb eq => apart ?_
  obtain ⟨sa, da, ra⟩ := same a a' ha
  obtain ⟨sb, db, rb⟩ := same b b' hb
  exact ⟨sa ▸ sb ▸ eq.1, da ▸ db ▸ eq.2.1, ra ▸ rb ▸ eq.2.2⟩

/-- A table whose entries are what a function leaves of the entries before, each with its identity. -/
theorem tableKept_of_filterMap {s : State} {t : Table} {g : Entry → Option Entry}
    (perm : t.entries.Perm (s.table.entries.filterMap g)) (same : ∀ e e', g e = some e' → SameRun e e')
    (marks : ∀ e ∈ s.table.entries, e.scheduled ≤ s.table.marks.get e.slot →
      ∀ e', g e = some e' → e'.scheduled ≤ t.marks.get e'.slot)
    (predictions : ∀ e e', g e = some e' → predictionInRange s.loader.loaded.early e →
      predictionInRange s.loader.loaded.early e') : TableKept s t where
  room h := perm.length_eq ▸ (List.length_filterMap_le _ _).trans h
  marks h e' he' := by
    obtain ⟨e, he, hg⟩ := List.mem_filterMap.1 (perm.mem_iff.1 he')
    exact marks e he (h e he) e' hg
  each _ h := oneEach_of_perm perm (oneEach_filterMap same h)
  predictions h e' he' := by
    obtain ⟨e, he, hg⟩ := List.mem_filterMap.1 (perm.mem_iff.1 he')
    exact predictions e e' hg (h e he)

theorem table_moves (s : State) (t : Table) (kept : TableKept s t) : Moves fin s { s with table := t } :=
  .single (.table s t kept)

theorem counters_moves (s : State) (k : Counters) (rise : CountersRise s.counters k) :
    Moves fin s { s with counters := k } := .single (.counters s k rise)

/-- A table with its entries and fill marks as they were. -/
theorem sameEntries_moves {s : State} {t : Table} (entries : t.entries = s.table.entries)
    (marks : t.marks = s.table.marks) : Moves fin s { s with table := t } := by
  refine table_moves s t ⟨?_, ?_, ?_, ?_⟩ <;> rw [entries]
  · exact id
  · rw [marks]; exact id
  · exact fun _ => id
  · exact id

theorem takeOut_moves (s : State) (p : Entry → Bool) : Moves fin s (s.takeOut p) := by
  refine table_moves s _ (tableKept_of_filterMap (g := Option.guard fun e => !p e) ?_ ?_ ?_ ?_)
  · rw [List.filterMap_eq_filter]
  · rintro e e' h
    obtain ⟨rfl, -⟩ := Option.guard_eq_some_iff.1 h
    exact .refl e
  · rintro e - hm e' h
    obtain ⟨rfl, -⟩ := Option.guard_eq_some_iff.1 h
    exact hm
  · rintro e e' h hp
    obtain ⟨rfl, -⟩ := Option.guard_eq_some_iff.1 h
    exact hp

/-! ### Evaluations -/

theorem evaluateWhere_rise (c : Loaded) (day : Day) (now : Int) (p : Entry → Bool) (t : Table) (k : Counters) :
    CountersRise k (evaluateWhere c day now p t k).2 :=
  (countersRise_add _ _ _).trans (countersRise_add _ _ _)

/-- A change of the entries a predicate picks, each then evaluated, where the change keeps identity, S and the clamp of
the observed delay. -/
theorem changeWhere_kept (s : State) (p : Entry → Bool) (f : Entry → Entry) (k : Counters)
    (same : ∀ e, SameRun e (f e) ∧ (f e).scheduled = e.scheduled) (picks : ∀ e, p (f e) = p e)
    (delay : ∀ e, DelayOk e → DelayOk (f e)) :
    TableKept s (evaluateWhere s.loader.loaded s.clock.day s.now p
      { s.table with entries := s.table.entries.map fun e => if p e then f e else e } k).1 := by
  have step (e e' : Entry) (h : (if p e then (f e).evaluate s.loader.loaded s.now else some e) = some e') :
      SameRun e e' ∧ e'.scheduled = e.scheduled ∧ (predictionInRange s.loader.loaded.early e →
        predictionInRange s.loader.loaded.early e') := by
    split at h
    · obtain ⟨run, sched⟩ := evaluate_sameRun h
      obtain ⟨⟨hs, hd, hr⟩, hf⟩ := same e
      exact ⟨⟨run.1.trans hs, run.2.1.trans hd, run.2.2.trans hr⟩, sched.trans hf,
        fun ok => evaluate_inRange h (delay e ok.1)⟩
    · cases h
      exact ⟨.refl e, rfl, id⟩
  refine tableKept_of_filterMap (g := fun e => if p e then (f e).evaluate s.loader.loaded s.now else some e)
    ((sortBy_perm _ _).trans (.of_eq ?_)) (fun e e' h => (step e e' h).1) (fun e _ hm e' h => ?_)
    (fun e e' h => (step e e' h).2.2)
  · rw [List.filterMap_map]
    congr 1
    funext e
    by_cases hp : p e = true <;> simp [hp, picks]
  · obtain ⟨⟨hs, -, -⟩, sched, -⟩ := step e e' h
    rw [hs, sched]
    exact hm

theorem evaluateAll_moves (s : State) : Moves fin s s.evaluateAll := by
  have kept := changeWhere_kept s (fun _ => true) id s.counters (fun e => ⟨.refl e, rfl⟩) (fun _ => rfl) (fun _ => id)
  simp only [if_true, id, List.map_id'] at kept
  exact (table_moves s _ kept).trans (counters_moves _ _ (evaluateWhere_rise _ _ _ _ s.table s.counters))

/-- A change of one run's entry with its evaluation (R2, R26). -/
theorem changeEntry_moves {s : State} {slot : SlotIx} {day : Day} {run : Nat} {f : Entry → Entry}
    (same : ∀ e, SameRun e (f e) ∧ (f e).scheduled = e.scheduled) (delay : ∀ e, DelayOk e → DelayOk (f e)) :
    Moves fin s (s.changeEntry slot day run f) := by
  have picks (e : Entry) : (f e).isRun slot day run = e.isRun slot day run := by
    obtain ⟨hs, hd, hr⟩ := (same e).1
    simp [Entry.isRun, hs, hd, hr]
  exact (table_moves s _ (changeWhere_kept s _ f s.counters same picks delay)).trans
    (counters_moves _ _ (evaluateWhere_rise _ _ _ _ _ s.counters))

/-! ### Fill passes (R5 to R8) -/

theorem lexBefore_head {a b : Int} {rest : List (Int × Int)} (h : lexBefore ((a, b) :: rest) = true) : a ≤ b := by
  unfold lexBefore at h
  split at h
  · omega
  · split at h
    · cases h
    · omega

theorem lexBefore_total {ab : List (Int × Int)} (h : lexBefore ab = false) : lexBefore (ab.map Prod.swap) = true := by
  induction ab with
  | nil => cases h
  | cons x rest ih =>
    obtain ⟨a, b⟩ := x
    simp only [lexBefore, List.map_cons, Prod.swap] at h ⊢
    split at h
    · cases h
    · split at h
      · simp_all
      · simp_all

/-- Insertion keeps a list in an order that is implied by coming before and is transitive, `before` being total in it. -/
theorem sortBy_pairwise {α : Type} {before : α → α → Bool} {R : α → α → Prop}
    (yes : ∀ a b, before a b = true → R a b) (no : ∀ a b, before a b = false → R b a)
    (trans : ∀ a b c, R a b → R b c → R a c) (l : List α) : (sortBy before l).Pairwise R := by
  have insert (a : α) (m : List α) (hm : m.Pairwise R) : (insertBy before a m).Pairwise R := by
    induction m with
    | nil => exact .cons (by simp) .nil
    | cons b rest ih =>
      rw [insertBy]
      have first : ∀ x ∈ rest, R b x := fun x hx => List.rel_of_pairwise_cons hm hx
      split
      next hab =>
        refine .cons (fun x hx => ?_) hm
        rcases List.mem_cons.1 hx with rfl | hx
        · exact yes a _ hab
        · exact trans a b x (yes a b hab) (first x hx)
      next hab =>
        refine .cons (fun x hx => ?_) (ih hm.of_cons)
        rcases mem_insertBy.1 hx with rfl | hx
        · exact no _ _ (by simpa using hab)
        · exact first x hx
  induction l with
  | nil => exact .nil
  | cons a rest ih => exact insert a _ ih

/-- The pass takes its candidates in the order of S (R7). -/
theorem candidates_ascending (c : Loaded) (day : Day) (now : Int) (slots : Vector SlotSheets 6) (t : Table) :
    (candidates c day now slots t).Pairwise fun x y => x.scheduled ≤ y.scheduled := by
  refine sortBy_pairwise (before := candidateBefore) (R := fun x y => x.scheduled ≤ y.scheduled) (fun a b h => ?_)
    (fun a b h => ?_) (fun _ _ _ => le_trans) _
  · exact lexBefore_head h
  · exact lexBefore_head (lexBefore_total h)

theorem flatten_groupCandidates (l : List Candidate) : (groupCandidates l).flatten = l := by
  induction l with
  | nil => rfl
  | cons x rest ih =>
    rw [groupCandidates]
    split
    next h => rw [h] at ih; simpa using ih
    next h => rw [h] at ih; simpa using ih
    next h =>
      rw [h] at ih
      split <;> simpa using ih

/-- All that a fill pass comes to: of its candidates in their order some first ones are admitted, as many as the table
has room for, and some next ones are left out of a group larger than the table (R7). -/
theorem passResult_eq (s : State) : ∃ taken lost,
    taken ++ lost <+: candidates s.loader.loaded s.clock.day s.now s.sheets.slots s.table ∧
      (taken = [] ∨ s.table.entries.length + taken.length ≤ 48) ∧
      s.passResult = lost.foldl loseCandidate
        (taken.foldl (admitCandidate s.loader.loaded s.clock.day s.now) (s.table, s.counters)) := by
  obtain ⟨k, -, room, h⟩ := passGroups_cases s.loader.loaded s.clock.day s.now s.passGroupsNow
    s.table.entries.length (s.table, s.counters)
  have flat : s.passGroupsNow.flatten = candidates s.loader.loaded s.clock.day s.now s.sheets.slots s.table :=
    flatten_groupCandidates _
  have split : (s.passGroupsNow.take k).flatten ++ (s.passGroupsNow.drop k).flatten = s.passGroupsNow.flatten := by
    rw [← List.flatten_append, List.take_append_drop]
  rcases h with ⟨g, hg, free, -, result⟩ | ⟨-, result⟩
  · refine ⟨(s.passGroupsNow.take k).flatten ++ g.take 48, g.drop 48, ?_, .inr ?_, ?_⟩
    · rw [List.append_assoc, List.take_append_drop, ← flat, ← split]
      obtain ⟨hlt, rfl⟩ := List.getElem?_eq_some_iff.1 hg
      rw [List.drop_eq_getElem_cons hlt, List.flatten_cons]
      exact (List.prefix_append_right_inj _).2 (List.prefix_append _ _)
    · simp only [List.length_append, List.length_take]
      omega
    · rw [List.foldl_append]
      exact result
  · refine ⟨(s.passGroupsNow.take k).flatten, [], ?_, ?_, result⟩
    · rw [List.append_nil, ← flat, ← split]
      exact List.prefix_append _ _
    · rcases room with rfl | room
      · exact .inl rfl
      · exact .inr room

/-- Every candidate's S lies above its slot's fill mark (R6). -/
theorem mark_lt_of_position {c : Loaded} {now mark : Int} {slot : SlotIx} {day : Day} {off : Int} {sh : Option Sheet}
    {x : Candidate} (h : x ∈ positionCandidates c now mark slot day off sh) :
    x.slot = slot ∧ x.day = day ∧ mark < x.scheduled ∧ ∃ h', sh = some h' ∧ x.run ∈ h'.runs := by
  unfold positionCandidates at h
  split at h
  · cases h
  next sheet =>
    simp only [List.mem_filter, List.mem_map, Bool.and_eq_true, decide_eq_true_eq] at h
    obtain ⟨⟨r, hr, rfl⟩, ⟨hm, -⟩, -⟩ := h
    exact ⟨rfl, rfl, hm, sheet, rfl, hr⟩

theorem mark_lt_of_candidate {c : Loaded} {day : Day} {now : Int} {slots : Vector SlotSheets 6} {t : Table}
    {x : Candidate} (h : x ∈ candidates c day now slots t) : t.marks.get x.slot < x.scheduled := by
  obtain ⟨⟨i, -, hx | hx⟩, -⟩ := mem_candidates.1 h
  all_goals
    obtain ⟨rfl, -, hm, -⟩ := mark_lt_of_position hx
    exact hm

/-- A candidate's run is none the table holds (R1). -/
theorem not_held_of_candidate {c : Loaded} {day : Day} {now : Int} {slots : Vector SlotSheets 6} {t : Table}
    {x : Candidate} (h : x ∈ candidates c day now slots t) :
    ∀ e ∈ t.entries, ¬ (e.slot = x.slot ∧ e.day = x.day ∧ e.run = x.run.number) := by
  simpa [← Bool.not_eq_true] using (mem_candidates.1 h).2

/-- Two candidates differ in slot, day or run number. -/
def ApartRuns (x y : Candidate) : Prop := ¬ (x.slot = y.slot ∧ x.day = y.day ∧ x.run.number = y.run.number)

theorem distinctRuns_iff {runs : List Run} : distinctRuns runs = true ↔ (runs.map (·.number)).Nodup := by
  induction runs with
  | nil => simp [distinctRuns]
  | cons a rest ih =>
    simp only [distinctRuns, Bool.and_eq_true, List.all_eq_true, bne_iff_ne, ih, List.map_cons, List.nodup_cons,
      List.mem_map, not_exists, not_and]

theorem positionCandidates_apart {c : Loaded} {now mark : Int} {slot : SlotIx} {day : Day} {off : Int}
    {sh : Option Sheet} (h : ∀ x, sh = some x → distinctRuns x.runs = true) :
    (positionCandidates c now mark slot day off sh).Pairwise ApartRuns := by
  unfold positionCandidates
  split
  · exact .nil
  next sheet =>
    have runs := distinctRuns_iff.1 (h sheet rfl)
    rw [List.nodup_iff_pairwise_ne, List.pairwise_map] at runs
    refine .filter _ (List.pairwise_map.2 (runs.imp fun hne => ?_))
    exact fun eq => hne eq.2.2

theorem forDay_mem {h : SlotSheets} {day : Day} {sh : Sheet} (hs : h.forDay day = some sh) : sh ∈ h.sheets :=
  List.mem_of_find?_eq_some hs

/-- Over sound sheets no two candidates of a pass are of one slot, day and run number (R1, R44). -/
theorem candidates_apart {c : Loaded} {day : Day} {now : Int} {st : SheetStore} {t : Table} (h : StoreSound st) :
    (candidates c day now st.slots t).Pairwise ApartRuns := by
  have distinct (i : SlotIx) (d : Day) : ∀ x, (st.slots.get i).forDay d = some x → distinctRuns x.runs = true :=
    fun x hx => ((h i).1 x (forDay_mem hx)).2.2.2
  have symm : ∀ {x y}, ApartRuns x y → ApartRuns y x :=
    fun hxy hyx => hxy ⟨hyx.1.symm, hyx.2.1.symm, hyx.2.2.symm⟩
  refine ((sortBy_perm _ _).pairwise_iff symm).2 (.filter _ (List.pairwise_flatMap.2 ⟨fun i _ => ?_, ?_⟩))
  · refine List.pairwise_append.2 ⟨positionCandidates_apart (distinct i _), positionCandidates_apart (distinct i _),
      fun x hx y hy eq => ?_⟩
    have hd := eq.2.1
    rw [(mark_lt_of_position hx).2.1, (mark_lt_of_position hy).2.1] at hd
    exact absurd hd (by bv_omega)
  · have slotOf {i : SlotIx} {x : Candidate}
        (hx : x ∈ positionCandidates c now (t.marks.get i) i day 0 ((st.slots.get i).forDay day) ++
          positionCandidates c now (t.marks.get i) i (day + 1#16) 1 ((st.slots.get i).forDay (day + 1#16))) :
        x.slot = i := by
      rcases List.mem_append.1 hx with hx | hx <;> exact (mark_lt_of_position hx).1
    have slots : allSlots.Nodup := by decide
    refine (slots.filter _).imp fun hne x hx y hy eq => hne ?_
    rw [← slotOf hx, ← slotOf hy, eq.1]

@[simp] theorem setMark_get (marks : Vector Int 6) (i j : SlotIx) (v : Int) :
    (setMark marks i v).get j = if j = i then v else marks.get j := by
  by_cases h : j = i
  · subst h; simp [setMark, Vector.get_eq_getElem]
  · have hv : (i : Nat) ≠ j := fun e => h (Fin.ext e.symm)
    simp [setMark, h, Vector.get_eq_getElem, Vector.getElem_set_ne _ _ hv]

/-- A table in the course of a fill pass, before the candidates `ahead`: its marks cover its entries, and lie at or below
what is ahead (R4, R7). -/
structure Filling (t : Table) (ahead : List Candidate) : Prop where
  below : ∀ e ∈ t.entries, e.scheduled ≤ t.marks.get e.slot
  next : ∀ x ∈ ahead, t.marks.get x.slot ≤ x.scheduled

/-- One admission: its mark moves to its S; and one entry stands more, evaluated, or none (R7, R8). -/
theorem admitCandidate_cases (c : Loaded) (day : Day) (now : Int) (r : Table × Counters) (x : Candidate) :
    (admitCandidate c day now r x).1.marks = setMark r.1.marks x.slot x.scheduled ∧
      CountersRise r.2 (admitCandidate c day now r x).2 ∧
      ((admitCandidate c day now r x).1.entries = r.1.entries ∨
        ∃ e, (admittedEntry x).evaluate c now = some e ∧
          (admitCandidate c day now r x).1.entries.Perm (e :: r.1.entries)) := by
  unfold admitCandidate
  dsimp only
  split
  · exact ⟨rfl, (countersRise_add _ _ _).trans (countersRise_add _ _ _), .inl rfl⟩
  next e he => exact ⟨rfl, countersRise_add _ _ _, .inr ⟨e, he, insertBy_perm _ _ _⟩⟩

theorem admitCandidates_rise (c : Loaded) (day : Day) (now : Int) (xs : List Candidate) (r : Table × Counters) :
    CountersRise r.2 (xs.foldl (admitCandidate c day now) r).2 := by
  induction xs generalizing r with
  | nil => exact fun _ h => ⟨le_rfl, h⟩
  | cons x xs ih => exact (admitCandidate_cases c day now r x).2.1.trans (ih _)

theorem loseCandidates_rise (xs : List Candidate) (r : Table × Counters) :
    CountersRise r.2 (xs.foldl loseCandidate r).2 := by
  induction xs generalizing r with
  | nil => exact fun _ h => ⟨le_rfl, h⟩
  | cons x xs ih => exact (countersRise_add r.2 .admissionLoss 1).trans (ih (loseCandidate r x))

theorem loseCandidates_entries (xs : List Candidate) (r : Table × Counters) :
    (xs.foldl loseCandidate r).1.entries = r.1.entries := by
  induction xs generalizing r with
  | nil => rfl
  | cons x xs ih => exact ih _

/-- What an admission makes of each entry: one that stood, or the candidate's own, evaluated. -/
theorem mem_admitCandidates {c : Loaded} {day : Day} {now : Int} {xs : List Candidate} {r : Table × Counters} {e : Entry}
    (h : e ∈ (xs.foldl (admitCandidate c day now) r).1.entries) :
    e ∈ r.1.entries ∨ ∃ x ∈ xs, (admittedEntry x).evaluate c now = some e := by
  induction xs generalizing r with
  | nil => exact .inl h
  | cons x xs ih =>
    rcases ih h with old | ⟨y, hy, he⟩
    · rcases (admitCandidate_cases c day now r x).2.2 with same | ⟨e', he', perm⟩
      · exact .inl (same ▸ old)
      · rcases List.mem_cons.1 (perm.mem_iff.1 old) with rfl | old
        · exact .inr ⟨x, .head _, he'⟩
        · exact .inl old
    · exact .inr ⟨y, .tail _ hy, he⟩

theorem admitCandidates_length (c : Loaded) (day : Day) (now : Int) (xs : List Candidate) (r : Table × Counters) :
    (xs.foldl (admitCandidate c day now) r).1.entries.length ≤ r.1.entries.length + xs.length := by
  induction xs generalizing r with
  | nil => exact le_rfl
  | cons x xs ih =>
    refine (ih _).trans ?_
    rcases (admitCandidate_cases c day now r x).2.2 with same | ⟨e, -, perm⟩
    · rw [same]; simp
    · rw [perm.length_eq]; simp only [List.length_cons]; omega

/-- An admitted entry is its candidate's run, at its S (R8). -/
theorem admitted_sameRun {c : Loaded} {now : Int} {x : Candidate} {e : Entry}
    (h : (admittedEntry x).evaluate c now = some e) :
    e.slot = x.slot ∧ e.day = x.day ∧ e.run = x.run.number ∧ e.scheduled = x.scheduled := by
  obtain ⟨⟨hs, hd, hr⟩, sched⟩ := evaluate_sameRun h
  exact ⟨hs, hd, hr, sched⟩

theorem admitCandidates_oneEach {c : Loaded} {day : Day} {now : Int} {xs : List Candidate} {r : Table × Counters}
    (apart : xs.Pairwise ApartRuns)
    (new : ∀ x ∈ xs, ∀ e ∈ r.1.entries, ¬ (e.slot = x.slot ∧ e.day = x.day ∧ e.run = x.run.number))
    (h : OneEach r.1.entries) : OneEach (xs.foldl (admitCandidate c day now) r).1.entries := by
  induction xs generalizing r with
  | nil => exact h
  | cons x xs ih =>
    have first : ∀ y ∈ xs, ApartRuns x y := fun y hy => List.rel_of_pairwise_cons apart hy
    rcases (admitCandidate_cases c day now r x).2.2 with same | ⟨e, he, perm⟩
    · refine ih apart.of_cons (fun y hy => ?_) (same ▸ h)
      rw [same]
      exact new y (.tail _ hy)
    · obtain ⟨hs, hd, hr, -⟩ := admitted_sameRun he
      refine ih apart.of_cons (fun y hy e' he' eq => ?_) (oneEach_of_perm perm (.cons (fun e' he' eq => ?_) h))
      · rcases List.mem_cons.1 (perm.mem_iff.1 he') with rfl | old
        · exact first y hy ⟨hs ▸ eq.1, hd ▸ eq.2.1, hr ▸ eq.2.2⟩
        · exact new y (.tail _ hy) e' old eq
      · exact new x (.head _) e' he' ⟨hs ▸ eq.1.symm, hd ▸ eq.2.1.symm, hr ▸ eq.2.2.symm⟩

/-- A mark set to the S of the next candidate of its slot covers what it covered, and lies at or below what follows. -/
theorem Filling.setMark {t : Table} {x : Candidate} {xs : List Candidate} (f : Filling t (x :: xs))
    (asc : (x :: xs).Pairwise fun x y => x.scheduled ≤ y.scheduled) :
    Filling { t with marks := setMark t.marks x.slot x.scheduled } xs := by
  have first : ∀ y ∈ xs, x.scheduled ≤ y.scheduled := fun y hy => List.rel_of_pairwise_cons asc hy
  refine ⟨fun e he => ?_, fun y hy => ?_⟩
  · have old := f.below e he
    have bound := f.next x (.head _)
    rw [setMark_get]
    split
    next hs => rw [hs] at old; exact old.trans bound
    · exact old
  · rw [setMark_get]
    split
    · exact first y hy
    · exact f.next y (.tail _ hy)

theorem Filling.takeCandidate {c : Loaded} {day : Day} {now : Int} {r : Table × Counters} {x : Candidate}
    {xs : List Candidate} (f : Filling r.1 (x :: xs))
    (asc : (x :: xs).Pairwise fun x y => x.scheduled ≤ y.scheduled) :
    Filling (admitCandidate c day now r x).1 xs := by
  obtain ⟨below, next⟩ := f.setMark asc
  obtain ⟨marks, -, entries⟩ := admitCandidate_cases c day now r x
  refine ⟨fun e he => ?_, fun y hy => marks ▸ next y hy⟩
  rw [marks]
  rcases entries with same | ⟨e', he', perm⟩
  · exact below e (same ▸ he)
  · rcases List.mem_cons.1 (perm.mem_iff.1 he) with rfl | old
    · obtain ⟨hs, -, -, sched⟩ := admitted_sameRun he'
      simp [hs, sched]
    · exact below e old

/-- The marks cover the entries through a whole pass: its candidates come in the order of S (R4, R7). -/
theorem pass_below {c : Loaded} {day : Day} {now : Int} {taken lost : List Candidate}
    {r : Table × Counters} (f : Filling r.1 (taken ++ lost))
    (asc : (taken ++ lost).Pairwise fun x y => x.scheduled ≤ y.scheduled) :
    let t := (lost.foldl loseCandidate (taken.foldl (admitCandidate c day now) r)).1
    ∀ e ∈ t.entries, e.scheduled ≤ t.marks.get e.slot := by
  induction taken generalizing r with
  | cons x taken ih => exact ih (f.takeCandidate asc) asc.of_cons
  | nil =>
    induction lost generalizing r with
    | nil => exact f.below
    | cons x lost ih => exact ih (r := loseCandidate r x) (f.setMark asc) asc.of_cons

theorem passResult_kept (s : State) : TableKept s s.passResult.1 := by
  obtain ⟨taken, lost, pre, room, result⟩ := passResult_eq s
  have member : ∀ x ∈ taken ++ lost, x ∈ candidates s.loader.loaded s.clock.day s.now s.sheets.slots s.table :=
    fun x hx => pre.subset hx
  refine ⟨fun h => ?room, fun h => ?marks, fun sound h => ?each, fun h e he => ?predictions⟩
  case room =>
    rw [result, loseCandidates_entries]
    rcases room with rfl | room
    · exact h
    · exact (admitCandidates_length _ _ _ _ _).trans room
  case marks =>
    have start : Filling s.table (taken ++ lost) :=
      ⟨h, fun x hx => (mark_lt_of_candidate (member x hx)).le⟩
    rw [result]
    exact pass_below (r := (s.table, s.counters)) start
      ((candidates_ascending _ _ _ _ _).sublist pre.sublist)
  case each =>
    have apart := (candidates_apart (c := s.loader.loaded) (day := s.clock.day) (now := s.now) (t := s.table)
      sound).sublist pre.sublist
    rw [result, loseCandidates_entries]
    exact admitCandidates_oneEach (List.pairwise_append.1 apart).1
      (fun x hx => not_held_of_candidate (member x (List.mem_append_left _ hx))) h
  case predictions =>
    rw [result, loseCandidates_entries] at he
    rcases mem_admitCandidates he with old | ⟨x, -, new⟩
    · exact h e old
    · exact evaluate_inRange new fun o ho => by cases ho

theorem fillPass_moves (s : State) : Moves fin s s.fillPass := by
  unfold State.fillPass
  split
  · have rise : CountersRise s.counters s.passResult.2 := by
      obtain ⟨taken, lost, -, -, result⟩ := passResult_eq s
      rw [result]
      exact (admitCandidates_rise _ _ _ taken (s.table, s.counters)).trans (loseCandidates_rise lost _)
    have passed := table_moves (fin := fin) s _ (passResult_kept s)
    have settled := passed.trans (sameEntries_moves (t := { s.passResult.1 with passOwed := false }) rfl rfl)
    exact settled.trans (counters_moves _ _ rise)
  · exact .refl

theorem fillOrOwe_moves (s : State) : Moves fin s s.fillOrOwe := by
  unfold State.fillOrOwe
  split
  · exact sameEntries_moves rfl rfl
  · exact fillPass_moves s

/-! ### Departures, rollover, flush -/

theorem reportDeparture_moves (s : State) (e : Entry) (leave : Int) : Moves fin s (s.reportDeparture e leave) := by
  unfold State.reportDeparture
  dsimp only
  split
  · exact ((count_moves s _).trans (count_moves _ _)).trans (placeRelay_moves _ _)
  · exact count_moves s _

theorem sightLossChecks_moves (s : State) : Moves fin s s.sightLossChecks :=
  (takeOut_moves s _).trans (foldl_moves (fun r e => reportDeparture_moves r e _) _ _)

theorem rollTable_moves (s : State) : Moves fin s s.rollTable := by
  refine .countMany (table_moves s _ (tableKept_of_filterMap (g := fun e =>
    if -3600 ≤ e.dayBack.scheduled then some e.dayBack else none) (.of_eq ?_) ?_ ?_ ?_)) _ _
  · simp [← List.filterMap_eq_filter, List.filterMap_map, Option.guard]
  · intro e e' h
    split at h <;> cases h
    exact .refl e
  · intro e _ hm e' h
    split at h <;> cases h
    simpa [Entry.dayBack, mapVector, Vector.get_eq_getElem] using hm
  · intro e e' h hp
    split at h <;> cases h
    obtain ⟨hd, lo, hi⟩ := hp
    refine ⟨fun o ho => ?_, by simp only [Entry.dayBack]; omega, by simp only [Entry.dayBack]; omega⟩
    obtain ⟨o', ho', rfl⟩ := Option.map_eq_some_iff.1 ho
    exact hd o' ho'

theorem flushTable_moves (s : State) : Moves fin s s.flushTable :=
  .countMany (table_moves s _ (by exact ⟨by simp, by simp, fun _ _ => .nil, by simp⟩)) _ _

/-! ### Rebuilds (R19, R21) -/

theorem startRebuild_moves (s : State) (slot : SlotIx) (day : Day) (runs : List Run) :
    Moves fin s (s.startRebuild slot day runs) := sameEntries_moves rfl rfl

theorem rebuiltEntry_some {c : Loaded} {day : Day} {now : Int} {r : Rebuild} {e e' : Entry}
    (h : rebuiltEntry c day now r e = some e') :
    e' = { e with origin := e'.origin, terminal := e'.terminal, scheduled := e'.scheduled } := by
  simp only [rebuiltEntry, Option.bind_eq_some_iff] at h
  obtain ⟨x, -, h⟩ := h
  split at h
  · cases h
  · cases h; rfl

/-- What a rebuild leaves of an entry is of its run; its P is in range, evaluated anew where S has changed (R21, R26). -/
theorem rebuildStep_some {c : Loaded} {day : Day} {now : Int} {r : Rebuild} {e e' : Entry}
    (h : (rebuildStep c day now r e).1 = some e') :
    SameRun e e' ∧ (r.covers e = false → e' = e) ∧ (predictionInRange c.early e → predictionInRange c.early e') := by
  unfold rebuildStep at h
  split at h
  next covers =>
    split at h
    · cases h
    next e₁ he₁ =>
      have shape := rebuiltEntry_some he₁
      have run : SameRun e e₁ := by rw [shape]; exact ⟨rfl, rfl, rfl⟩
      have delay : DelayOk e → DelayOk e₁ := by rw [shape]; exact id
      refine ⟨?_, fun outside => absurd (covers.symm.trans outside) (by decide), fun ok => ?_⟩
      · split at h
        · obtain ⟨⟨hs, hd, hr⟩, -⟩ := evaluate_sameRun h
          exact ⟨hs.trans run.1, hd.trans run.2.1, hr.trans run.2.2⟩
        · cases h; exact run
      · split at h
        · exact evaluate_inRange h (delay ok.1)
        next same =>
          cases h
          simp only [entryChanged, Bool.or_eq_true, bne_iff_ne, not_or, not_not] at same
          rw [shape]
          exact ⟨ok.1, same.1.1 ▸ ok.2.1, same.1.1 ▸ ok.2.2⟩
  · cases h
    exact ⟨.refl e, fun _ => rfl, id⟩

/-- The raised mark lies at or above the one before and above every S of the slot (R21). -/
theorem raiseMark_ge (slot : SlotIx) (es : List Entry) (mark : Int) :
    mark ≤ raiseMark slot mark es ∧ ∀ e ∈ es, e.slot = slot → e.scheduled ≤ raiseMark slot mark es := by
  induction es generalizing mark with
  | nil => exact ⟨le_rfl, by simp⟩
  | cons e rest ih =>
    obtain ⟨lo, all⟩ := ih (if e.slot = slot then max mark e.scheduled else mark)
    refine ⟨le_trans (by split <;> simp) lo, fun x hx hs => ?_⟩
    rcases List.mem_cons.1 hx with rfl | hx
    · exact le_trans (by rw [if_pos hs]; exact le_max_right _ _) lo
    · exact all x hx hs

theorem applyRebuild_moves (s : State) (r : Rebuild) : Moves fin s (s.applyRebuild r) := by
  unfold State.applyRebuild
  dsimp only
  split
  · refine .countMany (.countMany (.countMany (table_moves s _ (tableKept_of_filterMap
      (g := fun e => (rebuildStep s.loader.loaded s.clock.day s.now r e).1)
      ((sortBy_perm _ _).trans (.of_eq (by rw [List.filterMap_map]; rfl))) (fun e e' h => (rebuildStep_some h).1)
      (fun e he hm e' h => ?_) (fun e e' h => (rebuildStep_some h).2.2))) _ _) _ _) _ _
    obtain ⟨⟨hs, hd, -⟩, outside, -⟩ := rebuildStep_some h
    obtain ⟨lo, all⟩ := raiseMark_ge r.slot
      ((s.table.entries.map (rebuildStep s.loader.loaded s.clock.day s.now r)).filterMap (·.1))
      (s.table.marks.get r.slot)
    have stands : e' ∈ (s.table.entries.map (rebuildStep s.loader.loaded s.clock.day s.now r)).filterMap (·.1) := by
      rw [List.filterMap_map]
      exact List.mem_filterMap.2 ⟨e, he, h⟩
    rw [setMark_get]
    split
    next slot => exact all e' stands slot
    next slot =>
      have apart : r.covers e = false := by simp [Rebuild.covers, ← hs, slot]
      rw [outside apart]
      exact hm
  · exact .refl

theorem completeRebuild_moves (s : State) (r : Rebuild) : Moves fin s (s.completeRebuild r) :=
  (applyRebuild_moves s r).trans (sameEntries_moves rfl rfl)

end Sys2Proof.Proofs
end

section
/-! PROOF. The moves of the sheet store, of the clock and of the commands: every command answers with a run of moves, or
waits, or starts the blocks. -/

namespace Sys2Proof.Proofs

open Sys2Proof Sys2Proof.Machine Sys2Proof.Claims

variable {fin : Bool}

/-! ### Slots of the store -/

@[simp] theorem setSlot_get (st : SheetStore) (i j : SlotIx) (h : SlotSheets) :
    (st.setSlot i h).slots.get j = if j = i then h else st.slots.get j := by
  by_cases hj : j = i
  · subst hj; simp [SheetStore.setSlot, Vector.get_eq_getElem]
  · have hv : (i : Nat) ≠ j := fun e => hj (Fin.ext e.symm)
    simp [SheetStore.setSlot, hj, Vector.get_eq_getElem, Vector.getElem_set_ne _ _ hv]

theorem storeSound_setSlot {st : SheetStore} {i : SlotIx} {h : SlotSheets} (sound : StoreSound st) (slot : SlotSound h) :
    StoreSound (st.setSlot i h) := by
  intro j
  rw [setSlot_get]
  split
  · exact slot
  · exact sound j

theorem slotSound_withAssembly {h : SlotSheets} {a : Option Assembly} (sound : SlotSound h)
    (small : ∀ x, a = some x → x.count ≤ 12) : SlotSound { h with assembly := a } :=
  ⟨sound.1, sound.2.1, small⟩

/-! ### Publication requests -/

theorem requestPublication_moves (s : State) (slot : SlotIx) (day : Day) :
    Moves fin s (s.requestPublication slot day) := by
  unfold State.requestPublication
  dsimp only
  split
  · exact .count (sheets_moves s _ (by exact ⟨fun h => by simpa using h, id⟩)) _
  · split
    · exact count_moves s _
    next free =>
      refine (afterDraw_moves s).trans (Moves.count (sheets_moves _ _ ?_) _)
      refine ⟨fun _ => ?_, id⟩
      simp at free ⊢
      omega

/-! ### Commits (R51 to R53) -/

/-- The runs of an assembly whose fragments are of a permitted size: at most seven for each of its fragments (R52). -/
theorem assemblyRuns_length {a : Assembly} (good : a.fragments.all (fragmentSizeGood a.count) = true) :
    a.runs.length ≤ 7 * a.count := by
  have size : ∀ f ∈ a.fragments, f.2.length ≤ 7 := by
    intro f hf
    have hg := List.all_eq_true.1 good f hf
    unfold fragmentSizeGood at hg
    split at hg
    · simpa using hg
    · exact (of_decide_eq_true hg).le
  have each (i : Nat) : (((a.fragments.find? fun f => f.1 = i).map (·.2)).getD []).length ≤ 7 := by
    cases h : a.fragments.find? fun f => f.1 = i with
    | none => simp
    | some f => exact size f (List.mem_of_find?_eq_some h)
  have total : ∀ l : List Nat,
      (l.flatMap fun i => ((a.fragments.find? fun f => f.1 = i).map (·.2)).getD []).length ≤ 7 * l.length := by
    intro l
    induction l with
    | nil => simp
    | cons i l ih =>
      have head := each i
      simp only [List.flatMap_cons, List.length_append, List.length_cons]
      omega
  simpa [Assembly.runs] using total (List.range a.count)

theorem version_ne_zero_of_newer {a b : Version} (h : newerVersion a b = true) : a ≠ 0#16 := by
  rintro rfl
  simp at h

/-- The sheet of an assembly that passes validation is sound (R44, R52). -/
theorem sheetSound_of_valid {a : Assembly} {held : Version} (valid : a.valid held = true) (small : a.count ≤ 12) :
    sheetSound ⟨a.day, a.version, a.runs⟩ := by
  simp only [Assembly.valid, Bool.and_eq_true] at valid
  obtain ⟨⟨⟨⟨sizes, ascending⟩, distinct⟩, -⟩, newer⟩ := valid
  have length := assemblyRuns_length sizes
  exact ⟨version_ne_zero_of_newer newer, by dsimp only; omega, ascending, distinct⟩

/-- A sound sheet put in the place of the slot's sheet for its day (R53). -/
theorem slotSound_store {h : SlotSheets} {sh : Sheet} (sound : SlotSound h) (new : sheetSound sh) :
    SlotSound (h.store sh) := by
  obtain ⟨sheets, days, -⟩ := sound
  refine ⟨fun x hx => ?_, ?_, fun _ h => by cases h⟩
  · rcases List.mem_append.1 hx with old | last
    · exact sheets x (List.mem_of_mem_filter old)
    · rw [List.mem_singleton.1 last]; exact new
  · simp only [SlotSheets.store, List.map_append, List.map_cons, List.map_nil]
    refine List.nodup_append.2 ⟨days.sublist (List.filter_sublist.map _), by simp, ?_⟩
    intro d hd d' hd' eq
    obtain ⟨x, hx, rfl⟩ := List.mem_map.1 hd
    rw [List.mem_singleton.1 hd'] at eq
    simp [eq] at hx

theorem commitAssembly_moves {s : State} {i : SlotIx} {a : Assembly} {rest : List SlotIx} {held : Version}
    (stands : (s.sheets.slots.get i).assembly = some a) (valid : a.valid held = true) :
    Moves fin s (s.commitAssembly i a rest) := by
  have kept : SheetsKept s.sheets { s.sheets.setSlot i ((s.sheets.slots.get i).store ⟨a.day, a.version, a.runs⟩) with
      waiting := rest
      publications := s.sheets.publications.map (fun p => p.renew i a.day a.version) } :=
    ⟨fun h => by simpa using h, fun sound => storeSound_setSlot (i := i) sound
      (slotSound_store (sound i) (sheetSound_of_valid valid ((sound i).2.2 a stands)))⟩
  have stored : Moves fin s _ := .count (sheets_moves s _ kept) .sheetCommitted
  exact stored.trans ((startRebuild_moves _ i a.day a.runs).trans (requestPublication_moves _ i a.day))

theorem setAssembly_kept {st : SheetStore} {i : SlotIx} {a : Option Assembly} (small : ∀ x, a = some x → x.count ≤ 12) :
    SheetsKept st (st.setAssembly i a) :=
  ⟨id, fun sound => storeSound_setSlot sound (slotSound_withAssembly (sound i) small)⟩

theorem rejectAssembly_moves (s : State) (i : SlotIx) : Moves fin s (s.rejectAssembly i) :=
  .count (sheets_moves s _ (setAssembly_kept (by simp))) _

theorem commitWaiting_moves (l : List SlotIx) (s : State) : Moves fin s (commitWaiting l s) := by
  induction l generalizing s with
  | nil => exact sheets_moves s _ ⟨id, id⟩
  | cons i rest ih =>
    rw [commitWaiting]
    split
    · exact ih s
    next a ha =>
      split
      next valid => exact commitAssembly_moves ha valid
      · exact (rejectAssembly_moves s i).trans (ih _)

theorem tryCommit_moves (s : State) : Moves fin s s.tryCommit := by
  unfold State.tryCommit
  split
  · exact .refl
  · exact commitWaiting_moves _ s

theorem fillAndCommit_moves (s : State) (commitFirst : Bool) : Moves fin s (s.fillAndCommit commitFirst) := by
  unfold State.fillAndCommit
  split
  · exact (tryCommit_moves s).trans (fillPass_moves _)
  · exact (fillPass_moves s).trans (tryCommit_moves _)

/-! ### Assemblies -/

theorem putAssembly_moves {s : State} {i : SlotIx} {a : Assembly} (small : StoreSound s.sheets → a.count ≤ 12) :
    Moves fin s (s.putAssembly i a) := by
  have kept : SheetsKept s.sheets (s.sheets.setAssembly i (some a)) :=
    ⟨id, fun sound => storeSound_setSlot sound
      (slotSound_withAssembly (sound i) fun x hx => Option.some.inj hx ▸ small sound)⟩
  have put : Moves fin s _ := .count (sheets_moves s _ kept) .fragmentAdded
  unfold State.putAssembly
  dsimp only
  split
  · exact put.trans ((sheets_moves _ _ (by exact ⟨id, id⟩)).trans (tryCommit_moves _))
  · exact put

theorem applyFragment_moves {s : State} {i : SlotIx} {f : SheetFields} (small : f.count ≤ 12) :
    Moves fin s (s.applyFragment i f) := by
  unfold State.applyFragment
  split
  · exact putAssembly_moves fun _ => small
  · exact count_moves s _
  · exact (count_moves s _).trans (putAssembly_moves fun _ => small)
  · split
    · exact .refl
    next a ha =>
      unfold State.addFragment
      split
      · exact count_moves s _
      · split
        · exact count_moves s _
        · exact putAssembly_moves fun sound => (sound i).2.2 a ha

theorem weighPublications_moves (s : State) (f : SheetFields) : Moves fin s (s.weighPublications f) :=
  .countMany (sheets_moves s _ (by exact ⟨(List.length_filter_le _ _).trans, id⟩)) _ _

theorem takeSheet_moves (s : State) (f : SheetFields) : Moves fin s (s.takeSheet f) := by
  unfold State.takeSheet
  refine (weighPublications_moves s f).trans ?_
  unfold State.acceptFragment
  split
  · exact count_moves _ _
  · split
    · exact count_moves _ _
    next formed =>
      split
      · exact count_moves _ _
      · split
        · exact count_moves _ _
        · refine applyFragment_moves ?_
          simp only [SheetFields.malformed, Bool.or_eq_true, decide_eq_true_eq, not_or] at formed
          omega

theorem timeOutAssembly_moves (s : State) (i : SlotIx) : Moves fin s (s.timeOutAssembly i) :=
  .count (sheets_moves s _ (setAssembly_kept (by simp))) _

theorem releaseHoldoff_moves (s : State) (place : Nat) : Moves fin s (s.releaseHoldoff place) :=
  sheets_moves s _ ⟨fun h => by simpa using h, id⟩

theorem slotSound_keepDays {h : SlotSheets} (day : Day) (sound : SlotSound h) : SlotSound (h.keepDays day) := by
  obtain ⟨sheets, days, small⟩ := sound
  refine ⟨fun x hx => sheets x (List.mem_of_mem_filter hx), days.sublist (List.filter_sublist.map _), fun a ha => ?_⟩
  exact small a (Option.filter_eq_some_iff.1 ha).1

theorem changeDays_moves (s : State) : Moves fin s s.changeDays := by
  refine .countMany (.countMany (.countMany (sheets_moves s _ ?_) _ _) _ _) _ _
  refine ⟨(List.length_filter_le _ _).trans, fun sound i => ?_⟩
  have slot := slotSound_keepDays s.clock.day (sound i)
  simpa [mapVector, Vector.get_eq_getElem] using slot

/-! ### Offers -/

theorem answerListing_moves (nextFirst : Bool) (s : State) (l : Listing) :
    Moves fin s (State.answerListing nextFirst s l) := by
  have day (u : State) (i : SlotIx) (d : Day) (v : Version) : Moves fin u (u.answerDay i d v) := by
    unfold State.answerDay
    split
    · exact requestPublication_moves u i d
    · exact .refl
  unfold State.answerListing
  split
  · exact .refl
  · split <;> exact (day _ _ _ _).trans (day _ _ _ _)

theorem takeOffer_moves (s : State) (f : OfferFields) (nextFirst : Bool) : Moves fin s (s.takeOffer f nextFirst) := by
  unfold State.takeOffer
  split
  · exact foldl_moves (answerListing_moves nextFirst) _ _
  · exact count_moves s _

theorem restartOffers_moves (s : State) : Moves fin s s.restartOffers :=
  .tail (afterDraw_moves s) (.sheets _ _ ⟨id, id⟩)

theorem offerPlace_moves (s : State) : Moves fin s s.offerPlace := by
  unfold State.offerPlace
  split
  · exact count_moves s _
  · split
    · exact (count_moves s _).trans ((placeOffer_moves _ _).trans (settleRadio_moves _))
    · exact .refl

/-! ### The clock -/

theorem clock_moves (s : State) (k : Clock) (kept : ClockKept s.clock k) : Moves fin s { s with clock := k } :=
  .single (.clock s k kept)

theorem startBeacon_moves (s : State) : Moves fin s s.startBeacon :=
  .tail (afterDraw_moves s) (.clock _ _ ⟨id, id, id⟩)

theorem startOffers_moves (s : State) : Moves fin s s.startOffers :=
  .tail (afterDraw_moves s) (.sheets _ _ ⟨id, id⟩)

theorem takeStratum_moves {s : State} {c : Nat} (h : c ≤ 7) : Moves fin s (s.takeStratum c) :=
  .count (clock_moves s _ (by exact ⟨id, id, fun _ => h⟩)) _

theorem setTime_moves {s : State} {m : Moment} (h : m.ms < 86400000) : Moves fin s (s.setTime m) :=
  clock_moves s _ ⟨id, fun _ => Nat.div_lt_of_lt_mul h, id⟩

theorem stepTable_moves (s : State) (passFirst : Bool) : Moves fin s (s.stepTable passFirst) := by
  unfold State.stepTable
  split
  · exact (fillOrOwe_moves s).trans (sightLossChecks_moves _)
  · exact (sightLossChecks_moves s).trans (fillOrOwe_moves _)

theorem adoptTime_moves {s : State} {m : Moment} {offerFirst passFirst : Bool} (h : m.ms < 86400000) :
    Moves fin s (s.adoptTime m offerFirst passFirst) := by
  unfold State.adoptTime
  split
  · have timed : Moves fin s (State.setTime { s with clock := { s.clock with timeValid := true } } m) :=
      .trans (clock_moves s _ (by exact ⟨fun _ => rfl, id, id⟩)) (setTime_moves h)
    have started (u : State) : Moves fin u (if offerFirst then u.startOffers.startBeacon else u.startBeacon.startOffers) := by
      split
      · exact (startOffers_moves u).trans (startBeacon_moves _)
      · exact (startBeacon_moves u).trans (startOffers_moves _)
    exact timed.trans ((started _).trans ((count_moves _ _).trans ((flushTable_moves _).trans (fillPass_moves _))))
  · split
    · exact (count_moves s _).trans ((setTime_moves h).trans (stepTable_moves _ _))
    · split
      · exact (count_moves s _).trans ((setTime_moves h).trans ((rollTable_moves _).trans
          ((changeDays_moves _).trans (stepTable_moves _ _))))
      · exact (count_moves s _).trans ((setTime_moves h).trans ((changeDays_moves _).trans
          ((flushTable_moves _).trans (fillAndCommit_moves _ _))))

theorem reevaluate_moves (s : State) : Moves fin s s.reevaluate :=
  (evaluateAll_moves s).trans ((expireNotices_moves _).trans (compose_moves _))

theorem takeClock_moves {s : State} {f : ClockFields} {stamp : Nat} {offerFirst passFirst : Bool} (h : f.stratum < 8) :
    Moves fin s (s.takeClock f stamp offerFirst passFirst) := by
  unfold State.takeClock
  dsimp only
  split
  · exact count_moves s _
  next formed =>
    have stratum : f.stratum + 1 ≤ 7 := by
      simp only [ClockFields.malformed, Bool.or_eq_true, decide_eq_true_eq, not_or] at formed
      omega
    split
    · exact (takeStratum_moves stratum).trans ((adoptTime_moves (Nat.mod_lt _ (by decide))).trans
        ((reevaluate_moves _).trans (finish_moves _)))
    · split <;> exact count_moves s _

/-! ### Counted seconds -/

/-- The clock counts on, and where X has reached 86,400 the day rolls over (R64, R65). -/
theorem rolledSecond_moves (s : State) : Moves fin s s.tickSecond.rollIfDue := by
  have passed : Moves fin s (s.advance (1000 - s.clock.phase)) := advance_moves s _
  unfold State.rollIfDue
  split
  next before => exact passed.trans (clock_moves _ _ ⟨id, fun _ => before, id⟩)
  · have turned := passed.trans (clock_moves (fin := fin) _ { (s.advance (1000 - s.clock.phase)).clock with
      second := 0, day := s.clock.day + 1#16, phase := (s.advance (1000 - s.clock.phase)).clock.phase - 1000 }
      ⟨id, fun _ => Nat.succ_pos _, id⟩)
    exact turned.trans ((rollTable_moves _).trans (changeDays_moves _))

theorem tableTick_moves (s : State) : Moves fin s s.tableTick := by
  unfold State.tableTick
  split
  · exact evaluateAll_moves s
  · exact .refl

theorem tableMinute_moves (s : State) : Moves fin s s.tableMinute := by
  unfold State.tableMinute
  split
  · exact fillOrOwe_moves s
  · exact .refl

theorem tableSecond_moves (s : State) (pass : PassPlace) : Moves fin s (s.tableSecond pass) := by
  cases pass
  case first => exact (tableMinute_moves s).trans ((sightLossChecks_moves _).trans (tableTick_moves _))
  case afterChecks => exact (sightLossChecks_moves s).trans ((tableMinute_moves _).trans (tableTick_moves _))
  case afterEvaluations => exact (tableTick_moves s).trans ((tableMinute_moves _).trans (sightLossChecks_moves _))
  case last => exact (sightLossChecks_moves s).trans ((tableTick_moves _).trans (tableMinute_moves _))

theorem noticeTick_moves (s : State) : Moves fin s s.noticeTick := by
  unfold State.noticeTick
  split
  · exact (expireNotices_moves s).trans (rotateNotices_moves _)
  · exact .refl

theorem composeAfter_moves (s : State) (before : List Entry) (tick : Bool) :
    Moves fin s (s.composeAfter before tick) := by
  unfold State.composeAfter
  split
  · exact compose_moves s
  · exact .refl

theorem sweepIfDue_moves (s : State) (order : SweepOrder) : Moves fin s (s.sweepIfDue order) := by
  unfold State.sweepIfDue
  split
  · exact sweepNow_moves s order
  · exact .refl

theorem countSecond_moves (s : State) (pass : PassPlace) (sweepFirst : Bool) (order : SweepOrder) :
    Moves fin s (s.countSecond pass sweepFirst order) := by
  have together (u : State) (before : List Entry) (tick : Bool) :
      Moves fin u (u.composeAndSweep before tick sweepFirst order) := by
    unfold State.composeAndSweep
    split
    · exact (sweepIfDue_moves u _).trans (composeAfter_moves _ _ _)
    · exact (composeAfter_moves u _ _).trans (sweepIfDue_moves _ _)
  exact (rolledSecond_moves s).trans ((tableSecond_moves _ _).trans ((noticeTick_moves _).trans
    ((together _ _ _).trans (finish_moves _))))

theorem ageStratum_moves (s : State) : Moves fin s s.ageStratum :=
  .count (clock_moves s _ (by exact ⟨id, id, fun _ => Nat.min_le_left 7 _⟩)) _

theorem beaconPlace_moves (s : State) : Moves fin s s.beaconPlace := by
  unfold State.beaconPlace
  split
  · exact (count_moves s _).trans ((placeClock_moves _).trans (settleRadio_moves _))
  · exact count_moves s _

/-! ### Sense and drive -/

theorem completeScan_moves (s : State) (counts : BitVec 12) : Moves fin s (s.completeScan counts) := by
  have history (h : List Nat) (v : Nat) (hh : h.length ≤ 3) : (pushVoltage h v).length ≤ 3 := by
    unfold pushVoltage
    dsimp only
    split
    · simp; omega
    · omega
  have scanned : Moves fin s (s.takeVoltage counts) :=
    .count (sense_moves s _ (by exact ⟨history _ _, id⟩)) _
  have handed : Moves fin (s.takeVoltage counts)
      (((s.takeVoltage counts).account (medianOf (s.takeVoltage counts).sense.history)).handOnEnergy s.planner.energy
        s.sense.history.isEmpty) := by
    have same : (s.takeVoltage counts).planner.energy = s.planner.energy := by simp
    rw [← same]
    exact handOnEnergy_moves _ _ _
  have changed (u : State) (before : Energy) : Moves fin u (u.arbitrateOnChange before) := by
    unfold State.arbitrateOnChange
    split
    · exact .refl
    · exact arbitrate_moves u
  exact scanned.trans (handed.trans ((scanJobs_moves _).trans ((changed _ _).trans (finish_moves _))))

theorem activateStoreLow_moves (s : State) : Moves fin s s.activateStoreLow := by
  have active : Moves fin s (State.count { s with sense := { s.sense with storeLow := true } } .storeLowActivation) :=
    .count (sense_moves s _ (by exact ⟨id, id⟩)) _
  unfold State.activateStoreLow
  refine active.trans ?_
  rcases State.stopAtRead_cases (State.count { s with sense := { s.sense with storeLow := true } } .storeLowActivation)
    with same | ⟨a, ha, -, -, stop⟩
  · rw [same]
  · rw [stop]; exact suspendReported_moves ha (.refl a)

theorem clearStoreLow_moves (s : State) : Moves fin s s.clearStoreLow := by
  have waits : TxKept s.tx s.tx.leaveStoreLow := by
    unfold Sender.leaveStoreLow
    split <;> exact ⟨id, id, id⟩
  have cleared := sense_moves (fin := fin) s { s.sense with storeLow := false } ⟨id, id⟩
  exact .promoteJobs (cleared.trans (tx_moves _ _ waits))

theorem scheduleRead_moves (s : State) : Moves fin s s.scheduleRead :=
  .requestRead (sense_moves s _ (by exact ⟨id, id⟩))

theorem takeAnswer_moves (s : State) (value : Byte) : Moves fin s (s.takeAnswer value) := by
  unfold State.takeAnswer
  split
  · exact (releasePort_moves s).trans ((readSucceeded_moves _ _).trans (finish_moves _))
  · exact count_moves s _

theorem goOn_moves {s : State} {a a' : ActiveJob} (h : s.engine.active = some a) (same : SameJob a a')
    (state : a'.state = a.state) : Moves fin s (s.withActive a') := .single (.jobs s _ _ (.goOn a a' h same state))

theorem atBoundary_moves {s : State} {a : ActiveJob} (h : s.engine.active = some a) : Moves fin s (s.atBoundary a) := by
  unfold State.atBoundary
  split
  · exact suspendReported_moves h (.refl a)
  · exact .refl

theorem endLoad_moves (s : State) : Moves fin s s.endLoad := by
  unfold State.endLoad
  split
  · exact releasePort_moves s
  next a ha =>
    have released : s.releasePort.engine.active = some a := ha
    have loaded : Moves fin _ (s.releasePort.withActive { a with loaded := true }) :=
      goOn_moves released ⟨rfl, rfl, rfl, rfl⟩ rfl
    exact (releasePort_moves s).trans (loaded.trans (atBoundary_moves rfl))

/-- READY taken: only one that completes the active job brings a completion with it (R127). -/
theorem takeReady_moves {s : State} {promotionFirst : Bool}
    (may : s.engine.port = .phase → ∀ a, s.engine.active = some a → a.job.mode.phases ≤ a.job.phaseIndex + 1 →
      fin = true) : Moves fin s (s.takeReady promotionFirst) := by
  unfold State.takeReady
  split
  next port =>
    refine .trans ?_ (finish_moves _)
    unfold State.endPhase
    split
    · exact releasePort_moves s
    next a ha =>
      have released : s.releasePort.engine.active = some a := ha
      have driven : Moves fin _ (s.releasePort.withActive a.phaseDone) := goOn_moves released ⟨rfl, rfl, rfl, rfl⟩ rfl
      refine (releasePort_moves s).trans (driven.trans ((count_moves _ .phasesDriven).trans ?_))
      unfold State.afterPhase
      split
      next last => exact completeActive_moves _ (by simp [State.withActive]) (may port a ha last)
      · exact atBoundary_moves (by simp [State.withActive])
  · exact count_moves s _

theorem declareFault_moves {s : State} (port : s.engine.port = .phase) : Moves fin s s.declareFault := by
  refine .count (engine_moves s _ ?_) _
  refine ⟨rfl, rfl, .refl _, fun _ => Nat.min_le_left 3 _, fun ok => ?_⟩
  have idle : s.engine.readDeadline.isSome = false := by simpa [port] using ok.2.2.symm
  simp [PortOk] at idle ⊢
  exact idle

theorem endStop_moves (s : State) : Moves fin s s.endStop := by
  have judged : Moves fin s.releasePort _ :=
    engine_moves s.releasePort { s.releasePort.engine with
      faulted := s.releasePort.engine.faulted || 3 ≤ s.releasePort.engine.faults } ⟨rfl, rfl, .refl _, id, id⟩
  unfold State.endStop
  dsimp only
  split
  · exact (releasePort_moves s).trans judged
  · exact (releasePort_moves s).trans (judged.trans (abandonActive_moves _ _))

theorem endSuspension_moves (s : State) : Moves fin s s.endSuspension := by
  unfold State.endSuspension
  split
  · exact .refl
  · split
    · exact (abandonActive_moves s _).trans (finish_moves _)
    · exact .refl

/-! ### Frames of the table, the notice store and the responder -/

theorem clampDelay_le (d : Int) : clampDelay d ≤ 5400 := by unfold clampDelay; omega

theorem dropStale_sameRun (c : Loaded) (now : Int) (e : Entry) :
    SameRun e (e.dropStale c now) ∧ (e.dropStale c now).scheduled = e.scheduled := by
  rcases dropStale_cases c now e with h | h <;> rw [h] <;> exact ⟨⟨rfl, rfl, rfl⟩, rfl⟩

theorem dropStale_delayOk (c : Loaded) (now : Int) (e : Entry) (ok : DelayOk e) : DelayOk (e.dropStale c now) := by
  rcases dropStale_cases c now e with h | h <;> rw [h]
  · exact ok
  · exact fun _ h => by cases h

theorem relayPass_moves (s : State) (p : PassFields) : Moves fin s (s.relayPass p) := by
  unfold State.relayPass
  split
  · exact placeRelay_moves s _
  · exact .refl

theorem weighPass_moves (s : State) (slot : SlotIx) (p : PassFields) (e : Entry) :
    Moves fin s (s.weighPass slot p e) := by
  unfold State.weighPass
  dsimp only
  refine (countIf_moves s (e.stale s.loader.loaded s.now = true) .observationExpired).trans ?_
  generalize (if e.stale s.loader.loaded s.now = true then s.count .observationExpired else s) = u
  split
  · refine (count_moves u .passNotAdvancing).trans ?_
    split
    · exact changeEntry_moves (fun x => dropStale_sameRun _ _ x) (fun x => dropStale_delayOk _ _ x)
    · exact .refl
  · refine (count_moves u .passAdvanced).trans (.trans (changeEntry_moves (fun x => ?_) fun x _ o ho => ?_) (relayPass_moves _ p))
    · exact dropStale_sameRun s.loader.loaded s.now x
    · cases ho; exact clampDelay_le _

theorem takePass_moves (s : State) (p : PassFields) : Moves fin s (s.takePass p) := by
  unfold State.takePass
  split
  · exact count_moves s _
  next i _ =>
    refine .trans ?_ ((composeAfter_moves _ _ _).trans (finish_moves _))
    unfold State.takeServedPass
    split
    · exact count_moves s _
    · split
      · exact Moves.count (takeOut_moves s _) _
      · split
        · exact count_moves s _
        · exact weighPass_moves s i p _

theorem sighted_kept (stop : Nat) (now : Int) (e : Entry) :
    (SameRun e (e.sighted stop now) ∧ (e.sighted stop now).scheduled = e.scheduled) ∧
      (DelayOk e → DelayOk (e.sighted stop now)) := by
  unfold Entry.sighted
  split
  · exact ⟨⟨⟨rfl, rfl, rfl⟩, rfl⟩, id⟩
  all_goals
    refine ⟨⟨⟨rfl, rfl, rfl⟩, rfl⟩, fun _ o ho => ?_⟩
    cases ho
    exact clampDelay_le _

theorem takeSight_moves (s : State) (f : SightFields) : Moves fin s (s.takeSight f) := by
  have at_ (e : Entry) : Moves fin s (s.takeAt e) :=
    (countIf_moves s (e.stale s.loader.loaded s.now = true) _).trans ((count_moves _ _).trans
      (changeEntry_moves (fun x => (sighted_kept _ _ x).1) fun x => (sighted_kept _ _ x).2))
  have leaving (e : Entry) : Moves fin s (s.takeLeaving e) := by
    unfold State.takeLeaving
    split
    · exact (takeOut_moves s _).trans (reportDeparture_moves _ _ _)
    · exact count_moves s _
  unfold State.takeSight
  split
  · exact count_moves s _
  · split
    · exact (at_ _).trans ((composeAfter_moves _ _ _).trans (finish_moves _))
    · split
      · exact (leaving _).trans ((composeAfter_moves _ _ _).trans (finish_moves _))
      · exact count_moves s _

theorem earliestExpiry_mem {day : Day} {l : List (Nat × Notice)} {x : Nat × Notice}
    (h : earliestExpiry day l = some x) : x ∈ l := by
  induction l generalizing x with
  | nil => cases h
  | cons a rest ih =>
    rw [earliestExpiry] at h
    split at h
    · cases h; exact .head _
    next y hy =>
      split at h <;> cases h
      · exact .head _
      · exact .tail _ (ih hy)

theorem evictionPlace_lt {day : Day} {ns : List Notice} {i : Nat} (h : evictionPlace day ns = some i) :
    i < ns.length := by
  obtain ⟨x, hx, rfl⟩ := Option.map_eq_some_iff.1 h
  obtain ⟨p, hp, rfl⟩ := List.mem_map.1 (List.mem_of_mem_filter (earliestExpiry_mem hx))
  exact (List.mem_zipIdx hp).2.1.trans_eq (by simp)

theorem evictNotice_moves {s : State} {place : Nat} (n : Notice) (h : place < s.board.notices.length) :
    Moves fin s (s.evictNotice place n) := by
  refine setNotices_moves fun room => ?_
  rw [List.length_append, List.length_eraseIdx_of_lt h]
  simp only [List.length_singleton]
  omega

theorem relayNotice_moves (s : State) (n : Notice) (hops : Nat) : Moves fin s (s.relayNotice n hops) := by
  unfold State.relayNotice
  split
  · exact (count_moves s _).trans (placeRelay_moves _ _)
  · exact .refl

theorem storeNotice_moves (s : State) (n : Notice) (hops : Nat) : Moves fin s (s.storeNotice n hops) := by
  unfold State.storeNotice
  split
  · exact (Moves.count (replaceNotice_moves s _ n) _).trans (relayNotice_moves _ n hops)
  · unfold State.storeNew
    split
    next free => exact (Moves.count (appendNotice_moves n free) _).trans (relayNotice_moves _ n hops)
    · split
      · split
        next place hp =>
          exact (Moves.count (.count (evictNotice_moves n (evictionPlace_lt hp)) _) _).trans (relayNotice_moves _ n hops)
        · exact count_moves s _
      · exact count_moves s _

theorem takeNotice_moves (s : State) (f : NoticeFields) : Moves fin s (s.takeNotice f) := by
  unfold State.takeNotice
  split
  · exact count_moves s _
  · exact (countIf_moves s (30 < f.text.length) .noticeTruncated).trans ((storeNotice_moves _ _ _).trans
      ((compose_moves _).trans (finish_moves _)))

theorem takeQuery_moves (s : State) (q : QueryFields) : Moves fin s (s.takeQuery q) := by
  unfold State.takeQuery
  split
  · exact count_moves s _
  · split
    · exact count_moves s _
    · split
      · exact count_moves s _
      · exact (count_moves s _).trans ((placeReply_moves _ _).trans (settleRadio_moves _))

end Sys2Proof.Proofs
end

section
/-! PROOF. What a command can come to, said once: it waits, or it starts the blocks, or it is a run of moves on a part
that has started; and the principle of induction that follows for the laws of the steps. -/

namespace Sys2Proof.Proofs

open Sys2Proof Sys2Proof.Machine Sys2Proof.Claims

variable {fin : Bool}

/-- All that a command other than NPOR_ASSERTED answers: time passes and no more; NPOR is released; the blocks start from
loaded values; or a started part makes moves. -/
inductive Answered (fin : Bool) (s : State) : State → Prop
  | waits (dt : Nat) : Answered fin s (s.advance dt)
  | released : Answered fin s { s with loader := { s.loader with released := true } }
  | starts (dt : Nat) (source : ConfigSource) (c : Loaded) (t : State) (reading : s.loader.state = .reading)
      (moves : Moves fin ((s.advance dt).loadValues source c) t) : Answered fin s t
  | acts (t : State) (started : s.started = true) (moves : Moves fin s t) : Answered fin s t

theorem advance_zero (s : State) : s.advance 0 = s := by simp [State.advance]

theorem Answered.idle (s : State) : Answered fin s s := by
  simpa [advance_zero] using Answered.waits (fin := fin) (s := s) 0

/-- A command that lets time pass and acts on a part that has started. -/
theorem answered_whenStarted {s : State} {dt : Nat} {f : State → State} (h : ∀ u, Moves fin u (f u)) :
    Answered fin s ((s.advance dt).whenStarted f) :=
  whenStarted_cases (fun _ => .waits dt) fun started => .acts _ started ((advance_moves s dt).trans (h _))

theorem answered_onTimer {s : State} {timer : Option Nat} {f : State → State}
    (h : ∀ t, timer = some t → Moves fin (s.advanceTo t) (f (s.advanceTo t))) : Answered fin s (s.onTimer timer f) :=
  onTimer_cases (.idle s) fun t ht started => .acts _ started ((advanceTo_moves s t).trans (h t ht))

theorem answered_onDispatch {s : State} {dt : Nat} {k : Kind} {f : ReceivedFrame → State → State}
    (h : ∀ g u, Moves fin u (f g u)) : Answered fin s (s.onDispatch dt k f) := by
  refine onDispatch_cases (.waits dt) fun g rest started hq _ _ => .acts _ started ?_
  have taken := (advance_moves (fin := fin) s dt).trans (rx_moves _ { s.rx with queue := rest } ⟨fun room => ?_, id, ?_⟩)
  · exact taken.trans (h g _)
  · simp [hq] at room ⊢; omega
  · simp only [State.advance_frame, hq]
    exact fun ok g hg => ok g (.tail _ hg)

/-- The read's end with its values loaded. -/
theorem startAbsent_answered {s : State} {dt : Nat} (node : Nat) (reading : s.loader.state = .reading) :
    Answered fin s ((s.advance dt).startAbsent node) :=
  .starts dt .absent Config.defaults _ reading ((count_moves _ _).trans (startBlocks_moves _ node))

theorem startImage_answered {s : State} {dt : Nat} (node : Nat) (image : List Byte)
    (reading : s.loader.state = .reading) : Answered fin s ((s.advance dt).startImage node image) := by
  unfold State.startImage State.loadChecked
  split
  · exact .starts dt .image (loadImage image) _ reading
      ((countMany_moves _ _ _).trans ((countMany_moves _ _ _).trans (startBlocks_moves _ node)))
  · exact .starts dt .rejected Config.defaults _ reading ((count_moves _ _).trans (startBlocks_moves _ node))

theorem reading_of_readingImage {s : State} (h : s.readingImage = true) : s.loader.state = .reading := by
  simp only [State.readingImage, Bool.and_eq_true, decide_eq_true_eq] at h
  exact h.2

/-- A guarded effect, as many commands have it. -/
theorem ite_moves {p : Prop} [Decidable p] {s t : State} (h : p → Moves fin s t) : Moves fin s (if p then t else s) := by
  split
  next hp => exact h hp
  · exact .refl

/-- Every command but NPOR_ASSERTED answers, with a run of moves at most; a completion is among them only where READY
completes the active job (R127). -/
theorem exec_answered (c : Instr) (s : State) (hc : c ≠ .nporAsserted) (may : Completes c s → fin = true) :
    ∃ t, exec c s = .next t ∧ Answered fin s t := by
  cases c
  case nporRelease => exact ⟨_, rfl, .released⟩
  case nporAsserted => exact absurd rfl hc
  case configurationAbsent dt node =>
    refine ⟨_, rfl, ?_⟩
    split
    next reading => exact startAbsent_answered node (reading_of_readingImage reading)
    · exact .waits dt
  case configurationReadComplete dt node image =>
    refine ⟨_, rfl, ?_⟩
    split
    next reading =>
      split
      · exact startAbsent_answered node (reading_of_readingImage reading)
      · exact startImage_answered node image (reading_of_readingImage reading)
    · exact .waits dt
  case character dt a b d =>
    exact ⟨_, rfl, answered_whenStarted fun u =>
      ite_moves fun _ => (takeCharacter_moves u a b d).trans (settleRadio_moves _)⟩
  case idle dt =>
    exact ⟨_, rfl, answered_whenStarted fun u => ite_moves fun _ => (takeIdle_moves u).trans (settleRadio_moves _)⟩
  case clockFrame dt offerFirst passFirst =>
    exact ⟨_, rfl, answered_onDispatch fun g u => takeClock_moves (Nat.mod_lt _ (by decide))⟩
  case offerFrame turn => exact ⟨_, rfl, answered_onDispatch fun g u => takeOffer_moves u _ _⟩
  case sheetFrame dt => exact ⟨_, rfl, answered_onDispatch fun g u => takeSheet_moves u _⟩
  case passFrame dt => exact ⟨_, rfl, answered_onDispatch fun g u => takePass_moves u _⟩
  case sightFrame dt => exact ⟨_, rfl, answered_onDispatch fun g u => takeSight_moves u _⟩
  case noticeFrame dt => exact ⟨_, rfl, answered_onDispatch fun g u => takeNotice_moves u _⟩
  case queryFrame dt => exact ⟨_, rfl, answered_onDispatch fun g u => takeQuery_moves u _⟩
  case replyDiscarded dt => exact ⟨_, rfl, answered_onDispatch fun g u => count_moves u _⟩
  case rebuildCompletion ending =>
    refine ⟨_, rfl, answered_whenStarted fun u => ?_⟩
    split
    · exact .refl
    · exact (completeRebuild_moves u _).trans ((fillAndCommit_moves _ _).trans
        ((composeAfter_moves _ _ _).trans (finish_moves _)))
  case countedSecond pass sweep =>
    exact ⟨_, rfl, whenStarted_cases (fun _ => .idle s) fun started =>
      .acts _ started (ite_moves fun _ => countSecond_moves s _ _ _)⟩
  case agingTimerExpiry => exact ⟨_, rfl, answered_onTimer fun t _ => ageStratum_moves _⟩
  case beaconTimerExpiry =>
    exact ⟨_, rfl, answered_onTimer fun t _ => (startBeacon_moves _).trans (beaconPlace_moves _)⟩
  case offerTimerExpiry =>
    exact ⟨_, rfl, answered_onTimer fun t _ => (restartOffers_moves _).trans (offerPlace_moves _)⟩
  case assemblyTimeout =>
    refine ⟨_, rfl, whenStarted_cases (fun _ => .idle s) fun started => .acts _ started ?_⟩
    split
    · exact .refl
    · exact (advanceTo_moves s _).trans (timeOutAssembly_moves _ _)
  case holdoffEnd =>
    refine ⟨_, rfl, whenStarted_cases (fun _ => .idle s) fun started => .acts _ started ?_⟩
    split
    · exact .refl
    · exact (advanceTo_moves s _).trans ((releaseHoldoff_moves _ _).trans
        ((arbitrate_moves _).trans (settleRadio_moves _)))
  case scanTimerExpiry => exact ⟨_, rfl, answered_onTimer fun t _ => sense_moves _ _ ⟨id, id⟩⟩
  case scanCompletion dt counts =>
    exact ⟨_, rfl, answered_whenStarted fun u => ite_moves fun _ => completeScan_moves u counts⟩
  case storeLowActive change =>
    exact ⟨_, rfl, answered_whenStarted fun u =>
      ite_moves fun _ => (activateStoreLow_moves u).trans (finish_moves _)⟩
  case storeLowInactive change =>
    exact ⟨_, rfl, answered_whenStarted fun u => ite_moves fun _ => (clearStoreLow_moves u).trans (finish_moves _)⟩
  case temperatureTimerExpiry =>
    exact ⟨_, rfl, answered_onTimer fun t _ => (scheduleRead_moves _).trans (finish_moves _)⟩
  case temperatureAnswer dt value => exact ⟨_, rfl, answered_whenStarted fun u => takeAnswer_moves u value⟩
  case readTimeout =>
    exact ⟨_, rfl, answered_onTimer fun t _ => ite_moves fun _ =>
      (releasePort_moves _).trans ((readFailed_moves _).trans (finish_moves _))⟩
  case loadStepEnd dt =>
    exact ⟨_, rfl, answered_whenStarted fun u => ite_moves fun _ => (endLoad_moves u).trans (finish_moves _)⟩
  case ready dt first =>
    refine ⟨_, rfl, whenStarted_cases (fun _ => .waits dt) fun started =>
      .acts _ started ((advance_moves s dt).trans (takeReady_moves fun port a ha last => may ?_))⟩
    refine ⟨⟨dt, first, rfl⟩, port, a, ha, ?_⟩
    cases hm : a.job.mode <;> simp_all [Mode.phases]
  case readyTimeout => exact ⟨_, rfl, answered_onTimer fun t _ => ite_moves declareFault_moves⟩
  case stopSent dt =>
    exact ⟨_, rfl, answered_whenStarted fun u => ite_moves fun _ => (endStop_moves u).trans (finish_moves _)⟩
  case suspendLimitExpiry => exact ⟨_, rfl, answered_onTimer fun t _ => endSuspension_moves _⟩
  case quietTimerExpiry => exact ⟨_, rfl, answered_onTimer fun t _ => rx_moves _ _ ⟨id, id, id⟩⟩
  case sniffTimerExpiry =>
    exact ⟨_, rfl, answered_onTimer fun t _ => (openWindow_moves _).trans (settleRadio_moves _)⟩
  case windowClose => exact ⟨_, rfl, answered_onTimer fun t _ => (endWindow_moves _).trans (settleRadio_moves _)⟩
  case carrierDetectRise dt =>
    exact ⟨_, rfl, answered_whenStarted fun u => ite_moves fun _ => freezeCountdown_moves u⟩
  case carrierQuiet dt =>
    exact ⟨_, rfl, answered_whenStarted fun u =>
      ite_moves fun _ => (endFirstStage_moves u).trans (settleRadio_moves _)⟩
  case backoffSlot dt =>
    exact ⟨_, rfl, answered_whenStarted fun u => ite_moves fun _ => (countSlot_moves u).trans (settleRadio_moves _)⟩
  case frameSent dt =>
    exact ⟨_, rfl, answered_whenStarted fun u => ite_moves fun _ => finishSending_moves u⟩
  case frameAbandoned => exact ⟨_, rfl, answered_onTimer fun t _ => giveUp_moves _⟩

/-- What a command other than NPOR_ASSERTED answers is of the kinds above. -/
theorem answered_of_exec {c : Instr} {s t : State} (hc : c ≠ .nporAsserted) (h : exec c s = .next t) :
    Answered true s t := by
  obtain ⟨t', ht', answered⟩ := exec_answered (fin := true) c s hc (fun _ => rfl)
  cases ht'.symm.trans h
  exact answered

/-! ### Laws of the steps -/

/-- Moves do not touch the waiting commands or the loader. -/
theorem Moves.frame {s t : State} (m : Moves fin s t) : t.pending = s.pending ∧ t.loader = s.loader := by
  refine m.keeps (P := fun u => u.pending = s.pending ∧ u.loader = s.loader) (fun u v move h => ?_) ⟨rfl, rfl⟩
  cases move <;> exact h

/-- A law that power-on meets and that the passing of time, NPOR's release, the load of values and each move keep, every
step keeps; a move finds the blocks started, and values are loaded before that (R167, R171). -/
theorem step_keeps {P : State → Prop} (forget : ∀ s q, P s → P { s with pending := q })
    (reset : P State.reset) (pass : ∀ s dt, P s → P (s.advance dt))
    (release : ∀ s, P s → P { s with loader := { s.loader with released := true } })
    (load : ∀ s source c, s.loader.state = .reading → P s → P (s.loadValues source c))
    (move : ∀ s t, s.loader.state = .done → Move true s t → P s → P t) {s t : State} (h : P s)
    (hstep : step s = .next t) : P t := by
  have run {u v : State} (m : Moves true u v) (done : u.loader.state = .done) (hu : P u) : P v := by
    refine (m.keeps (P := fun x => x.loader.state = .done ∧ P x) (fun x y mv hx => ⟨?_, move x y hx.1 mv hx.2⟩)
      ⟨done, hu⟩).2
    rw [(Moves.frame (.single mv)).2]
    exact hx.1
  have answered {u v : State} (a : Answered true u v) (hu : P u) : P v := by
    cases a with
    | waits dt => exact pass u dt hu
    | released => exact release u hu
    | starts dt source c _ reading moves => exact run moves rfl (load _ source c reading (pass u dt hu))
    | acts _ started moves => exact run moves (by simpa [State.started] using started) hu
  unfold step at hstep
  split at hstep
  · cases hstep; exact h
  next c rest _ =>
    by_cases hc : c = .nporAsserted
    · subst hc; cases hstep; exact forget _ _ reset
    · exact answered (answered_of_exec hc hstep) (forget s rest h)

end Sys2Proof.Proofs
end

section
/-! PROOF. The laws that every step keeps, each from what a move keeps (O2, O4 to O10, O56), and the step itself (O1). -/

namespace Sys2Proof.Proofs

open Sys2Proof Sys2Proof.Machine Sys2Proof.Claims

/-! ### The step and its answers -/

/-- Settles O1: the two branches of the step. -/
theorem stepRunsTheFrontCommand : Obligations.StepRunsTheFrontCommand :=
  ⟨fun c rest s h => by simp [step, h], fun s h => by simp [step, h]⟩

/-- Settles O2: what a command answers, and that moves do not touch the queue of commands. -/
theorem execAnswersAndKeepsTheQueue : Obligations.ExecAnswersAndKeepsTheQueue := by
  intro c s
  by_cases hc : c = .nporAsserted
  · exact hc ▸ ⟨_, rfl, rfl⟩
  · obtain ⟨t, ht, answered⟩ := exec_answered (fin := true) c s hc (fun _ => rfl)
    refine ⟨t, ht, ?_⟩
    cases answered with
    | waits dt => rfl
    | released => rfl
    | starts dt source c _ _ moves => exact moves.frame.1
    | acts _ _ moves => exact moves.frame.1

/-- Settles O4: no move makes time invalid. -/
theorem timeStaysValid : Obligations.TimeStaysValid := by
  intro c s t hc hs h
  have run {u v : State} (m : Moves true u v) (hu : u.clock.timeValid = true) : v.clock.timeValid = true := by
    refine m.keeps (P := fun x => x.clock.timeValid = true) (fun x y mv hx => ?_) hu
    cases mv
    case clock k kept => exact kept.valid hx
    all_goals exact hx
  cases answered_of_exec hc h with
  | waits dt => exact hs
  | released => exact hs
  | starts dt source c _ _ moves => exact run moves hs
  | acts _ _ moves => exact run moves hs

/-! ### Capacities and ranges -/

theorem step_keeps_bounded {s t : State} (h : s.Bounded) (hstep : step s = .next t) : t.Bounded := by
  refine step_keeps (fun _ _ => id) (by simp [State.Bounded, State.reset, State.tableReset, State.rxReset, State.txReset,
    State.sheetsReset, State.boardReset, State.senseReset]) (fun _ _ => id) (fun _ => id) (fun _ _ _ _ => id)
    (fun s t _ mv h => ?_) h hstep
  obtain ⟨table, queue, buffer, relay, publications, notices, history⟩ := h
  cases mv
  case table t kept => exact ⟨kept.room table, queue, buffer, relay, publications, notices, history⟩
  case rx r kept => exact ⟨table, kept.room queue, kept.buffer buffer, relay, publications, notices, history⟩
  case tx x kept => exact ⟨table, queue, buffer, kept.room relay, publications, notices, history⟩
  case sheets st kept => exact ⟨table, queue, buffer, relay, kept.room publications, notices, history⟩
  case board b kept => exact ⟨table, queue, buffer, relay, publications, kept.room notices, history⟩
  case sense u kept => exact ⟨table, queue, buffer, relay, publications, notices, kept.room history⟩
  all_goals exact ⟨table, queue, buffer, relay, publications, notices, history⟩

theorem step_keeps_queueFits {s t : State} (h : s.QueueFits) (hstep : step s = .next t) : t.QueueFits := by
  refine step_keeps (fun _ _ => id) (fun g hg => by cases hg) (fun _ _ => id) (fun _ => id) (fun _ _ _ _ => id)
    (fun s t _ mv h => ?_) h hstep
  cases mv
  case rx r kept => exact kept.fits h
  all_goals exact h

theorem step_keeps_rotationSound {s t : State} (h : s.RotationSound) (hstep : step s = .next t) : t.RotationSound := by
  refine step_keeps (fun _ _ => id) ⟨fun h => absurd rfl h, fun _ h => by cases h⟩ (fun _ _ => id) (fun _ => id)
    (fun _ _ _ _ => id) (fun s t _ mv h => ?_) h hstep
  cases mv
  case board b kept => exact kept.rotation h
  all_goals exact h

/-- Settles O5: the capacities, the lengths in the queue and the rotation, each by what a move keeps of its block. -/
theorem stepKeepsCapacities : Obligations.StepKeepsCapacities :=
  ⟨fun _ _ => step_keeps_bounded, fun _ _ => step_keeps_queueFits, fun _ _ => step_keeps_rotationSound⟩

/-- The fault count stays in its range in every change of planner and engine. -/
theorem JobMove.faults {fin : Bool} {s : State} {p : Planner} {e : Engine} (m : JobMove fin s p e)
    (h : s.engine.faults ≤ 3) : e.faults ≤ 3 := by
  cases m
  case engine kept => exact kept.faults h
  case complete => exact Nat.zero_le 3
  all_goals exact h

theorem step_keeps_inRange {s t : State} (h : s.InRange) (hstep : step s = .next t) : t.InRange := by
  refine step_keeps (fun _ _ => id) (by simp [State.InRange, State.reset, State.clockReset, State.engineReset,
    State.senseReset, State.txReset]) (fun _ _ => id) (fun _ => id) (fun _ _ _ _ => id) (fun s t _ mv h => ?_) h hstep
  obtain ⟨second, stratum, faults, failures, lfsr⟩ := h
  cases mv
  case clock k kept => exact ⟨kept.second second, kept.stratum stratum, faults, failures, lfsr⟩
  case jobs p e move => exact ⟨second, stratum, move.faults faults, failures, lfsr⟩
  case sense u kept => exact ⟨second, stratum, faults, kept.failures failures, lfsr⟩
  case tx x kept => exact ⟨second, stratum, faults, failures, kept.lfsr lfsr⟩
  all_goals exact ⟨second, stratum, faults, failures, lfsr⟩

/-! ### Ghost counts -/

theorem ghostRoom_of_sameGlass {limit : Nat} {l l' : Vector LineRecord 10} {j : Job} (same : SameGlass l l')
    (h : ghostRoom limit l j) : ghostRoom limit l' j :=
  h.imp_right fun all n hn => (same n).2 ▸ all n hn

theorem contains_congr {j j' : Job} (first : j'.first = j.first) (last : j'.last = j.last) (n : Nat) :
    j'.contains n = j.contains n := by
  simp [Job.contains, first, last]

theorem ghostRoom_of_sameJob {limit : Nat} {l : Vector LineRecord 10} {a a' : ActiveJob} (same : SameJob a a')
    (h : ghostRoom limit l a.job) : ghostRoom limit l a'.job := by
  refine h.imp (same.mode ▸ ·) fun all n hn => all n ?_
  rwa [← contains_congr same.first same.last]

/-- A promoted PARTIAL job has room for a ghost on each of its lines (R119). -/
theorem ghostRoom_of_linesReady {s : State} {j : Job} (h : s.linesReady j = true) :
    ghostRoom s.loader.loaded.ghostLimit s.engine.lines j := by
  simp only [State.linesReady, Bool.or_eq_true, decide_eq_true_eq, List.all_eq_true, Bool.and_eq_true,
    Bool.not_eq_true'] at h
  refine h.imp_right fun all n hn => ?_
  have member : n ∈ allLines := (by decide : ∀ n : Fin 10, n ∈ allLines) n
  rcases all n member with out | ⟨below, -⟩
  · exact absurd (hn.symm.trans out) (by decide)
  · exact below

theorem promotable_iff {s : State} {j : Job} :
    s.promotable j = true ↔ s.engine.active = none ∧ s.sense.storeLow = false ∧ s.sense.band.drive = true ∧
      s.engine.freshHold = false ∧ s.engine.faulted = false ∧ s.energyCovers j = true ∧ s.linesReady j = true := by
  simp [State.promotable, and_assoc]

/-- The lines' ghost counts and the active job's room for one more, in every change of planner and engine (R119, R129). -/
theorem JobMove.ghosts {fin : Bool} {s : State} {p : Planner} {e : Engine} (m : JobMove fin s p e)
    (counts : ∀ n : Fin 10, (s.engine.lines.get n).ghost ≤ s.loader.loaded.ghostLimit)
    (room : ∀ a, s.engine.active = some a → ghostRoom s.loader.loaded.ghostLimit s.engine.lines a.job) :
    (∀ n : Fin 10, (e.lines.get n).ghost ≤ s.loader.loaded.ghostLimit) ∧
      ∀ a, e.active = some a → ghostRoom s.loader.loaded.ghostLimit e.lines a.job := by
  cases m
  case planner | stage => exact ⟨counts, room⟩
  case promote j was ready staged energy =>
    refine ⟨counts, fun a ha => ?_⟩
    cases ha
    obtain ⟨-, -, -, -, -, -, lines⟩ := promotable_iff.1 ready
    exact ghostRoom_of_linesReady lines
  case engine kept =>
    refine ⟨fun n => (kept.lines n).2 ▸ counts n, fun a ha => ?_⟩
    exact ghostRoom_of_sameGlass kept.lines (room a (kept.active ▸ ha))
  case goOn a a' was same state | suspend a a' _ was same state | resume a a' was same state =>
    refine ⟨counts, fun x hx => ?_⟩
    cases hx
    exact ghostRoom_of_sameJob same (room a was)
  case empty l lines => exact ⟨fun n => (lines n).2 ▸ counts n, fun a ha => by cases ha⟩
  case complete a was content target may =>
    refine ⟨fun n => ?_, fun a ha => by cases ha⟩
    have before := counts n
    simp only [mapJobLines, mapPlaces_get]
    split
    next hn =>
      rcases room a was with clearing | below
      · simp [LineRecord.completed, clearing]
      · have space := below n hn
        simp only [LineRecord.completed]
        split <;> omega
    · exact before

theorem step_keeps_ghostsInRange {s t : State} (h : s.GhostsInRange) (hstep : step s = .next t) : t.GhostsInRange := by
  refine step_keeps (P := State.GhostsInRange) (fun _ _ => id) ?reset (fun _ _ => id) (fun _ => id)
    (fun s source c reading h => ?load)
    (fun s t done mv h => ?move) h hstep
  case reset =>
    refine ⟨fun n => ?_, fun a ha => (by cases ha), fun _ => ⟨rfl, fun n => ?_⟩⟩ <;>
      simp [State.reset, State.engineReset, State.lineReset, Vector.get_eq_getElem]
  case load =>
    obtain ⟨empty, zero⟩ := h.2.2 reading
    refine ⟨fun n => (zero n).le.trans (Nat.zero_le _), fun a ha => ?_, fun loaded => by cases loaded⟩
    cases empty.symm.trans ha
  case move =>
    obtain ⟨counts, room, -⟩ := h
    have loaded : t.loader.state = .done := (Moves.frame (.single mv)).2 ▸ done
    have vacuous : t.loader.state = .reading → t.engine.active = none ∧ ∀ n : Fin 10, (t.engine.lines.get n).ghost = 0 :=
      fun reading => by cases loaded.symm.trans reading
    cases mv
    case jobs p e move => exact ⟨(move.ghosts counts room).1, (move.ghosts counts room).2, vacuous⟩
    all_goals exact ⟨counts, room, vacuous⟩

/-- Settles O6: five numbers and the ghost counts, by what a move keeps of clock, sense unit, send side and engine. -/
theorem stepKeepsRanges : Obligations.StepKeepsRanges :=
  ⟨fun _ _ => step_keeps_inRange, fun _ _ => step_keeps_ghostsInRange⟩

/-! ### Counters -/

/-- Settles O7: no move lets a counter fall or leave its range. -/
theorem countersOnlyRise : Obligations.CountersOnlyRise := by
  intro c s t hs h
  have run {u v : State} (m : Moves true u v) (hu : u.CountersInRange) :
      v.CountersInRange ∧ ∀ k, u.counter k ≤ v.counter k := by
    refine m.keeps (P := fun x => x.CountersInRange ∧ ∀ k, u.counter k ≤ x.counter k) (fun x y mv hx => ?_)
      ⟨hu, fun _ => le_rfl⟩
    cases mv
    case counters k rise => exact ⟨fun c => (rise c (hx.1 c)).2, fun c => (hx.2 c).trans (rise c (hx.1 c)).1⟩
    all_goals exact hx
  by_cases hc : c = .nporAsserted
  · subst hc
    cases h
    have zero (k : Counter) : ({ State.reset with pending := s.pending } : State).counter k = 0 := by
      simp [State.counter, State.reset, Vector.get_eq_getElem]
    exact ⟨fun k => (zero k).le.trans (Nat.zero_le _), fun hne => absurd rfl hne⟩
  · suffices t.CountersInRange ∧ ∀ k, s.counter k ≤ t.counter k from ⟨this.1, fun _ => this.2⟩
    cases answered_of_exec hc h with
    | waits dt => exact ⟨hs, fun _ => le_rfl⟩
    | released => exact ⟨hs, fun _ => le_rfl⟩
    | starts dt source c _ _ moves => exact run (u := (s.advance dt).loadValues source c) moves hs
    | acts _ _ moves => exact run moves hs

/-! ### The departure table -/

theorem step_keeps_marksCover {s t : State} (h : s.MarksCover) (hstep : step s = .next t) : t.MarksCover := by
  refine step_keeps (fun _ _ => id) (fun e he => by cases he) (fun _ _ => id) (fun _ => id) (fun _ _ _ _ => id)
    (fun s t _ mv h => ?_) h hstep
  cases mv
  case table t kept => exact kept.marks h
  all_goals exact h

theorem step_keeps_sheetsSound {s t : State} (h : s.SheetsSound) (hstep : step s = .next t) : t.SheetsSound := by
  have reset : State.reset.SheetsSound := by
    intro i
    simp [State.reset, State.sheetsReset, Vector.get_eq_getElem]
  refine step_keeps (fun _ _ => id) reset (fun _ _ => id) (fun _ => id) (fun _ _ _ _ => id) (fun s t _ mv h => ?_) h hstep
  cases mv
  case sheets st kept => exact kept.sound h
  all_goals exact h

/-- That the table holds one entry each is kept together with the soundness of the sheets a fill pass reads (R1, R44). -/
theorem step_keeps_oneEntryEach {s t : State} (sheets : s.SheetsSound) (h : s.OneEntryEach)
    (hstep : step s = .next t) : t.OneEntryEach := by
  have reset : State.reset.SheetsSound := by
    intro i
    simp [State.reset, State.sheetsReset, Vector.get_eq_getElem]
  refine (step_keeps (P := fun s => s.SheetsSound ∧ s.OneEntryEach) (fun _ _ => id) ⟨reset, .nil⟩ (fun _ _ => id)
    (fun _ => id) (fun _ _ _ _ => id) (fun s t _ mv h => ?_) ⟨sheets, h⟩ hstep).2
  cases mv
  case sheets st kept => exact ⟨kept.sound h.1, h.2⟩
  case table t kept => exact ⟨h.1, kept.each h.1 h.2⟩
  all_goals exact h

/-- Settles O8: marks and identities, by what a move keeps of the table. -/
theorem stepKeepsFillMarks : Obligations.StepKeepsFillMarks :=
  ⟨fun _ _ => step_keeps_marksCover, fun _ _ => step_keeps_oneEntryEach⟩

/-- Settles O9: every change of the table evaluates what it changes; and a new E comes only while the table is empty. -/
theorem stepKeepsPredictionsInRange : Obligations.StepKeepsPredictionsInRange := by
  intro s t h hstep
  refine step_keeps (P := State.PredictionsInRange) (fun _ _ => id) ⟨fun e he => (by cases he), fun _ => rfl⟩
    (fun _ _ => id) (fun _ => id)
    (fun s source c reading h => ⟨fun e he => ?_, fun loaded => by cases loaded⟩) (fun s t done mv h => ?_) h hstep
  · have empty : (s.loadValues source c).table.entries = [] := h.2 reading
    rw [empty] at he
    cases he
  · have loaded : t.loader.state = .done := (Moves.frame (.single mv)).2 ▸ done
    refine ⟨?_, fun reading => by cases loaded.symm.trans reading⟩
    cases mv
    case table t kept => exact kept.predictions h.1
    all_goals exact h.1

/-! ### Jobs -/

theorem inActive_eq_false {s : State} {a : ActiveJob} (h : s.engine.active = some a) (n : Nat) :
    s.inActive n = a.job.contains n := by
  simp [State.inActive, h]

theorem JobMove.apart {fin : Bool} {s : State} {p : Planner} {e : Engine} (m : JobMove fin s p e) (h : s.JobsApart) :
    ∀ j a, p.staged = some j → e.active = some a →
      ∀ n : Fin 10, ¬ (j.contains n.val = true ∧ a.job.contains n.val = true) := by
  intro j a hj ha n
  have moved {a a' : ActiveJob} (same : SameJob a a') (was : s.engine.active = some a)
      (hj : s.planner.staged = some j) : ¬ (j.contains n.val = true ∧ a'.job.contains n.val = true) := by
    rw [contains_congr same.first same.last]
    exact h j a hj was n
  cases m
  case planner staged energy =>
    rcases staged with none | same
    · cases none.symm.trans hj
    · exact h j a (same ▸ hj) ha n
  case stage j' kind apart staged energy =>
    cases staged.symm.trans hj
    rintro ⟨mine, others⟩
    have out := apart n mine
    rw [inActive_eq_false ha, others] at out
    cases out
  case promote j' was ready staged energy => cases staged.symm.trans hj
  case engine kept => exact h j a hj (kept.active ▸ ha) n
  case goOn a₀ a₁ was same state | suspend a₀ a₁ _ was same state | resume a₀ a₁ was same state =>
    cases ha
    exact moved same was hj
  case empty => cases ha
  case complete => cases ha

theorem JobMove.dormant {fin : Bool} {s : State} {p : Planner} {e : Engine} (m : JobMove fin s p e)
    (h : s.DormantStagesPark) (dormant : p.energy = .dormant) : ∀ j, p.staged = some j → j.kind = .park := by
  intro j hj
  cases m
  case planner staged energy =>
    rcases energy with same | park
    · rcases staged with none | staged
      · cases none.symm.trans hj
      · exact h (same ▸ dormant) j (staged ▸ hj)
    · exact park j hj
  case stage j' kind apart staged energy =>
    cases staged.symm.trans hj
    exact kind (energy ▸ dormant)
  case promote j' was ready staged energy => cases staged.symm.trans hj
  all_goals exact h dormant j hj

theorem JobMove.driveBand {fin : Bool} {s : State} {p : Planner} {e : Engine} (m : JobMove fin s p e)
    (h : s.ActiveInDriveBand) : ∀ a, e.active = some a → a.band.drive = true := by
  intro a ha
  cases m
  case planner | stage => exact h a ha
  case promote j was ready staged energy =>
    cases ha
    exact (promotable_iff.1 ready).2.2.1
  case engine kept => exact h a (kept.active ▸ ha)
  case goOn a₀ a₁ was same state | suspend a₀ a₁ _ was same state | resume a₀ a₁ was same state =>
    cases ha
    exact same.band ▸ h a₀ was
  case empty => cases ha
  case complete => cases ha

/-- A law on planner and engine that each of their changes keeps, every step keeps. -/
theorem step_keeps_jobs {Q : Planner → Engine → Prop} (reset : Q State.reset.planner State.reset.engine)
    (move : ∀ s p e, JobMove true s p e → Q s.planner s.engine → Q p e) {s t : State} (h : Q s.planner s.engine)
    (hstep : step s = .next t) : Q t.planner t.engine := by
  refine step_keeps (P := fun s => Q s.planner s.engine) (fun _ _ => id) reset (fun _ _ => id) (fun _ => id)
    (fun _ _ _ _ => id) (fun s t _ mv h => ?_) h hstep
  cases mv
  case jobs p e m => exact move s p e m h
  all_goals exact h

/-- Settles O10: what a move keeps of the staged and the active job. -/
theorem stepKeepsJobsApart : Obligations.StepKeepsJobsApart := by
  refine ⟨fun s t => step_keeps_jobs (Q := fun p e => ∀ j a, p.staged = some j → e.active = some a →
      ∀ n : Fin 10, ¬ (j.contains n.val = true ∧ a.job.contains n.val = true)) (fun j a hj => by cases hj)
      fun s p e m h => m.apart h,
    fun s t => step_keeps_jobs (Q := fun p _ => p.energy = .dormant → ∀ j, p.staged = some j → j.kind = .park)
      (fun _ j hj => by cases hj) fun s p e m h => m.dormant h,
    fun s t => step_keeps_jobs (Q := fun _ e => ∀ a, e.active = some a → a.band.drive = true) (fun a ha => by cases ha)
      fun s p e m h => m.driveBand h⟩

/-- Of all changes of planner and engine only a completion moves glass and ghost counts (R128). -/
theorem moves_glass {u v : State} (m : Moves false u v) : SameGlass u.engine.lines v.engine.lines := by
  refine m.keeps (P := fun x => SameGlass u.engine.lines x.engine.lines) (fun x y mv hx => ?_) (.refl _)
  cases mv
  case jobs p e move =>
    cases move
    case engine kept => exact fun n => ⟨(kept.lines n).1.trans (hx n).1, (kept.lines n).2.trans (hx n).2⟩
    case empty l lines => exact fun n => ⟨(lines n).1.trans (hx n).1, (lines n).2.trans (hx n).2⟩
    case complete may => cases may
    all_goals exact hx
  all_goals exact hx

/-- Settles O56: every command but a completing READY and NPOR_ASSERTED runs without a completion. -/
theorem glassMovesOnlyAtCompletion : Obligations.GlassMovesOnlyAtCompletion := by
  intro c s t hc hne h
  obtain ⟨t', ht', answered⟩ := exec_answered (fin := false) c s hne fun completes => absurd completes hc
  cases ht'.symm.trans h
  cases answered with
  | waits dt => exact SameGlass.refl _
  | released => exact SameGlass.refl _
  | starts dt source c _ _ moves => exact moves_glass (u := (s.advance dt).loadValues source c) moves
  | acts _ _ moves => exact moves_glass moves

end Sys2Proof.Proofs
end

section
/-! PROOF. The waiting assemblies (O12), a law that a step breaks (O11), and the state right after power-on reset (O13). -/

namespace Sys2Proof.Proofs

open Sys2Proof Sys2Proof.Machine Sys2Proof.Claims

/-! ### Ports (O11) -/

/-- A part that has started in LISTEN with a sniff timer running, which no law forbids: its expiry opens a window. -/
def listeningWithSniffTimer : State := { State.reset with
  pending := [.sniffTimerExpiry]
  loader := { State.loaderReset with released := true, state := .done }
  rx := { State.rxReset with radio := true, sniffTimer := some 0 } }

theorem listeningWithSniffTimer_radioSound : listeningWithSniffTimer.RadioSound := by
  refine ⟨fun _ => by decide, fun _ _ => rfl, fun h => ?_, fun h => absurd rfl h, fun h => ?_, fun h => ?_, fun h => ?_⟩ <;>
    cases h

/-- Refutes O11: `RadioSound` does not say that a sniff timer runs in SNIFF only, and in LISTEN its expiry opens a
window that stands outside SNIFF. -/
theorem not_stepKeepsPortsSound : ¬ Obligations.StepKeepsPortsSound := by
  rintro ⟨-, radio⟩
  obtain ⟨t, ht⟩ : ∃ t, step listeningWithSniffTimer = .next t := ⟨_, rfl⟩
  have sound := radio _ t listeningWithSniffTimer_radioSound ht
  cases ht
  exact absurd (sound.2.2.2.1 (by decide)) (by decide)

/-! ### Waiting assemblies (O12) -/

/-- A slot's assembly is COMPLETE. -/
def IsComplete (st : SheetStore) (i : SlotIx) : Prop := ∃ a, (st.slots.get i).assembly = some a ∧ a.state = .complete

/-- Some slots are those of the COMPLETE assemblies, each once (R51). -/
def ListsComplete (st : SheetStore) (l : List SlotIx) : Prop := l.Nodup ∧ ∀ i, i ∈ l ↔ IsComplete st i

theorem waitingSound_iff {s : State} : s.WaitingSound ↔ ListsComplete s.sheets s.sheets.waiting ∧
    (s.sheets.waiting ≠ [] → s.table.rebuild ≠ none ∧ s.clock.timeValid = true) := by
  simp only [State.WaitingSound, ListsComplete, IsComplete, and_assoc]

/-- Assemblies, waiting order and rebuild are as they were, and time has not become invalid. -/
structure SameWaiting (s t : State) : Prop where
  slots : t.sheets.slots = s.sheets.slots
  waiting : t.sheets.waiting = s.sheets.waiting
  rebuild : t.table.rebuild = s.table.rebuild
  valid : s.clock.timeValid = true → t.clock.timeValid = true

theorem SameWaiting.sound {s t : State} (same : SameWaiting s t) (h : s.WaitingSound) : t.WaitingSound := by
  rw [waitingSound_iff] at h ⊢
  simp only [ListsComplete, IsComplete, same.slots, same.waiting, same.rebuild] at h ⊢
  exact ⟨h.1, fun waits => ⟨(h.2 waits).1, same.valid (h.2 waits).2⟩⟩

theorem setSlot_assembly {st : SheetStore} {i : SlotIx} {h : SlotSheets} (j : SlotIx) :
    ((st.setSlot i h).slots.get j).assembly = if j = i then h.assembly else (st.slots.get j).assembly := by
  rw [setSlot_get]
  split <;> rfl

/-- One slot of a listing loses its assembly and its place. -/
theorem ListsComplete.drop {st st' : SheetStore} {i : SlotIx} {l : List SlotIx} (h : ListsComplete st (i :: l))
    (gone : ¬ IsComplete st' i) (same : ∀ j, j ≠ i → (IsComplete st' j ↔ IsComplete st j)) : ListsComplete st' l := by
  obtain ⟨nodup, all⟩ := h
  obtain ⟨out, nodup⟩ := List.nodup_cons.1 nodup
  refine ⟨nodup, fun j => ?_⟩
  by_cases hj : j = i
  · subst hj
    exact iff_of_false out gone
  · rw [same j hj, ← all j, List.mem_cons]
    exact (or_iff_right hj).symm

theorem commitAssembly_store (s : State) (i : SlotIx) (a : Assembly) (rest : List SlotIx) :
    (s.commitAssembly i a rest).sheets.slots =
        (s.sheets.setSlot i ((s.sheets.slots.get i).store ⟨a.day, a.version, a.runs⟩)).slots ∧
      (s.commitAssembly i a rest).sheets.waiting = rest ∧
      (s.commitAssembly i a rest).table.rebuild = some ⟨i, a.day, a.runs⟩ := by
  simp [State.commitAssembly, SheetStore.setSlot, State.startRebuild]

theorem isComplete_congr {st st' : SheetStore} (h : st'.slots = st.slots) (i : SlotIx) :
    IsComplete st' i ↔ IsComplete st i := by
  simp only [IsComplete, h]

/-- A slot changed so that it holds no COMPLETE assembly. -/
theorem not_isComplete_setSlot {st st' : SheetStore} {i : SlotIx} {h : SlotSheets}
    (set : st'.slots = (st.setSlot i h).slots) (none : ∀ a, h.assembly = some a → a.state ≠ .complete) :
    ¬ IsComplete st' i := by
  rw [isComplete_congr set]
  rintro ⟨a, ha, complete⟩
  rw [setSlot_assembly, if_pos rfl] at ha
  exact none a ha complete

theorem isComplete_setSlot_of_ne {st st' : SheetStore} {i j : SlotIx} {h : SlotSheets}
    (set : st'.slots = (st.setSlot i h).slots) (hj : j ≠ i) : IsComplete st' j ↔ IsComplete st j := by
  rw [isComplete_congr set]
  simp only [IsComplete, setSlot_assembly, if_neg hj]

/-- The waiting assemblies taken in order leave those that wait on behind the rebuild of the one committed (R51). -/
theorem commitWaiting_sound (l : List SlotIx) (s : State) (h : ListsComplete s.sheets l) :
    ListsComplete (commitWaiting l s).sheets (commitWaiting l s).sheets.waiting ∧
      ((commitWaiting l s).sheets.waiting ≠ [] → l ≠ [] ∧ (commitWaiting l s).table.rebuild ≠ none) := by
  induction l generalizing s with
  | nil => exact ⟨h, fun waits => absurd rfl waits⟩
  | cons i l ih =>
    unfold commitWaiting
    split
    next none =>
      obtain ⟨a, ha, -⟩ := (h.2 i).1 (.head _)
      cases none.symm.trans ha
    next a _ =>
      split
      · obtain ⟨slots, waiting, rebuild⟩ := commitAssembly_store s i a l
        rw [waiting, rebuild]
        refine ⟨h.drop ?_ fun j hj => isComplete_setSlot_of_ne slots hj, fun _ => ⟨List.cons_ne_nil _ _, nofun⟩⟩
        exact not_isComplete_setSlot slots fun a ha => nomatch ha
      · refine (ih _ (h.drop ?_ fun j hj => isComplete_setSlot_of_ne rfl hj)).imp_right
          fun later waits => ⟨List.cons_ne_nil _ _, (later waits).2⟩
        exact not_isComplete_setSlot rfl fun a ha => nomatch ha

/-- An occasion of a commit: where listed assemblies are left to wait, some waited before and a rebuild is in flight. -/
theorem tryCommit_sound (s : State) (h : ListsComplete s.sheets s.sheets.waiting) :
    ListsComplete s.tryCommit.sheets s.tryCommit.sheets.waiting ∧
      (s.tryCommit.sheets.waiting ≠ [] → s.sheets.waiting ≠ [] ∧ s.tryCommit.table.rebuild ≠ none) := by
  unfold State.tryCommit
  split
  next flight => exact ⟨h, fun waits => ⟨waits, by simpa [Option.isSome_iff_ne_none] using flight⟩⟩
  · exact commitWaiting_sound _ s h

theorem fillPass_sameStore (s : State) : s.fillPass.sheets = s.sheets ∧ s.fillPass.clock = s.clock := by simp

theorem fillAndCommit_sound {s : State} (commitFirst : Bool) (h : ListsComplete s.sheets s.sheets.waiting)
    (valid : s.sheets.waiting ≠ [] → s.clock.timeValid = true) : (s.fillAndCommit commitFirst).WaitingSound := by
  rw [waitingSound_iff]
  unfold State.fillAndCommit
  split
  · obtain ⟨lists, waits⟩ := tryCommit_sound s h
    simp only [State.fillPass_frame, fillPass_rebuild, tryCommit_fr]
    exact ⟨lists, fun left => ⟨(waits left).2, valid (waits left).1⟩⟩
  · have stays : s.fillPass.sheets = s.sheets := by simp
    obtain ⟨lists, waits⟩ := tryCommit_sound s.fillPass (by rwa [stays])
    simp only [stays] at waits
    exact ⟨lists, fun left => ⟨(waits left).2, by simpa using valid (waits left).1⟩⟩

/-- A slot that has come to hold a COMPLETE assembly, listed last. -/
theorem ListsComplete.append {st st' : SheetStore} {i : SlotIx} {l : List SlotIx} (h : ListsComplete st l)
    (free : ¬ IsComplete st i) (whole : IsComplete st' i) (same : ∀ j, j ≠ i → (IsComplete st' j ↔ IsComplete st j)) :
    ListsComplete st' (l ++ [i]) := by
  have out : i ∉ l := fun hi => free ((h.2 i).1 hi)
  refine ⟨List.nodup_append.2 ⟨h.1, List.nodup_singleton i, ?_⟩, fun j => ?_⟩
  · rintro j hj _ (_ | ⟨_, ⟨⟩⟩) rfl
    exact out hj
  · by_cases hj : j = i
    · subst hj
      simp [whole]
    · rw [same j hj, ← h.2 j]
      simp [hj]

/-- Slots changed where none becomes or was COMPLETE. -/
theorem ListsComplete.of_iff {st st' : SheetStore} {l : List SlotIx} (h : ListsComplete st l)
    (same : ∀ j, IsComplete st' j ↔ IsComplete st j) : ListsComplete st' l :=
  ⟨h.1, fun j => (h.2 j).trans (same j).symm⟩

/-- A slot that held no COMPLETE assembly, changed so that it holds none still. -/
theorem isComplete_setSlot_iff {st st' : SheetStore} {i : SlotIx} {h : SlotSheets} (free : ¬ IsComplete st i)
    (set : st'.slots = (st.setSlot i h).slots) (none : ∀ a, h.assembly = some a → a.state ≠ .complete) (j : SlotIx) :
    IsComplete st' j ↔ IsComplete st j := by
  by_cases hj : j = i
  · subst hj
    exact iff_of_false (not_isComplete_setSlot set none) free
  · exact isComplete_setSlot_of_ne set hj

/-- A new or grown assembly put in a slot that holds no COMPLETE one (R48, R49, R51). -/
theorem putAssembly_sound {s : State} {i : SlotIx} (a : Assembly) (h : s.WaitingSound) (valid : s.clock.timeValid = true)
    (free : ¬ IsComplete s.sheets i) : (s.putAssembly i a).WaitingSound := by
  obtain ⟨lists, waits⟩ := waitingSound_iff.1 h
  unfold State.putAssembly
  split
  next complete =>
    have whole : IsComplete (s.sheets.setAssembly i (some a)) i :=
      ⟨a, by rw [SheetStore.setAssembly, setSlot_assembly, if_pos rfl], complete⟩
    obtain ⟨lists, later⟩ := tryCommit_sound { State.count { s with sheets := s.sheets.setAssembly i (some a) }
        .fragmentAdded with sheets := { s.sheets.setAssembly i (some a) with waiting := s.sheets.waiting ++ [i] } }
      (lists.append free whole fun j hj => isComplete_setSlot_of_ne rfl hj)
    exact waitingSound_iff.2 ⟨lists, fun left => ⟨(later left).2, by simpa using valid⟩⟩
  next collecting =>
    refine waitingSound_iff.2 ⟨lists.of_iff fun j => isComplete_setSlot_iff free rfl ?_ j, waits⟩
    rintro _ ⟨⟩
    exact collecting

theorem not_isComplete_of_assembly {st : SheetStore} {i : SlotIx} (h : ∀ a, (st.slots.get i).assembly = some a →
    a.state ≠ .complete) : ¬ IsComplete st i := by
  rintro ⟨a, ha, complete⟩
  exact h a ha complete

theorem count_sameWaiting (s : State) (c : Counter) : SameWaiting s (s.count c) := ⟨rfl, rfl, rfl, id⟩

/-- The table of R48 sets a fragment aside where the slot's assembly is COMPLETE. -/
theorem fragmentEffect_cases (day : Day) (x : Option Assembly) (f : SheetFields) :
    fragmentEffect day x f = .setAside ∨ ∀ a, x = some a → a.state ≠ .complete := by
  unfold fragmentEffect
  split
  · exact .inr fun _ h => nomatch h
  next a =>
    by_cases complete : a.state = .complete
    · exact .inl (by simp [complete])
    · exact .inr fun b hb => by cases hb; exact complete

theorem applyFragment_sound {s : State} (i : SlotIx) (f : SheetFields) (h : s.WaitingSound)
    (valid : s.clock.timeValid = true) : (s.applyFragment i f).WaitingSound := by
  rcases fragmentEffect_cases s.clock.day (s.sheets.slots.get i).assembly f with aside | open_
  · simp only [State.applyFragment, aside]
    exact (count_sameWaiting _ _).sound h
  · have free := not_isComplete_of_assembly open_
    unfold State.applyFragment
    split
    · exact putAssembly_sound _ h valid free
    · exact (count_sameWaiting _ _).sound h
    · exact putAssembly_sound (s := s.count .assemblyReplaced) _ ((count_sameWaiting _ _).sound h) valid free
    · split
      · exact h
      · unfold State.addFragment
        split_ifs
        · exact (count_sameWaiting _ _).sound h
        · exact (count_sameWaiting _ _).sound h
        · exact putAssembly_sound _ h valid free

theorem takeSheet_sound {s : State} (f : SheetFields) (h : s.WaitingSound) : (s.takeSheet f).WaitingSound := by
  have weighed : (s.weighPublications f).WaitingSound := SameWaiting.sound ⟨by simp, by simp, by simp, by simp⟩ h
  unfold State.takeSheet State.acceptFragment
  split
  · exact (count_sameWaiting _ _).sound weighed
  · split_ifs with malformed day newer
    · exact (count_sameWaiting _ _).sound weighed
    · exact (count_sameWaiting _ _).sound weighed
    · exact (count_sameWaiting _ _).sound weighed
    · exact applyFragment_sound _ _ weighed (by simpa using fun e => day (.inl e))

/-- The discards at a change of D leave the waiting assemblies that are left (R45). -/
theorem changeDays_lists {s : State} (h : ListsComplete s.sheets s.sheets.waiting) :
    ListsComplete s.changeDays.sheets s.changeDays.sheets.waiting ∧
      ∀ i ∈ s.changeDays.sheets.waiting, i ∈ s.sheets.waiting := by
  have slots (i : SlotIx) : (s.changeDays.sheets.slots.get i).assembly =
      (s.sheets.slots.get i).assembly.filter fun a => heldDay s.clock.day a.day := by
    show ((mapVector (SlotSheets.keepDays s.clock.day) s.sheets.slots).get i).assembly = _
    rw [Vector.get_eq_getElem, mapVector_getElem]
    rfl
  have waiting : s.changeDays.sheets.waiting =
      s.sheets.waiting.filter fun i => ((s.changeDays.sheets.slots.get i).assembly).isSome := rfl
  refine ⟨⟨waiting ▸ h.1.filter _, fun i => ?_⟩, fun i hi => ?_⟩
  · rw [waiting, List.mem_filter, h.2 i]
    simp only [IsComplete, slots, Option.isSome_iff_exists, Option.filter_eq_some_iff]
    constructor
    · rintro ⟨⟨a, ha, complete⟩, b, hb, held⟩
      cases ha.symm.trans hb
      exact ⟨a, ⟨ha, held⟩, complete⟩
    · rintro ⟨a, ⟨ha, held⟩, complete⟩
      exact ⟨⟨a, ha, complete⟩, a, ha, held⟩
  · rw [waiting] at hi
    exact List.mem_of_mem_filter hi

theorem changeDays_sound {s : State} (h : s.WaitingSound) : s.changeDays.WaitingSound := by
  obtain ⟨lists, waits⟩ := waitingSound_iff.1 h
  obtain ⟨lists, sub⟩ := changeDays_lists lists
  refine waitingSound_iff.2 ⟨lists, fun left => ?_⟩
  obtain ⟨i, hi⟩ := List.exists_mem_of_ne_nil _ left
  simpa using waits (List.ne_nil_of_mem (sub i hi))

/-- While time is invalid no assembly waits, and none is COMPLETE: what becomes of the rebuild is nothing to them. -/
theorem WaitingSound.of_invalid {s t : State} (h : s.WaitingSound) (invalid : s.clock.timeValid = false)
    (slots : t.sheets.slots = s.sheets.slots) (waiting : t.sheets.waiting = s.sheets.waiting) : t.WaitingSound := by
  obtain ⟨lists, waits⟩ := waitingSound_iff.1 h
  have none : s.sheets.waiting = [] := by
    by_contra some
    exact absurd (waits some).2 (by simp [invalid])
  refine waitingSound_iff.2 ⟨?_, fun left => absurd (waiting.trans none) left⟩
  rw [waiting]
  exact lists.of_iff (isComplete_congr slots)

theorem adoptTime_sound {s : State} (m : Moment) (offerFirst passFirst : Bool) (h : s.WaitingSound) :
    (s.adoptTime m offerFirst passFirst).WaitingSound := by
  unfold State.adoptTime
  split_ifs with invalid same next
  · exact WaitingSound.of_invalid h invalid (by simp) (by simp)
  · exact SameWaiting.sound ⟨by simp, by simp, by simp, by simp⟩ h
  · have rolled : (((s.count .nextDayAdoption).setTime m).rollTable).WaitingSound :=
      SameWaiting.sound ⟨by simp, by simp, by simp, by simp⟩ h
    refine SameWaiting.sound (s := (((s.count .nextDayAdoption).setTime m).rollTable).changeDays) ?_ (changeDays_sound rolled)
    exact ⟨by simp [State.adoptNextDay], by simp [State.adoptNextDay], by simp [State.adoptNextDay],
      by simp [State.adoptNextDay]⟩
  · have timed : ((s.count .dayJump).setTime m).WaitingSound := SameWaiting.sound ⟨by simp, by simp, by simp, by simp⟩ h
    have lists := (waitingSound_iff.1 (changeDays_sound timed)).1
    exact fillAndCommit_sound (s := (((s.count .dayJump).setTime m).changeDays).flushTable) _ (by simpa using lists)
      fun _ => by simpa using invalid

theorem takeClock_sound {s : State} (f : ClockFields) (stamp : Nat) (offerFirst passFirst : Bool)
    (h : s.WaitingSound) : (s.takeClock f stamp offerFirst passFirst).WaitingSound := by
  have same (c : Counter) : (s.count c).WaitingSound := (count_sameWaiting s c).sound h
  unfold State.takeClock
  split
  · exact same _
  · dsimp only
    split_ifs with adopted outranked
    · have stratum : (s.takeStratum (f.stratum + 1)).WaitingSound :=
        SameWaiting.sound ⟨by simp, by simp, by simp, by simp⟩ h
      refine SameWaiting.sound ?_ (adoptTime_sound (presentTime f (s.elapsed - stamp)) offerFirst passFirst stratum)
      exact ⟨by simp [State.adopt], by simp [State.adopt], by simp [State.adopt], by simp [State.adopt]⟩
    · exact same _
    · exact same _

theorem rollIfDue_sound {s : State} (h : s.WaitingSound) : s.rollIfDue.WaitingSound := by
  unfold State.rollIfDue
  split
  · exact h
  · exact changeDays_sound (SameWaiting.sound ⟨by simp, by simp, by simp, by simp⟩ h)

theorem countSecond_sound {s : State} (pass : PassPlace) (sweepFirst : Bool) (order : SweepOrder) (h : s.WaitingSound) :
    (s.countSecond pass sweepFirst order).WaitingSound := by
  have ticked : s.tickSecond.WaitingSound := SameWaiting.sound ⟨by simp, by simp, by simp, by simp⟩ h
  exact SameWaiting.sound ⟨by simp [State.countSecond], by simp [State.countSecond], by simp [State.countSecond],
    by simp [State.countSecond]⟩ (rollIfDue_sound ticked)

/-- A COLLECTING assembly that times out was none of those that wait (R50). -/
theorem timeOutAssembly_sound {s : State} {i : SlotIx} (h : s.WaitingSound)
    (free : ¬ IsComplete s.sheets i) : (s.timeOutAssembly i).WaitingSound := by
  obtain ⟨lists, waits⟩ := waitingSound_iff.1 h
  exact waitingSound_iff.2 ⟨lists.of_iff (isComplete_setSlot_iff free rfl fun a ha => nomatch ha), waits⟩

theorem collectingSince_eq_some {h : SlotSheets} {u : Nat} :
    h.collectingSince = some u ↔ ∃ a, h.assembly = some a ∧ a.state = .collecting ∧ a.lastAddition = u := by
  simp only [SlotSheets.collectingSince, Option.bind_eq_some_iff]
  refine exists_congr fun a => and_congr_right fun _ => ?_
  split <;> simp_all

/-- The slot that runs out first has a COLLECTING assembly, of the instant found. -/
theorem longestCollecting_since {v : Vector SlotSheets 6} {l : List SlotIx} {i : SlotIx} {u : Nat}
    (h : longestCollecting v l = some (i, u)) : (v.get i).collectingSince = some u := by
  induction l generalizing i u with
  | nil => cases h
  | cons j l ih =>
    unfold longestCollecting at h
    split at h
    next => exact ih h
    next t here later =>
      cases h
      exact here
    next t k w here later =>
      split at h
      · cases h
        exact here
      · cases h
        exact ih later

theorem tellSent_sheets (s : State) (x : Source) :
    (s.tellSent x).sheets.slots = s.sheets.slots ∧ (s.tellSent x).sheets.waiting = s.sheets.waiting ∧
      (s.tellSent x).sheets.offerTimer = s.sheets.offerTimer ∧ (s.tellSent x).sheets.made = s.sheets.made := by
  cases x <;> simp [State.tellSent, State.fragmentSent]

theorem finishSending_sameWaiting (s : State) : SameWaiting s s.finishSending := by
  refine ⟨?_, ?_, by simp, by simp⟩ <;> unfold State.finishSending <;> split <;>
    simp [State.endFrame, tellSent_sheets]

theorem reset_slot (i : SlotIx) : State.reset.sheets.slots.get i = ⟨[], none⟩ := by
  simp [State.reset, State.sheetsReset, Vector.get_eq_getElem]

theorem reset_waitingSound : State.reset.WaitingSound := by
  refine ⟨.nil, fun i => ⟨nofun, ?_⟩, fun left => absurd rfl left⟩
  rintro ⟨a, ha, -⟩
  rw [reset_slot] at ha
  cases ha

/-- Every command keeps what waits (R47, R51). -/
theorem exec_waitingSound {c : Instr} {s t : State} (h : s.WaitingSound) (hex : exec c s = .next t) :
    t.WaitingSound := by
  have passed (dt : Nat) : (s.advance dt).WaitingSound := SameWaiting.sound ⟨rfl, rfl, rfl, id⟩ h
  have taken (dt : Nat) (rest : List ReceivedFrame) :
      ({ s.advance dt with rx := { s.rx with queue := rest } } : State).WaitingSound :=
    SameWaiting.sound ⟨rfl, rfl, rfl, id⟩ h
  have timed {timer : Option Nat} {f : State → State} (same : ∀ u, SameWaiting u (f u)) :
      (s.onTimer timer f).WaitingSound := onTimer_cases h fun t _ _ => (same _).sound (passed _)
  have acts {dt : Nat} {f : State → State} (same : ∀ u, SameWaiting u (f u)) :
      ((s.advance dt).whenStarted f).WaitingSound :=
    whenStarted_cases (fun _ => passed dt) fun _ => (same _).sound (passed dt)
  have heard {dt : Nat} {k : Kind} {f : ReceivedFrame → State → State} (same : ∀ g u, SameWaiting u (f g u)) :
      (s.onDispatch dt k f).WaitingSound :=
    onDispatch_cases (passed dt) fun g rest _ _ _ _ => (same g _).sound (taken dt rest)
  cases c <;> cases hex
  case clockFrame dt offerFirst passFirst =>
    exact onDispatch_cases (passed dt) fun g rest _ _ _ _ => takeClock_sound _ _ _ _ (taken dt rest)
  case sheetFrame dt => exact onDispatch_cases (passed dt) fun g rest _ _ _ _ => takeSheet_sound _ (taken dt rest)
  case rebuildCompletion ending =>
    refine whenStarted_cases (fun _ => passed _) fun _ => ?_
    split
    · exact passed _
    next r _ =>
      obtain ⟨lists, waits⟩ := waitingSound_iff.1 h
      refine SameWaiting.sound ⟨by simp, by simp, by simp, by simp⟩ (fillAndCommit_sound
        (s := (s.advance ending.dt).completeRebuild r) ending.commitFirst ?_ fun left => ?_)
      · simpa using lists
      · simpa using (waits (by simpa using left)).2
  case countedSecond pass sweep =>
    refine whenStarted_cases (fun _ => h) fun _ => ?_
    split
    · exact countSecond_sound _ _ _ h
    · exact h
  case assemblyTimeout =>
    refine whenStarted_cases (fun _ => h) fun _ => ?_
    split
    · exact h
    next i u first =>
      obtain ⟨a, ha, collecting, -⟩ := collectingSince_eq_some.1 (longestCollecting_since first)
      refine timeOutAssembly_sound (passed _) (not_isComplete_of_assembly fun b hb => ?_)
      cases ha.symm.trans hb
      simp [collecting]
  case nporAsserted => exact reset_waitingSound
  case nporRelease => exact SameWaiting.sound ⟨rfl, rfl, rfl, id⟩ h
  case configurationAbsent dt node =>
    split
    · exact SameWaiting.sound ⟨by simp, by simp, by simp, by simp⟩ (passed dt)
    · exact passed dt
  case configurationReadComplete dt node image =>
    split
    · split
      · exact SameWaiting.sound ⟨by simp, by simp, by simp, by simp⟩ (passed dt)
      · exact SameWaiting.sound ⟨by simp, by simp, by simp, by simp⟩ (passed dt)
    · exact passed dt
  case holdoffEnd =>
    refine whenStarted_cases (fun _ => h) fun _ => ?_
    split
    · exact h
    · exact SameWaiting.sound ⟨by simp, by simp, by simp, by simp⟩ h
  case character | idle | scanCompletion | storeLowActive | storeLowInactive | loadStepEnd | stopSent |
      carrierDetectRise | carrierQuiet | backoffSlot =>
    refine acts fun u => ?_
    split <;> exact ⟨by simp, by simp, by simp, by simp⟩
  case frameSent =>
    refine acts fun u => ?_
    split
    · exact finishSending_sameWaiting u
    · exact ⟨rfl, rfl, rfl, id⟩
  case temperatureAnswer | ready => exact acts fun u => ⟨by simp, by simp, by simp, by simp⟩
  case offerFrame | passFrame | sightFrame | noticeFrame | queryFrame | replyDiscarded =>
    exact heard fun g u => ⟨by simp, by simp, by simp, by simp⟩
  case readTimeout | readyTimeout =>
    refine timed fun u => ?_
    split <;> exact ⟨by simp, by simp, by simp, by simp⟩
  case agingTimerExpiry | beaconTimerExpiry | offerTimerExpiry | scanTimerExpiry | temperatureTimerExpiry |
      suspendLimitExpiry | quietTimerExpiry | sniffTimerExpiry | windowClose | frameAbandoned =>
    exact timed fun u => ⟨by simp, by simp, by simp, by simp⟩

/-- Settles O12: the stored sheets by what a move keeps, the waiting assemblies command by command. -/
theorem stepKeepsSheetsSound : Obligations.StepKeepsSheetsSound := by
  refine ⟨fun _ _ => step_keeps_sheetsSound, fun s t h hstep => ?_⟩
  unfold step at hstep
  split at hstep
  · cases hstep
    exact h
  next c rest _ => exact exec_waitingSound (s := { s with pending := rest }) h hstep

/-! ### Power-on reset (O13) -/

theorem reset_line (n : Fin 10) : State.reset.engine.lines.get n = State.lineReset := by
  simp [State.reset, State.engineReset, Vector.get_eq_getElem]

theorem reset_counter (k : Counter) : State.reset.counter k = 0 := by
  simp [State.counter, State.reset, Vector.get_eq_getElem]

/-- Settles O13: no list holds anything, no job is active, nothing is on the air. -/
theorem resetMeetsTheLaws : Obligations.ResetMeetsTheLaws := by
  refine ⟨by simp [State.Bounded, State.reset, State.tableReset, State.rxReset, State.txReset, State.sheetsReset,
      State.boardReset, State.senseReset], nofun, ⟨fun h => absurd rfl h, nofun⟩,
    by simp [State.InRange, State.reset, State.clockReset, State.engineReset, State.senseReset, State.txReset],
    fun k => by simp [reset_counter], nofun, .nil, ⟨nofun, fun _ => rfl⟩,
    ⟨fun n => by simp [reset_line, State.lineReset], nofun, fun _ => ⟨rfl, fun n => by
      simp [reset_line, State.lineReset]⟩⟩, nofun, nofun, nofun, ⟨nofun, nofun⟩,
    by simp [State.PortSound, State.reset, State.engineReset], by simp [State.SendSound, State.reset, State.txReset],
    ?_, ?_, reset_waitingSound⟩
  · exact ⟨nofun, nofun, nofun, fun h => absurd rfl h, fun _ => rfl, nofun, nofun⟩
  · intro i
    simp [reset_slot]

end Sys2Proof.Proofs
end

section
/-! PROOF. The frame of a command, commands out of place (O3), and the start of the blocks (O15). -/

namespace Sys2Proof.Proofs

open Sys2Proof Sys2Proof.Machine Sys2Proof.Claims

/-! ### What a command leaves as it was -/

/-- The frame of a command, block by block. -/
theorem onlyChanges_iff {bs : List Block} {s t : State} : OnlyChanges bs s t ↔ t.pending = s.pending ∧
    (.elapsed ∉ bs → t.elapsed = s.elapsed) ∧ (.loader ∉ bs → t.loader = s.loader) ∧
    (.clock ∉ bs → t.clock = s.clock) ∧ (.sheets ∉ bs → t.sheets = s.sheets) ∧ (.table ∉ bs → t.table = s.table) ∧
    (.board ∉ bs → t.board = s.board) ∧ (.planner ∉ bs → t.planner = s.planner) ∧
    (.engine ∉ bs → t.engine = s.engine) ∧ (.sense ∉ bs → t.sense = s.sense) ∧ (.rx ∉ bs → t.rx = s.rx) ∧
    (.tx ∉ bs → t.tx = s.tx) ∧ (.counters ∉ bs → t.counters = s.counters) := by
  constructor
  · rintro ⟨pending, same⟩
    exact ⟨pending, same .elapsed, same .loader, same .clock, same .sheets, same .table, same .board, same .planner,
      same .engine, same .sense, same .rx, same .tx, same .counters⟩
  · rintro ⟨pending, elapsed, loader, clock, sheets, table, board, planner, engine, sense, rx, tx, counters⟩
    exact ⟨pending, fun b => match b with
      | .elapsed => elapsed | .loader => loader | .clock => clock | .sheets => sheets | .table => table
      | .board => board | .planner => planner | .engine => engine | .sense => sense | .rx => rx | .tx => tx
      | .counters => counters⟩

theorem advance_onlyChanges (s : State) (dt : Nat) : OnlyChanges [.elapsed, .clock] s (s.advance dt) := by
  simp [onlyChanges_iff]

theorem advance_passes (s : State) (dt : Nat) : Passes dt s (s.advance dt) := ⟨rfl, rfl⟩

/-- Settles O14: both commands' answers are given outright. -/
theorem nporReleasesAndResets : Obligations.NporReleasesAndResets :=
  fun s => ⟨⟨_, rfl, by simp [onlyChanges_iff], rfl⟩, _, rfl, rfl, rfl, rfl, rfl, reset_counter⟩

/-! ### Commands out of place (O3) -/

/-- Time passes and no more. -/
def Waits (s t : State) : Prop := ∃ dt, t = s.advance dt

theorem waits_refl (s : State) : Waits s s := ⟨0, (advance_zero s).symm⟩

theorem Waits.idles {s t : State} (h : Waits s t) {c : Instr} (hex : exec c s = .next t) :
    ∃ t dt, exec c s = .next t ∧ OnlyChanges [.elapsed, .clock] s t ∧ Passes dt s t := by
  obtain ⟨dt, rfl⟩ := h
  exact ⟨_, dt, hex, advance_onlyChanges s dt, advance_passes s dt⟩

/-- While the loader reads, no block takes an event (R167). -/
theorem exec_waits_of_reading {c : Instr} {s : State} (reading : s.loader.state = .reading)
    (absent : ∀ dt node, c ≠ .configurationAbsent dt node)
    (complete : ∀ dt node image, c ≠ .configurationReadComplete dt node image) (release : c ≠ .nporRelease)
    (assert : c ≠ .nporAsserted) : ∃ t, exec c s = .next t ∧ Waits s t := by
  have unstarted : s.started = false := by simp [State.started, reading]
  have guarded {dt : Nat} {f : State → State} : Waits s ((s.advance dt).whenStarted f) :=
    ⟨dt, whenStarted_of_not unstarted⟩
  have stopped {f : State → State} : Waits s (s.whenStarted f) := by
    rw [whenStarted_of_not unstarted]
    exact waits_refl s
  have timed {timer : Option Nat} {f : State → State} : Waits s (s.onTimer timer f) :=
    onTimer_cases (waits_refl s) fun _ _ started => absurd (unstarted.symm.trans started) nofun
  have heard {dt : Nat} {k : Kind} {f : ReceivedFrame → State → State} : Waits s (s.onDispatch dt k f) :=
    onDispatch_cases ⟨dt, rfl⟩ fun _ _ started _ _ _ => absurd (unstarted.symm.trans started) nofun
  cases c
  case nporRelease => exact absurd rfl release
  case nporAsserted => exact absurd rfl assert
  case configurationAbsent dt node => exact absurd rfl (absent dt node)
  case configurationReadComplete dt node image => exact absurd rfl (complete dt node image)
  case countedSecond | assemblyTimeout | holdoffEnd => exact ⟨_, rfl, stopped⟩
  case clockFrame | offerFrame | sheetFrame | passFrame | sightFrame | noticeFrame | queryFrame | replyDiscarded =>
    exact ⟨_, rfl, heard⟩
  case agingTimerExpiry | beaconTimerExpiry | offerTimerExpiry | scanTimerExpiry | temperatureTimerExpiry |
      readTimeout | readyTimeout | suspendLimitExpiry | quietTimerExpiry | sniffTimerExpiry | windowClose |
      frameAbandoned => exact ⟨_, rfl, timed⟩
  all_goals exact ⟨_, rfl, guarded⟩

/-- A dispatch command that does not find its head. -/
theorem onDispatch_of_not_atHead {s : State} {dt : Nat} {k : Kind} {f : ReceivedFrame → State → State}
    (h : ∀ g rest, ¬ AtHead k g rest s) : s.onDispatch dt k f = s.advance dt :=
  onDispatch_cases (P := (· = s.advance dt)) rfl fun g rest started hq hk hh =>
    absurd ⟨started, hq, hk, hh⟩ (h g rest)

/-- Settles O3: before the blocks start nothing is taken, and without its head a dispatch command takes nothing. -/
theorem commandsOutOfPlaceDoNothing : Obligations.CommandsOutOfPlaceDoNothing := by
  refine ⟨fun c s reading absent complete release assert => ?_, fun s dt f p n k c member headless => ?_⟩
  · obtain ⟨t, hex, waits⟩ := exec_waits_of_reading reading absent complete release assert
    exact waits.idles hex
  · suffices exec c s = .next (s.advance dt) from ⟨_, this, advance_onlyChanges s dt, advance_passes s dt⟩
    simp only [List.mem_cons, Prod.mk.injEq, List.not_mem_nil, or_false] at member
    rcases member with ⟨rfl, rfl⟩ | ⟨rfl, rfl⟩ | ⟨rfl, rfl⟩ | ⟨rfl, rfl⟩ | ⟨rfl, rfl⟩ | ⟨rfl, rfl⟩ | ⟨rfl, rfl⟩ | ⟨rfl, rfl⟩
    all_goals exact congrArg _ (onDispatch_of_not_atHead headless)

/-! ### The start of the blocks (O15) -/

/-- The part at power-on but for loaded values, the elapsed time and the counters. -/
def loadedAtPowerOn (q : List Instr) (e : Nat) (source : ConfigSource) (c : Loaded) (k : Counters) : State :=
  { State.reset with pending := q, elapsed := e, loader := ⟨true, .done, source, c⟩, counters := k }

/-- The blocks' start up to the first composition, store-low being `low` (R139, R141, R155, R162). -/
def armedAtPowerOn (q : List Instr) (e : Nat) (low : Bool) (source : ConfigSource) (c : Loaded) (k : Counters) : State :=
  { loadedAtPowerOn q e source c k with
    planner := State.plannerReset c
    engine := { State.engineReset with readRequest := true }
    sense := { State.senseReset with
      storeLow := low
      converting := true
      scanTimer := some (e + 1000 * c.scanPeriod)
      temperatureTimer := some (e + 1000 * c.temperaturePeriod) }
    rx := { State.rxReset with radio := true }
    tx := { State.txReset with lfsr := lfsrSeed c.stopId } }

section
variable (q : List Instr) (e node : Nat) (low : Bool) (source : ConfigSource) (c : Loaded) (k : Counters)

theorem armed_of_loaded : ((loadedAtPowerOn q e source c k).startPlanner.startPort.armStoreLow node).startSense =
    armedAtPowerOn q e (decide (node < c.warning)) source c
      (if node < c.warning then k.add .storeLowActivation 1 else k) := by
  unfold State.armStoreLow comparator
  have warning : (loadedAtPowerOn q e source c k).startPlanner.startPort.loader.loaded.warning = c.warning := rfl
  rw [warning]
  by_cases low : node < c.warning
  · simp only [low, if_true, decide_true]
    rfl
  · simp only [low, if_false, decide_false, ite_self, Bool.false_eq_true]
    rfl

/-- The first composition and the read of the start-up: no job can be staged yet, the band being UNKNOWN (R76, R123). -/
theorem composeFirst_servePort_of_armed : (armedAtPowerOn q e low source c k).composeFirst.servePort =
    { armedAtPowerOn q e low source c k with
      board := { State.boardReset with targets := (armedAtPowerOn q e low source c k).composedTargets }
      engine := { State.engineReset with
        lines := judgeLines State.boardReset.targets (armedAtPowerOn q e low source c k).composedTargets e
          (fun _ => true) State.engineReset.lines
        port := .reading
        readDeadline := some (e + 20)
        commands := [.temperatureRead] }
      counters := (k.add .boardRecomposed 1).add .targetChange 10 } := rfl

end

/-- The board of the start: time is invalid, so the standby text stands on line 1 (R80, R83). -/
theorem startTargets_of_armed (q : List Instr) (e : Nat) (low : Bool) (source : ConfigSource) {c : Loaded} (k : Counters)
    (name : c.stopName.length = 24) (standby : c.standby.length = 32) :
    (armedAtPowerOn q e low source c k).composedTargets = startTargets c := by
  have header : headerLine c State.clockReset .dormant = c.stopName ++ List.replicate 8 32#8 := by
    have padded : fit 27 c.stopName = c.stopName ++ List.replicate 3 32#8 := by
      simp [fit, List.take_append, name]
    simp [headerLine, State.clockReset, fit_of_length name, padded, Config.blanks]
  have row : fit 32 c.standby = c.standby := fit_of_length standby
  show Vector.mk #[headerLine c State.clockReset .dormant, fit 32 c.standby, _, _, _, _, _, _, _, _] _ = _
  simp only [header, row]
  rfl

/-- The start-up report finds every line dirty without a time (R100). -/
theorem judgeLines_of_reset (new : Vector Cells 10) (e : Nat) :
    judgeLines State.boardReset.targets new e (fun _ => true) State.engineReset.lines =
      Vector.replicate 10 ⟨none, 0, .unknown, some e⟩ := by
  ext1 n hn
  simp [judgeLines, State.engineReset, LineRecord.judged, State.lineReset, dirtyAgainst]

/-- A part that has its loaded values at power-on has started once the blocks have (R171). -/
theorem started_of_loaded {s : State} {dt : Nat} (node : Nat) {source : ConfigSource} {c : Loaded} {cs : List Counter}
    {k : Counters} (name : c.stopName.length = 24) (standby : c.standby.length = 32)
    (counted : Counted cs s (loadedAtPowerOn s.pending (s.elapsed + dt) source c k)) :
    Started dt node source c cs s ((loadedAtPowerOn s.pending (s.elapsed + dt) source c k).startBlocks node) := by
  rw [State.startBlocks, armed_of_loaded, composeFirst_servePort_of_armed, startTargets_of_armed _ _ _ _ _ name standby,
    judgeLines_of_reset]
  refine ⟨rfl, rfl, rfl, rfl, rfl, rfl, rfl, rfl, rfl, rfl, rfl, rfl, ?_⟩
  have low : Counted (cs ++ if decide (node < c.warning) = true then [.storeLowActivation] else []) s
      (loadedAtPowerOn s.pending (s.elapsed + dt) source c
        (if node < c.warning then k.add .storeLowActivation 1 else k)) := by
    by_cases low : node < c.warning
    · simp only [low, decide_true, if_true]
      exact counted_of _ counted rfl
    · simpa [low] using counted
  rw [List.append_cons]
  exact counted_many _ (counted_of (c := .boardRecomposed) (t := State.count _ _) _ low rfl) rfl

/-- What the read's end finds, step by step: a part at power-on with NPOR released. -/
theorem atPowerOn_cases {s : State} (h : s.AtPowerOn) (released : s.loader.released = true) :
    s = { State.reset with
      pending := s.pending, elapsed := s.elapsed, loader := { State.loaderReset with released := true } } := by
  rw [← released]
  exact h

theorem reads_of_atPowerOn {s : State} (dt : Nat) (h : s.AtPowerOn) (released : s.loader.released = true) :
    (s.advance dt).readingImage = true := by
  rw [atPowerOn_cases h released]
  rfl

theorem loadValues_of_atPowerOn {s : State} (dt : Nat) (h : s.AtPowerOn) (released : s.loader.released = true)
    (source : ConfigSource) (c : Loaded) :
    (s.advance dt).loadValues source c = loadedAtPowerOn s.pending (s.elapsed + dt) source c s.counters := by
  rw [atPowerOn_cases h released]
  rfl

theorem slice_length {bs : List Byte} {off len : Nat} (h : off + len ≤ bs.length) : (slice bs off len).length = len := by
  simp only [slice, List.length_take, List.length_drop]
  omega

/-- The last two bytes of an image (R168). -/
theorem field_two {bs : List Byte} {off : Nat} (h : off + 2 ≤ bs.length) :
    field bs off 2 = 256 * (bs.getD off 0#8).toNat + (bs.getD (off + 1) 0#8).toNat := by
  have first : bs[off]? = some bs[off] := List.getElem?_eq_getElem _
  have second : bs[off + 1]? = some bs[off + 1] := List.getElem?_eq_getElem _
  simp only [field, slice, List.getD, first, second, Option.getD_some]
  rw [List.drop_eq_getElem_cons (by omega), List.drop_eq_getElem_cons (by omega)]
  simp only [List.take_succ_cons, List.take_zero, valueOf, List.foldl_cons, List.foldl_nil]
  omega

/-- A read's end that finds no read in progress. -/
theorem not_readingImage {s : State} (dt : Nat) (h : s.loader.state = .done ∨ s.loader.released = false) :
    (s.advance dt).readingImage = false := by
  rcases h with done | asserted <;> simp_all [State.readingImage]

/-- Settles O15: both ends of the read load their values into a part at power-on, and the blocks start from there. -/
theorem configurationStartsTheBlocks : Obligations.ConfigurationStartsTheBlocks := by
  refine ⟨fun s dt node h released => ⟨⟨_, rfl, ?_⟩, fun image len => ⟨_, rfl, ?_⟩⟩, fun s dt node image h => ?_⟩
  · rw [if_pos (reads_of_atPowerOn dt h released), State.startAbsent, State.loadAbsent, loadValues_of_atPowerOn dt h released]
    exact started_of_loaded node rfl rfl (counted_one rfl)
  · have accepted : imageAccepted image = true ↔
        (crc (image.take 510)).toNat = 256 * (image.getD 510 0#8).toNat + (image.getD 511 0#8).toNat := by
      rw [imageAccepted, field_two (by omega), decide_eq_true_iff]
    have ends : (if (s.advance dt).readingImage = true then
        if image.length < 512 then (s.advance dt).startAbsent node else (s.advance dt).startImage node image
        else s.advance dt) = ((s.advance dt).loadChecked image).startBlocks node := by
      rw [if_pos (reads_of_atPowerOn dt h released), if_neg (by omega), State.startImage]
    rw [ends, State.loadChecked, loadValues_of_atPowerOn dt h released, loadValues_of_atPowerOn dt h released]
    by_cases good : imageAccepted image = true
    · rw [if_pos good, if_pos (accepted.1 good)]
      exact started_of_loaded node (slice_length (by omega)) (slice_length (by omega))
        (counted_many _ (counted_many (cs := []) _ (counted_nil rfl) rfl) rfl)
    · rw [if_neg good, if_neg (mt accepted.2 good)]
      exact started_of_loaded node rfl rfl (counted_one rfl)
  · refine ⟨⟨s.advance dt, ?_, advance_onlyChanges s dt, advance_passes s dt⟩,
      s.advance dt, ?_, advance_onlyChanges s dt, advance_passes s dt⟩ <;>
      simp [exec, execConfigurationAbsent, execConfigurationReadComplete, not_readingImage dt h]

end Sys2Proof.Proofs
end

section
/-! PROOF. The image: every number clamped, the slots settled in order (O16). -/

namespace Sys2Proof.Proofs

open Sys2Proof Sys2Proof.Machine Sys2Proof.Claims

/-! ### Slots settled in order (R170) -/

theorem settleSlots_append (xs : List SlotConfig) (x : SlotConfig) :
    settleSlots (xs ++ [x]) = settleSlots xs ++ [settleSlot (settleSlots xs) x] := by
  simp [settleSlots]

theorem settleSlots_length (xs : List SlotConfig) : (settleSlots xs).length = xs.length := by
  induction xs using List.reverseRecOn with
  | nil => rfl
  | append_singleton xs x ih => simp [settleSlots_append, ih]

/-- Each slot is settled after those before it. -/
theorem settleSlots_getElem? (xs : List SlotConfig) (k : Nat) :
    (settleSlots xs)[k]? = xs[k]?.map (settleSlot ((settleSlots xs).take k)) := by
  induction xs using List.reverseRecOn with
  | nil => rfl
  | append_singleton xs x ih =>
    rw [settleSlots_append]
    rcases Nat.lt_trichotomy k xs.length with below | rfl | above
    · rw [List.getElem?_append_left (by rwa [settleSlots_length]), List.getElem?_append_left below, ih,
        List.take_append_of_le_length (by rw [settleSlots_length]; omega)]
    · simp [settleSlots_length]
    · rw [List.getElem?_eq_none (by simp [settleSlots_length]; omega), List.getElem?_eq_none (by simp; omega)]
      rfl

/-- The six slots of an image by number. -/
theorem loadImage_slot (image : List Byte) (k : Fin 6) : (slotList image)[k.val]? = some ((loadImage image).slots.get k) := by
  have six : (slotList image).length = 6 := settleSlots_length _
  have slot : (loadImage image).slots.get k = slotAt image k := by
    fin_cases k <;> rfl
  rw [slot, slotAt, List.getElem?_eq_getElem (by omega), List.getD, List.getElem?_eq_getElem (by omega)]
  rfl

/-- A slot is its 46 bytes settled after the slots before it. -/
theorem loadImage_slot_eq (image : List Byte) (k : Fin 6) :
    (loadImage image).slots.get k = settleSlot ((slotList image).take k) (rawSlot image k) := by
  have settled := (loadImage_slot image k).symm.trans (settleSlots_getElem? _ _)
  have raw : ([0, 1, 2, 3, 4, 5].map (rawSlot image))[k.val]? = some (rawSlot image k) := by
    fin_cases k <;> rfl
  rw [raw] at settled
  exact Option.some.inj settled

/-- The slots before one, by number. -/
theorem mem_take_slotList (image : List Byte) (k : Fin 6) (x : SlotConfig) :
    x ∈ (slotList image).take k ↔ ∃ j : Fin 6, j < k ∧ (loadImage image).slots.get j = x := by
  simp only [List.mem_iff_getElem?, List.getElem?_take]
  constructor
  · rintro ⟨i, hi⟩
    split at hi
    next below =>
      have slot := loadImage_slot image ⟨i, below.trans k.isLt⟩
      exact ⟨⟨i, below.trans k.isLt⟩, below, Option.some.inj (slot.symm.trans hi)⟩
    · cases hi
  · rintro ⟨j, below, rfl⟩
    exact ⟨j, by rw [if_pos (by exact below)]; exact loadImage_slot image j⟩

/-- A slot is enabled where its tag is used and no enabled slot before it carries it, and its s is in order (R170). -/
theorem settleSlot_enabled_iff {earlier : List SlotConfig} {x : SlotConfig} : (settleSlot earlier x).enabled = true ↔
    x.tag ≠ 0 ∧ x.stopIndex ≤ x.terminal ∧ ∀ y ∈ earlier, y.enabled = true → y.tag ≠ x.tag := by
  simp [settleSlot, slotRefused, and_comm]

/-- Settles O16: numbers field by field, slots by the order they are settled in. -/
theorem imagesAreClampedAndSettled : Obligations.ImagesAreClampedAndSettled := by
  intro image
  refine ⟨?_, ?_, rfl, rfl, rfl, rfl, fun k => ?_⟩
  · simp only [imageNumbers, List.forall_mem_cons]
    refine ⟨rfl, rfl, rfl, rfl, rfl, rfl, rfl, rfl, rfl, rfl, rfl, rfl, rfl, rfl, rfl, rfl, rfl, rfl, rfl, rfl, rfl, rfl,
      rfl, rfl, rfl, rfl, rfl, rfl, rfl, rfl, rfl, rfl, rfl, rfl, rfl, rfl, rfl, List.forall_mem_nil _⟩
  · simp [loadImage, settledAmple, RangedField.value, clampTo, fAmple, RangedField.raw]
  · have slot := loadImage_slot_eq image k
    refine ⟨by rw [slot]; rfl, by rw [slot]; exact Nat.zero_max _, by rw [slot]; rfl, by rw [slot]; exact Nat.zero_max _,
      by rw [slot]; rfl, by rw [slot]; rfl, by rw [slot]; rfl, ?_⟩
    have enabled := settleSlot_enabled_iff (earlier := (slotList image).take k) (x := rawSlot image k)
    have tag : (rawSlot image k).tag = ((loadImage image).slots.get k).tag := by rw [slot]; rfl
    have order : (rawSlot image k).stopIndex ≤ (rawSlot image k).terminal ↔
        ((loadImage image).slots.get k).stopIndex ≤ ((loadImage image).slots.get k).terminal := by rw [slot]; rfl
    rw [← slot, tag, order] at enabled
    refine enabled.trans (and_congr_right fun _ => and_congr_right fun _ => ⟨fun all j below on => ?_, fun all y hy => ?_⟩)
    · exact all _ ((mem_take_slotList image k _).2 ⟨j, below, rfl⟩) on
    · obtain ⟨j, below, rfl⟩ := (mem_take_slotList image k y).1 hy
      exact all j below

end Sys2Proof.Proofs
end

section
/-! PROOF. Counting, and the receive side: characters, idle, its timers and windows (O17 to O20). -/

namespace Sys2Proof.Proofs

open Sys2Proof Sys2Proof.Machine Sys2Proof.Claims

/-! ### Cases counted -/

theorem counted_trans {as bs : List Counter} {s u t : State} (h : Counted as s u) (h' : Counted bs u t) :
    Counted (as ++ bs) s t := by
  intro k hk
  have first := h k hk
  rw [h' k (by omega), first, List.count_append]
  omega

theorem counted_congr {cs : List Counter} {s s' t t' : State} (h : Counted cs s t) (before : s'.counters = s.counters)
    (after : t'.counters = t.counters) : Counted cs s' t' := by
  intro k hk
  rw [State.counter_congr before] at hk ⊢
  rw [State.counter_congr after]
  exact h k hk

/-- A case counted under a condition. -/
theorem counted_ite {p : Prop} [Decidable p] {c : Counter} (s : State) :
    Counted (if p then [c] else []) s (if p then s.count c else s) := by
  split
  · exact counted_one rfl
  · exact counted_nil rfl

/-! ### Radio power (R158) -/

theorem sniffDue_iff {s : State} : s.sniffDue = true ↔ ∃ u ∈ s.rx.sniffTimer, u ≤ s.elapsed := by
  unfold State.sniffDue
  split <;> simp_all

theorem radioWanted_iff {s : State} : s.radioWanted = true ↔ s.started = true ∧
    (s.rx.mode = .sniff → s.rx.window ≠ .closed ∨ s.tx.state ≠ .idle ∨ ∃ u ∈ s.rx.sniffTimer, u ≤ s.elapsed) := by
  rw [← sniffDue_iff]
  unfold State.radioWanted
  cases s.rx.mode <;> simp [or_assoc]

/-- Radio power stays wanted while mode, window and sniff timer stay, no frame is given up and time goes on. -/
theorem radioWanted_of_later {s u : State} (h : s.radioWanted = true) (loader : u.loader = s.loader)
    (mode : u.rx.mode = s.rx.mode) (window : u.rx.window = s.rx.window) (timer : u.rx.sniffTimer = s.rx.sniffTimer)
    (send : s.tx.state ≠ .idle → u.tx.state ≠ .idle) (later : s.elapsed ≤ u.elapsed) : u.radioWanted = true := by
  rw [radioWanted_iff] at h ⊢
  rw [mode, window, timer]
  refine ⟨by simpa [State.started, loader] using h.1, fun sniff => ?_⟩
  exact (h.2 sniff).imp_right (Or.imp send fun ⟨x, hx, due⟩ => ⟨x, hx, due.trans later⟩)

theorem followRadio_of_wanted {s : State} (wanted : s.radioWanted = true) :
    s.followRadio = { s with rx := { s.rx with radio := true } } := by
  simp [State.followRadio, wanted]

/-- Radio power goes off outside ASSEMBLE: the receive state returns to HUNT, and nothing is truncated (R151). -/
theorem followRadio_of_unwanted {s : State} (unwanted : s.radioWanted = false) (radio : s.rx.radio = true)
    (between : s.rx.state ≠ .assemble) :
    s.followRadio = { s with rx := { s.rx with state := .hunt, buffer := [], radio := false } } := by
  simp [State.followRadio, unwanted, radio, State.enterHunt, between]

theorem closeHeld_of_not {s : State} (h : ¬ (s.rx.window = .held ∧ s.rx.state ≠ .assemble)) : s.closeHeld = s :=
  if_neg h

/-- Where radio power is on and wanted, nothing but a held window whose frame has ended changes, and radio power goes off
with it where nothing else asks for it (R158). -/
theorem settleRadio_of_wanted {s : State} (radio : s.rx.radio = true) (wanted : s.radioWanted = true) :
    s.settleRadio = { s with rx := letGo s.elapsed s.tx.state s.rx } := by
  obtain ⟨started, -⟩ := radioWanted_iff.1 wanted
  have kept (r : Receiver) (h : r.radio = true) : { r with radio := true } = r := h ▸ rfl
  unfold State.settleRadio letGo
  by_cases gone : s.rx.window = .held ∧ s.rx.state ≠ .assemble
  · have closed : s.closeHeld = { s with rx := { s.rx with window := .closed } } := if_pos gone
    rw [if_pos gone]
    by_cases off : s.rx.mode = .sniff ∧ s.tx.state = .idle ∧ ¬ ∃ u ∈ s.rx.sniffTimer, u ≤ s.elapsed
    · have unwanted : s.closeHeld.radioWanted = false := by
        rw [← Bool.not_eq_true, radioWanted_iff, closed]
        rintro ⟨-, ask⟩
        rcases ask off.1 with h | h | h
        · exact h rfl
        · exact h off.2.1
        · exact off.2.2 h
      rw [if_pos off, followRadio_of_unwanted unwanted (closed ▸ radio) (closed ▸ gone.2), closed]
    · have still : s.closeHeld.radioWanted = true := by
        rw [radioWanted_iff, closed]
        refine ⟨started, fun sniff => .inr ?_⟩
        by_contra none
        exact off ⟨sniff, by_contra fun h => none (.inl h), fun h => none (.inr h)⟩
      rw [if_neg off, followRadio_of_wanted still, closed]
      exact congrArg (fun r => { s with rx := r }) (kept { s.rx with window := .closed } radio)
  · rw [closeHeld_of_not gone, followRadio_of_wanted wanted, if_neg gone]
    exact congrArg (fun r => { s with rx := r }) (kept s.rx radio)

/-! ### Characters (O17) -/

theorem wakes_iff {c : Loaded} {h : Byte} : wakes c h = true ↔ passesFilter c h := by
  have group : servedGroup c (headerGroup h) = true ↔
      ∃ i, (c.slots.get i).enabled = true ∧ (c.slots.get i).tag % 32 = h.toNat % 32 := by
    have all (i : SlotIx) : i ∈ allSlots := (by decide : ∀ i : SlotIx, i ∈ allSlots) i
    simp only [servedGroup, enabledSlots, List.any_filter, List.any_eq_true, all, true_and, Bool.and_eq_true,
      decide_eq_true_iff]
    rfl
  unfold wakes passesFilter
  cases headerKind h <;> simp only [group, Bool.or_eq_true, decide_eq_true_iff, Bool.false_eq_true]
  rfl

/-- The bits of which at least two samples hold the value (R148). -/
theorem majority_of_bits {a b c bits : BitVec 11}
    (h : ∀ i < 11, bits.getLsbD i = true ↔ 2 ≤ ([a, b, c].countP fun x => x.getLsbD i)) : bits = majority a b c := by
  refine BitVec.eq_of_getLsbD_eq fun i hi => ?_
  rw [Bool.eq_iff_iff, h i hi]
  simp only [majority, BitVec.getLsbD_or, BitVec.getLsbD_and, List.countP_cons, List.countP_nil]
  cases a.getLsbD i <;> cases b.getLsbD i <;> cases c.getLsbD i <;> simp

theorem receiveAs_self (s : State) : s.receiveAs s.rx.state s.rx.buffer = s := rfl

/-- What a receive state, a buffer and some counted cases come to. -/
def Receives (s t : State) (r : ReceiveState × List Byte × List Counter) : Prop :=
  t.rx = { s.rx with state := r.1, buffer := r.2.1 } ∧ Counted r.2.2 s t

theorem badCharacter_receives (s : State) (mark heard : Bool) (b : Byte) :
    Receives s s.badCharacter (received s.rx.state s.rx.buffer false mark heard b) := by
  unfold State.badCharacter
  cases h : s.rx.state <;> refine ⟨?_, counted_one (by simp [State.receiveAs])⟩ <;>
    simp [State.receiveAs, received] <;> simp [← h]

theorem unmarkedCharacter_receives (s : State) (heard : Bool) (b : Byte) :
    Receives s (s.unmarkedCharacter b) (received s.rx.state s.rx.buffer true false heard b) := by
  unfold State.unmarkedCharacter
  cases h : s.rx.state
  case hunt => exact ⟨by simp [received, ← h], counted_one rfl⟩
  case skip => exact ⟨by simp [received, ← h], counted_nil rfl⟩
  case assemble =>
    by_cases room : s.rx.buffer.length < 48
    · simp only [received, if_pos room]
      exact ⟨rfl, counted_nil rfl⟩
    · simp only [received, if_neg room]
      exact ⟨rfl, counted_one rfl⟩

/-- A header judged (R151, R156). -/
theorem judgeHeader_receives {s : State} {b : Byte} {heard : Bool}
    (h : heard = true ↔ s.rx.mode = .listen ∨ passesFilter s.loader.loaded b) :
    Receives s (s.judgeHeader b) (received .hunt s.rx.buffer true true heard b) := by
  rw [← wakes_iff] at h
  unfold State.judgeHeader
  cases heard
  · rw [if_neg (fun w => nomatch h.2 w)]
    exact ⟨rfl, counted_one rfl⟩
  · rw [if_pos (h.1 rfl)]
    exact ⟨rfl, counted_nil rfl⟩

theorem markedCharacter_receives {s : State} {b : Byte} {heard : Bool}
    (h : heard = true ↔ s.rx.mode = .listen ∨ passesFilter s.loader.loaded b) :
    Receives s (s.markedCharacter b) (received s.rx.state s.rx.buffer true true heard b) := by
  unfold State.markedCharacter
  cases state : s.rx.state
  case assemble =>
    obtain ⟨rx, counted⟩ := judgeHeader_receives (s := s.count .truncated) h
    exact ⟨rx, counted_trans (counted_one (c := .truncated) rfl) counted⟩
  case hunt => exact judgeHeader_receives h
  case skip => exact judgeHeader_receives h

/-- A character's majority value in each receive state (the table of R151). -/
theorem takeValue_receives {s : State} {v : BitVec 11} {heard : Bool}
    (h : heard = true ↔ s.rx.mode = .listen ∨ passesFilter s.loader.loaded (v.extractLsb' 1 8)) :
    Receives s (s.takeValue v)
      (received s.rx.state s.rx.buffer (v.getLsbD 10) (v.getLsbD 9) heard (v.extractLsb' 1 8)) := by
  unfold State.takeValue stopBitGood characterMark
  cases v.getLsbD 10
  · exact badCharacter_receives s _ heard _
  · cases v.getLsbD 9
    · exact unmarkedCharacter_receives s heard _
    · exact markedCharacter_receives h

/-- A character with its noise (R148). -/
theorem takeCharacter_receives {s : State} {a b c : BitVec 11} {heard : Bool}
    (h : heard = true ↔ s.rx.mode = .listen ∨ passesFilter s.loader.loaded ((majority a b c).extractLsb' 1 8)) :
    let r := received s.rx.state s.rx.buffer ((majority a b c).getLsbD 10) ((majority a b c).getLsbD 9) heard
      ((majority a b c).extractLsb' 1 8)
    (s.takeCharacter a b c).rx = { s.rx with state := r.1, buffer := r.2.1, lastCharacter := s.elapsed } ∧
      Counted ((if a = b ∧ b = c then [] else [.noise]) ++ r.2.2) s (s.takeCharacter a b c) := by
  let timed : State := { s with rx := { s.rx with lastCharacter := s.elapsed } }
  have noise : (timed.countNoise a b c).rx = timed.rx ∧
      Counted (if a = b ∧ b = c then [] else [.noise]) s (timed.countNoise a b c) := by
    unfold State.countNoise
    split
    · exact ⟨rfl, counted_nil rfl⟩
    · exact ⟨rfl, counted_one rfl⟩
  have same : (timed.countNoise a b c).loader = s.loader := by simp [timed]
  obtain ⟨rx, counted⟩ := takeValue_receives (s := timed.countNoise a b c) (v := majority a b c) (heard := heard)
    (by rw [noise.1, same]; exact h)
  rw [noise.1] at rx counted
  exact ⟨rx, counted_trans noise.2 counted⟩

/-- What the receive side does while it neither hears nor sends: nothing (R148, R157). -/
theorem deaf_waits {s : State} (dt : Nat) (f : State → State) (deaf : s.rx.radio = false ∨ s.tx.state = .sending) :
    ((s.advance dt).whenStarted fun u => if u.hearing = true then f u else u) = s.advance dt := by
  have silent : s.hearing = false := by
    rcases deaf with h | h <;> simp [State.hearing, State.blanked, h]
  exact whenStarted_cases (P := (· = s.advance dt)) (fun _ => rfl) fun _ => by simp [silent]

/-- Settles O17: the majority's bits, then the table of R151 case by case, then the window. -/
theorem characterMovesTheReceiveState : Obligations.CharacterMovesTheReceiveState := by
  refine ⟨fun s dt a b c bits heard started hearing wanted hbits hheard => ?_, fun s dt a b c deaf i hi => ?_⟩
  · obtain rfl := majority_of_bits hbits
    have run : exec (.character dt a b c) s = .next ((s.advance dt).takeCharacter a b c).settleRadio := by
      simp [exec, execCharacter, started, hearing]
    obtain ⟨rx, counted⟩ := takeCharacter_receives (s := s.advance dt) (a := a) (b := b) (c := c) hheard
    have power : ((s.advance dt).takeCharacter a b c).rx.radio = true := by
      simp only [State.hearing, Bool.and_eq_true] at hearing
      simpa using hearing.1
    have still : ((s.advance dt).takeCharacter a b c).radioWanted = true :=
      radioWanted_of_later wanted (by simp) (by simp) (by simp) (by simp) (by simp) (by simp)
    rw [settleRadio_of_wanted power still] at run
    refine ⟨_, run, by simp [onlyChanges_iff], ⟨by simp, by simp; rfl⟩, ?_, counted_congr counted rfl rfl⟩
    dsimp only
    rw [rx]
    simp
  · refine ⟨s.advance dt, ?_, advance_onlyChanges s dt, advance_passes s dt⟩
    simp only [List.mem_cons, List.not_mem_nil, or_false] at hi
    rcases hi with rfl | rfl
    · exact congrArg _ (deaf_waits dt _ deaf)
    · exact congrArg _ (deaf_waits dt _ deaf)

/-! ### The end of a frame (O18) -/

/-- The check of a buffer against its last two bytes (R149). -/
theorem checkPasses_iff {buffer : List Byte} (h : 2 ≤ buffer.length) : checkPasses buffer = true ↔
    (crc (buffer.take (buffer.length - 2))).toNat =
      256 * (buffer.getD (buffer.length - 2) 0#8).toNat + (buffer.getD (buffer.length - 1) 0#8).toNat := by
  have last := field_two (bs := buffer) (off := buffer.length - 2) (by omega)
  rw [field, slice, List.take_of_length_le (by rw [List.length_drop]; omega),
    show buffer.length - 2 + 1 = buffer.length - 1 by omega] at last
  rw [checkPasses, decide_eq_true_iff, last]

/-- The frame a buffer holds, with the instant of its last character (R152). -/
def frameOf (r : Receiver) : ReceivedFrame :=
  ⟨r.buffer.headD 0#8, (r.buffer.drop 1).take (r.buffer.length - 3), r.lastCharacter⟩

/-- The receive side after idle has found a good frame with room in the queue (R153, R155). -/
def accepted (s : State) : Receiver :=
  if s.planner.energy = .lean then
    { s.rx with
      state := .hunt, buffer := [], queue := s.rx.queue ++ [frameOf s.rx], mode := .listen
      quietTimer := some (s.elapsed + 1000 * s.loader.loaded.quietInterval) }
  else { s.rx with state := .hunt, buffer := [], queue := s.rx.queue ++ [frameOf s.rx] }

theorem heardFrame_of_lean {s : State} (lean : s.planner.energy = .lean) : s.heardFrame =
    { s with rx := { s.rx with mode := .listen, quietTimer := some (s.after s.loader.loaded.quietInterval) } } :=
  if_pos lean

theorem heardFrame_of_not_lean {s : State} (lean : s.planner.energy ≠ .lean) : s.heardFrame = s := if_neg lean

theorem offerToQueue_accepts {s : State} (room : s.rx.queue.length < 4) :
    ((s.receiveAs .hunt []).offerToQueue (frameOf s.rx)).rx = accepted s ∧
      Counted [.frameReceived] s ((s.receiveAs .hunt []).offerToQueue (frameOf s.rx)) := by
  have offered : (s.receiveAs .hunt []).offerToQueue (frameOf s.rx) = State.heardFrame (State.count
      { s with rx := { s.rx with state := .hunt, buffer := [], queue := s.rx.queue ++ [frameOf s.rx] } }
      .frameReceived) := if_pos room
  rw [offered]
  unfold accepted
  by_cases lean : s.planner.energy = .lean
  · rw [if_pos lean, heardFrame_of_lean (by exact lean)]
    exact ⟨rfl, counted_one rfl⟩
  · rw [if_neg lean, heardFrame_of_not_lean (by exact lean)]
    exact ⟨rfl, counted_one rfl⟩

/-- The frame judged in its three steps (R152, R153). -/
theorem judgeFrame_eq (s : State) :
    s.judgeFrame.rx = (if verdict s.rx.buffer s.rx.queue.length = .frameReceived then accepted s
      else { s.rx with state := .hunt, buffer := [] }) ∧
      Counted [verdict s.rx.buffer s.rx.queue.length] s s.judgeFrame := by
  have refused (c : Counter) (hc : c ≠ .frameReceived) (verdict_eq : verdict s.rx.buffer s.rx.queue.length = c)
      (judged : s.judgeFrame = (s.receiveAs .hunt []).count c) :
      s.judgeFrame.rx = (if verdict s.rx.buffer s.rx.queue.length = .frameReceived then accepted s
        else { s.rx with state := .hunt, buffer := [] }) ∧
      Counted [verdict s.rx.buffer s.rx.queue.length] s s.judgeFrame := by
    rw [verdict_eq, judged, if_neg hc]
    exact ⟨rfl, counted_one rfl⟩
  by_cases short : s.rx.buffer.length < 4
  · exact refused .malformed nofun (if_pos short) (if_pos short)
  by_cases check : checkPasses s.rx.buffer = true
  case neg =>
    refine refused .checkFailure nofun ?_ ?_
    · rw [checkPasses_iff (by omega)] at check
      simp only [verdict, if_neg short, if_pos check]
    · simp only [State.judgeFrame, if_neg short, check, Bool.not_false, if_true]
  have passes := (checkPasses_iff (by omega)).1 check
  have body : (bufferBody s.rx.buffer).length = s.rx.buffer.length - 3 := by
    simp only [bufferBody, List.length_take, List.length_drop]; omega
  by_cases fits : s.rx.buffer.length - 3 ∈ bodyLengths (headerKind (s.rx.buffer.headD 0#8))
  case neg =>
    refine refused .malformed nofun ?_ ?_
    · simp only [verdict, if_neg short, ne_eq, passes, not_true_eq_false, if_false, fits, not_false_iff, if_true]
    · have misfit : lengthFits (headerKind (bufferHeader s.rx.buffer)) (bufferBody s.rx.buffer).length = false := by
        rwa [← Bool.not_eq_true, lengthFits_iff, body]
      simp only [State.judgeFrame, if_neg short, check, Bool.not_true, Bool.false_eq_true, if_false, misfit,
        Bool.not_false, if_true]
  have judged : s.judgeFrame = (s.receiveAs .hunt []).offerToQueue (frameOf s.rx) := by
    have fit : lengthFits (headerKind (bufferHeader s.rx.buffer)) (bufferBody s.rx.buffer).length = true := by
      rwa [lengthFits_iff, body]
    simp only [State.judgeFrame, if_neg short, check, Bool.not_true, Bool.false_eq_true, if_false, fit]
    rfl
  by_cases room : s.rx.queue.length < 4
  · have good : verdict s.rx.buffer s.rx.queue.length = .frameReceived := by
      simp only [verdict, if_neg short, ne_eq, passes, not_true_eq_false, if_false, fits, if_pos room]
    rw [good, if_pos rfl, judged]
    exact offerToQueue_accepts room
  · refine refused .overrun nofun ?_ ?_
    · simp only [verdict, if_neg short, ne_eq, passes, not_true_eq_false, if_false, fits, if_neg room]
    · rw [judged]
      exact if_neg room

/-- The mode and quiet timer of a good frame keep radio power wanted: in LEAN the mode becomes LISTEN (R155). -/
theorem accepted_radioWanted {s u : State} (h : s.radioWanted = true) (loader : u.loader = s.loader)
    (rx : u.rx = accepted s) (send : u.tx.state = s.tx.state) (later : s.elapsed ≤ u.elapsed) :
    u.radioWanted = true := by
  by_cases lean : s.planner.energy = .lean
  · rw [radioWanted_iff, rx, accepted, if_pos lean]
    exact ⟨by simpa [State.started, loader] using (radioWanted_iff.1 h).1, nofun⟩
  · rw [accepted, if_neg lean] at rx
    exact radioWanted_of_later h loader (by rw [rx]) (by rw [rx]) (by rw [rx]) (by rw [send]; exact id) later

/-- Settles O18: idle in each receive state, then the window. -/
theorem idleJudgesTheFrame : Obligations.IdleJudgesTheFrame := by
  intro s dt started hearing wanted
  have run : exec (.idle dt) s = .next (s.advance dt).takeIdle.settleRadio := by
    simp [exec, execIdle, started, hearing]
  have power : (s.advance dt).takeIdle.rx.radio = true := by
    simp only [State.hearing, Bool.and_eq_true] at hearing
    simpa using hearing.1
  have later : (s.advance dt).radioWanted = true :=
    radioWanted_of_later wanted (by simp) (by simp) (by simp) (by simp) (by simp) (by simp)
  have settled (still : (s.advance dt).takeIdle.radioWanted = true) {cs : List Counter} {r : Receiver}
      (rx : (s.advance dt).takeIdle.rx = r) (counted : Counted cs (s.advance dt) (s.advance dt).takeIdle) :
      ∃ t, exec (.idle dt) s = .next t ∧ OnlyChanges [.elapsed, .clock, .rx, .counters] s t ∧ Passes dt s t ∧
        t.rx = letGo t.elapsed s.tx.state r ∧ Counted cs s t := by
    rw [settleRadio_of_wanted power still] at run
    refine ⟨_, run, by simp [onlyChanges_iff], ⟨by simp, by simp; rfl⟩, by simp [rx], ?_⟩
    exact counted_congr counted rfl rfl
  cases state : s.rx.state
  case hunt =>
    have idle : (s.advance dt).takeIdle = s.advance dt := by simp [State.takeIdle, state]
    exact settled (by rwa [idle]) (by rw [idle]; simp) (by rw [idle]; exact counted_nil rfl)
  case skip =>
    have idle : (s.advance dt).takeIdle = (s.advance dt).receiveAs .hunt [] := by simp [State.takeIdle, state]
    exact settled (idle ▸ later) (by rw [idle]; rfl) (by rw [idle]; exact counted_nil rfl)
  case assemble =>
    have idle : (s.advance dt).takeIdle = (s.advance dt).judgeFrame := by simp [State.takeIdle, state]
    obtain ⟨rx, counted⟩ := judgeFrame_eq (s.advance dt)
    rw [← idle] at rx counted
    by_cases good : verdict s.rx.buffer s.rx.queue.length = .frameReceived
    · rw [if_pos (by exact good)] at rx
      have answer := settled (accepted_radioWanted later (by simp) rx (by simp) (by simp)) rx counted
      by_cases lean : s.planner.energy = .lean
      · have heard : accepted (s.advance dt) = _ := if_pos (by exact lean)
        simpa [good, lean, heard, frameOf] using answer
      · have heard : accepted (s.advance dt) = _ := if_neg (by exact lean)
        simpa [good, lean, heard, frameOf] using answer
    · rw [if_neg (by exact good)] at rx
      have still : (s.advance dt).takeIdle.radioWanted = true :=
        radioWanted_of_later later (by simp) (by rw [rx]) (by rw [rx]) (by rw [rx]) (by simp) (by simp)
      simpa [good] using settled still rx counted

/-! ### Timers and windows (O19, O20) -/

/-- A timer's expiry on a started part. -/
theorem onTimer_of_some {s : State} {timer : Option Nat} {u : Nat} {f : State → State} (started : s.started = true)
    (timer_eq : timer = some u) : s.onTimer timer f = f (s.advanceTo u) := by
  rw [timer_eq, onTimer_some started]

theorem advanceTo_passes (s : State) (u : Nat) : Passes (u - s.elapsed) s (s.advanceTo u) := ⟨rfl, rfl⟩

theorem advanceTo_comesAt (s : State) (u : Nat) : (s.advanceTo u).elapsed = comesAt s u := advanceTo_elapsed s u

/-- Settles O19: each timer's effect from the instant it runs out at. -/
theorem quietScanAndAgingTimers : Obligations.QuietScanAndAgingTimers := by
  intro s u started
  refine ⟨fun timer => ⟨_, congrArg Host.Outcome.next (onTimer_of_some started timer), ?_, advanceTo_passes s u, rfl⟩,
    fun timer => ⟨_, congrArg Host.Outcome.next (onTimer_of_some started timer), ?_, advanceTo_passes s u, ?_⟩,
    fun timer => ⟨_, congrArg Host.Outcome.next (onTimer_of_some started timer), ?_, advanceTo_comesAt s u, ?_, ?_⟩⟩
  · simp [onlyChanges_iff]
  · simp [onlyChanges_iff]
  · simp [State.startConversion, State.after, comesAt]
  · simp [onlyChanges_iff]
  · have seven : (min 7 (s.clock.stratum + 1) < 7) ↔ s.clock.stratum + 1 < 7 := by omega
    simp only [← advanceTo_comesAt, ← seven]
    rfl
  · exact counted_congr (counted_one rfl) (s := s.advanceTo u) (by simp) rfl

/-- A window at the end of its 2 s is a held one, which closes at once where no frame stands in ASSEMBLE. -/
theorem endWindow_settleRadio (s : State) :
    s.endWindow.settleRadio = State.settleRadio { s with rx := { s.rx with window := .held } } := by
  unfold State.settleRadio State.endWindow
  by_cases frame : s.rx.state = .assemble
  · rw [if_pos frame]
  · have closes : State.closeHeld { s with rx := { s.rx with window := .held } } =
        { s with rx := { s.rx with window := .closed } } := if_pos ⟨rfl, frame⟩
    rw [if_neg frame, closes]
    exact congrArg _ (closeHeld_of_not fun h => nomatch h.1)

/-- Settles O20: a running window keeps radio power wanted, and one past its 2 s is a held one that may close at once. -/
theorem sniffWindowsOpenAndClose : Obligations.SniffWindowsOpenAndClose := by
  intro s u started
  refine ⟨fun timer => ?_, fun window radio => ?_⟩
  · have run : exec .sniffTimerExpiry s = .next (s.advanceTo u).openWindow.settleRadio :=
      congrArg Host.Outcome.next (onTimer_of_some started timer)
    have open_ : (s.advanceTo u).openWindow.rx = { s.rx with
        window := .running (comesAt s u + 2000)
        sniffTimer := some (comesAt s u + 1000 * s.loader.loaded.sniffPeriod) } := by
      simp [State.openWindow, State.after, comesAt]
    have wanted : (s.advanceTo u).openWindow.radioWanted = true := by
      rw [radioWanted_iff, open_]
      exact ⟨by simpa [State.started] using started, fun _ => .inl nofun⟩
    have held : ¬ ((s.advanceTo u).openWindow.rx.window = .held ∧ (s.advanceTo u).openWindow.rx.state ≠ .assemble) := by
      rw [open_]
      exact fun h => nomatch h.1
    have settled : (s.advanceTo u).openWindow.settleRadio = _ :=
      (congrArg State.followRadio (closeHeld_of_not held)).trans (followRadio_of_wanted wanted)
    rw [settled] at run
    refine ⟨_, run, by simp [onlyChanges_iff], ⟨by simp; omega, by simp; rfl⟩, by simp [open_], ?_⟩
    exact counted_congr (counted_ite (p := (s.advanceTo u).rx.window = .closed) (s.advanceTo u)) (by simp) rfl
  · have run : exec .windowClose s = .next (s.advanceTo u).endWindow.settleRadio :=
      congrArg Host.Outcome.next (onTimer_of_some started (by rw [window]; rfl))
    rw [endWindow_settleRadio, settleRadio_of_wanted (by exact radio) (radioWanted_iff.2
      ⟨by simpa [State.started] using started, fun _ => .inl (by simp)⟩)] at run
    exact ⟨_, run, by simp [onlyChanges_iff], advanceTo_passes s u, by simp [comesAt]⟩

end Sys2Proof.Proofs
end

section
/-! PROOF. The send side: arbitration, placing, and what every command of the channel port leaves of the receive side
(O23, O24, O30, O57, O58). -/

namespace Sys2Proof.Proofs

open Sys2Proof Sys2Proof.Machine Sys2Proof.Claims

/-! ### What the end of a command leaves of receive side and panel port -/

/-- The window and radio power brought into line, and nothing else of the receive side. -/
theorem rxSettles_settleRadio {s v : State} {queue : List ReceivedFrame} (started : v.started = true)
    (rx : v.rx = { s.rx with queue := queue }) : RxSettles queue s v.settleRadio := by
  constructor
  · have settled : v.settleRadio.rx = { v.rx with
        state := v.settleRadio.rx.state, buffer := v.settleRadio.rx.buffer, window := v.settleRadio.rx.window,
        radio := v.settleRadio.rx.radio } := by
      cases h : v.settleRadio.rx
      have frame := State.settleRadio_frame v
      simp only [h] at frame
      simp [frame]
    exact settled.trans (by rw [rx])
  · intro mode radio window
    have wanted : v.radioWanted = true := radioWanted_iff.2 ⟨started, fun sniff => absurd (by rw [rx] at sniff; exact sniff) mode⟩
    have open_ : ¬ (v.rx.window = .held ∧ v.rx.state ≠ .assemble) := by
      rw [rx]
      exact fun h => window h.1
    rw [State.settleRadio, closeHeld_of_not open_, followRadio_of_wanted wanted, rx, ← radio]

theorem rxSettles_finish {s v : State} {queue : List ReceivedFrame} (started : v.started = true)
    (rx : v.rx = { s.rx with queue := queue }) : RxSettles queue s v.finish :=
  rxSettles_settleRadio (v := v.servePort) (by simpa [State.started] using started) (by simpa using rx)

/-- The port looks at what is waiting, and nothing else of the engine (R123). -/
theorem portServes_servePort {s v : State} (engine : v.engine = s.engine) : PortServes s v.servePort := by
  constructor
  · have served : v.servePort.engine = { v.engine with
        port := v.servePort.engine.port, readRequest := v.servePort.engine.readRequest,
        phaseDeadline := v.servePort.engine.phaseDeadline, readDeadline := v.servePort.engine.readDeadline,
        commands := v.servePort.engine.commands } := by
      cases h : v.servePort.engine
      have frame := State.servePort_frame v
      simp only [h] at frame
      simp [frame]
    exact served.trans (by rw [engine])
  · intro busy
    rw [State.servePort, if_neg (by rwa [engine]), engine]

theorem portServes_finish {s v : State} (engine : v.engine = s.engine) : PortServes s v.finish := by
  have served := portServes_servePort engine
  simpa [PortServes, State.finish] using served

/-! ### Arbitration (R161) -/

/-- The fragment a record offers (R60). -/
theorem fragmentFrame_eq (s : State) (p : Publication) : fragmentFrame s p = fragmentAt s p := by
  have count (runs : List Run) : fragmentCount runs = fragmentsOf runs := by
    simp [fragmentCount, fragmentsOf]
  have head (tag : Nat) : header .sheet (routeGroup tag) = sheetHeader tag := by
    simp [header, sheetHeader, routeGroup, Kind.code]
  simp only [fragmentFrame, fragmentAt, count, head]

/-- The send side after a pick. -/
def Pick.granted (now : Nat) (p : Pick) : Sender := grantTo p.tx p.source p.frame now

theorem pickRelay_granted (s : State) (now : Nat) : s.pickRelay.map (Pick.granted now) = relayGrant s.tx now := by
  unfold State.pickRelay relayGrant
  split <;> simp_all [Pick.granted]

theorem pickPublication_granted (s : State) (now : Nat) :
    s.pickPublication.map (Pick.granted now) = publicationGrant s s.tx now := by
  have first : s.sheets.publications.find? (·.isSending) =
      (s.sheets.publications.filter fun p => decide (p.state = .sending)).head? := List.head?_filter.symm
  have served (h : s.planner.energy = .ample ∨ s.planner.energy = .lean) : s.pickPublication.map (Pick.granted now) =
      (s.sheets.publications.filter fun p => decide (p.state = .sending)).head?.bind fun p =>
        (fragmentAt s p).map fun f =>
          grantTo { s.tx with pointer := .relay } (.publication p.slot p.day p.version p.made) f now := by
    rw [State.pickPublication, if_pos h, first, Option.map_bind]
    refine congrArg _ (funext fun p => ?_)
    simp [fragmentFrame_eq, Pick.granted, Function.comp_def]
  unfold publicationGrant
  cases energy : s.planner.energy
  case ample =>
    rw [served (.inl energy)]
    cases s.sheets.publications.filter fun p => decide (p.state = .sending) <;> rfl
  case lean =>
    rw [served (.inr energy)]
    cases s.sheets.publications.filter fun p => decide (p.state = .sending) <;> rfl
  case scarce => simp [State.pickPublication, energy]
  case dormant => simp [State.pickPublication, energy]

theorem pickBeacon_granted (s : State) (now : Nat) : s.pickBeacon.map (Pick.granted now) =
    if s.planner.energy = .dormant then none
    else if s.tx.clockWaiting then some (grantTo s.tx .clock ⟨0#8, []⟩ now)
    else s.tx.offerWaiting.map fun f => grantTo s.tx .offer f now := by
  unfold State.pickBeacon
  split_ifs
  · rfl
  · rfl
  · simp [Option.map_map, Pick.granted, Function.comp_def]

/-- The first of some choices that is one, after a change of each. -/
theorem orElse_map {α β : Type} (f : α → β) (a b : Option α) : (a <|> b).map f = (a.map f <|> b.map f) := by
  cases a <;> rfl

theorem firstChoice_cons {α : Type} (a : Option α) (as : List (Option α)) (d : α) :
    ((a :: as).filterMap id).headD d = a.getD ((as.filterMap id).headD d) := by
  cases a <;> rfl

theorem orElse_getD {α : Type} (a b : Option α) (d : α) : (a <|> b).getD d = a.getD (b.getD d) := by
  cases a <;> rfl

/-- An IDLE send side grants the first source that has a frame, in the order of R161. -/
theorem pick_granting (s : State) (now : Nat) : (s.pick.map (Pick.granted now)).getD s.tx = granting s s.tx now := by
  have reply : (s.tx.reply.map fun f => (⟨.reply, f, s.tx⟩ : Pick)).map (Pick.granted now) =
      s.tx.reply.map fun f => grantTo s.tx .reply f now := by
    cases s.tx.reply <;> rfl
  simp only [State.pick, orElse_map, orElse_getD, reply, pickBeacon_granted]
  unfold granting State.pickRotation
  simp only [firstChoice_cons]
  cases s.tx.pointer <;>
    simp only [orElse_map, orElse_getD, pickRelay_granted, pickPublication_granted, firstChoice_cons] <;> rfl

/-- Arbitration as R161 gives it. -/
theorem arbitrate_eq (s : State) : s.arbitrate = { s with tx := arbitrated s s.tx s.elapsed } := by
  unfold State.arbitrate arbitrated
  split
  · rw [← pick_granting]
    cases s.pick <;> rfl
  · rfl

theorem arbitrate_of_busy {s : State} (busy : s.tx.state ≠ .idle) : s.arbitrate = s := if_neg busy

/-- Arbitration looks at energy state, sheets and loaded values only. -/
theorem arbitrated_congr {s t : State} (energy : t.planner.energy = s.planner.energy) (sheets : t.sheets = s.sheets)
    (loader : t.loader = s.loader) (tx : Sender) (now : Nat) : arbitrated t tx now = arbitrated s tx now := by
  simp only [arbitrated, granting, publicationGrant, fragmentAt, energy, sheets, loader]

theorem arbitrate_tx_eq {s t : State} (energy : t.planner.energy = s.planner.energy) (sheets : t.sheets = s.sheets)
    (loader : t.loader = s.loader) : s.arbitrate.tx = arbitrated t s.tx s.elapsed := by
  rw [arbitrate_eq, arbitrated_congr energy sheets loader]

/-! ### Counting at the end of a command -/

/-- Where radio power is on only as long as it is wanted, bringing it into line counts nothing. -/
theorem settleRadio_counters {s : State} (h : s.rx.radio = true → s.radioWanted = true) :
    s.settleRadio.counters = s.counters := by
  cases radio : s.rx.radio
  case true => rw [settleRadio_of_wanted radio (h radio)]
  case false =>
    have off : s.closeHeld.rx.radio = false ∧ s.closeHeld.counters = s.counters := by
      unfold State.closeHeld
      split <;> exact ⟨radio, rfl⟩
    rw [State.settleRadio, State.followRadio, off.1]
    exact off.2

/-- From a sound state, with the receive side but for its queue as it was and no frame given up. -/
theorem settleRadio_counters_of_sound {s v : State} {queue : List ReceivedFrame} (sound : s.RadioSound)
    (loader : v.loader = s.loader) (rx : v.rx = { s.rx with queue := queue })
    (send : s.tx.state ≠ .idle → v.tx.state ≠ .idle) (later : s.elapsed ≤ v.elapsed) :
    v.settleRadio.counters = v.counters :=
  settleRadio_counters fun radio => radioWanted_of_later (sound.1 (by rw [rx] at radio; exact radio)) loader
    (by rw [rx]) (by rw [rx]) (by rw [rx]) send later

theorem finish_counters_of_sound {s v : State} {queue : List ReceivedFrame} (sound : s.RadioSound)
    (loader : v.loader = s.loader) (rx : v.rx = { s.rx with queue := queue })
    (send : s.tx.state ≠ .idle → v.tx.state ≠ .idle) (later : s.elapsed ≤ v.elapsed) :
    v.finish.counters = v.counters := by
  have settled := settleRadio_counters_of_sound (v := v.servePort) sound (by simpa using loader) (by simpa using rx)
    (by simpa using send) (by simpa using later)
  rw [State.finish, settled]
  simp

/-! ### Beacon and offer timer (O23, O24) -/

/-- The jitter of a restarted timer (R54, R74). -/
theorem jittered_eq (s : State) (interval : Nat) : s.jittered interval = redrawn interval (lfsrSteps 16 s.tx.lfsr) := by
  simp only [State.jittered, State.drawValue, State.drawn, redrawn]
  omega

/-- The CLOCK frame placed (R74, R159). -/
theorem placeClock_eq (s : State) :
    s.placeClock = { (if s.tx.clockWaiting then s.count .beaconReplaced else s) with
      tx := arbitrated s { s.tx with clockWaiting := true } s.elapsed } := by
  unfold State.placeClock
  rw [arbitrate_eq]
  split <;> rfl

/-- The OFFER placed (R55, R159). -/
theorem placeOffer_eq (s : State) (f : SendFrame) :
    s.placeOffer f = { (if s.tx.offerWaiting.isSome then s.count .beaconReplaced else s) with
      tx := arbitrated s { s.tx with offerWaiting := some f, granted := carryGrant s.tx f } s.elapsed } := by
  unfold State.placeOffer
  rw [arbitrate_eq]
  split <;> rfl

theorem granting_busy {s : State} {tx : Sender} {now : Nat} (busy : tx.state ≠ .idle) :
    (arbitrated s tx now).state ≠ .idle := by
  rw [arbitrated, if_neg busy]
  exact busy

/-- What a beacon slot's frame placed after other cases comes to: the counts, the receive side and the send side. -/
theorem placed_settles {s v w : State} {cs : List Counter} {p : Prop} [Decidable p] {tx : Sender} {now : Nat}
    (sound : s.RadioSound) (started : s.started = true) (loader : v.loader = s.loader) (rx : v.rx = s.rx)
    (later : s.elapsed ≤ v.elapsed) (instant : v.elapsed = now) (busy : s.tx.state ≠ .idle → tx.state ≠ .idle) (counted : Counted cs s v)
    (placed : w = { (if p then v.count .beaconReplaced else v) with tx := arbitrated v tx v.elapsed }) :
    Counted (cs ++ if p then [.beaconReplaced] else []) s w.settleRadio ∧ RxSettles s.rx.queue s w.settleRadio ∧
      w.settleRadio.tx = arbitrated w.settleRadio tx now := by
  subst instant
  have same : w.loader = v.loader ∧ w.rx = v.rx ∧ w.elapsed = v.elapsed ∧ w.planner = v.planner ∧ w.sheets = v.sheets ∧
      w.tx = arbitrated v tx v.elapsed ∧ w.counters = (if p then v.count .beaconReplaced else v).counters := by
    rw [placed]
    split <;> exact ⟨rfl, rfl, rfl, rfl, rfl, rfl, rfl⟩
  obtain ⟨wloader, wrx, welapsed, wplanner, wsheets, wtx, wcounters⟩ := same
  have counters := settleRadio_counters_of_sound (v := w) (queue := s.rx.queue) sound (wloader.trans loader)
    (wrx.trans rx) (fun h => by rw [wtx]; exact granting_busy (busy h)) (by rw [welapsed]; exact later)
  refine ⟨?_, ?_, ?_⟩
  · exact counted_congr (counted_trans counted (counted_ite v)) rfl (counters.trans wcounters)
  · exact rxSettles_settleRadio (by rw [State.started, wloader, loader]; exact started) (wrx.trans rx)
  · rw [arbitrated_congr (s := v) (by simp [wplanner]) (by simp [wsheets]) (by simp [wloader])]
    simpa using wtx

/-- Settles O23: the redrawn timer, then the CLOCK frame placed or skipped. -/
theorem beaconTimerPlacesAClock : Obligations.BeaconTimerPlacesAClock := by
  intro s u started sound timer
  have run : exec .beaconTimerExpiry s = .next (s.advanceTo u).startBeacon.beaconPlace :=
    congrArg Host.Outcome.next (onTimer_of_some started timer)
  have clock : (s.advanceTo u).startBeacon.clock = { clockAfter s.clock (u - s.elapsed) with
      beaconTimer := some (comesAt s u +
        1000 * redrawn s.loader.loaded.clockInterval (lfsrSteps 16 s.tx.lfsr)) } := by
    simp only [State.startBeacon, jittered_eq, State.after, advanceTo_comesAt]
    rfl
  have elapsed : (s.advanceTo u).startBeacon.elapsed = comesAt s u := by simp [comesAt]
  refine ⟨_, run, by simp [onlyChanges_iff], by simpa using elapsed, by simpa using clock, ?_⟩
  by_cases guard : s.clock.stratum ≤ 6 ∧ s.planner.energy ≠ .dormant
  · have placed : (s.advanceTo u).startBeacon.beaconPlace =
        (((s.advanceTo u).startBeacon.count .clockBuilt).placeClock).settleRadio := if_pos (by simpa using guard)
    rw [if_pos guard, placed]
    have settled := placed_settles (v := (s.advanceTo u).startBeacon.count .clockBuilt) (cs := [.clockBuilt])
      (tx := { s.tx with lfsr := lfsrSteps 16 s.tx.lfsr, clockWaiting := true }) sound started (by simp) (by simp)
      (by simp) elapsed id (counted_one rfl) (placeClock_eq _)
    exact settled
  · have skipped : (s.advanceTo u).startBeacon.beaconPlace = (s.advanceTo u).startBeacon.count .clockSkipped :=
      if_neg (by simpa using guard)
    rw [if_neg guard, skipped]
    exact ⟨counted_one rfl, by simp, rfl⟩

theorem offerFrameNow_eq (s : State) : s.offerFrameNow = offerOf s := rfl

theorem carryGrant_eq (tx : Sender) (f : SendFrame) : carryGrant tx f = match tx.granted with
    | some ⟨.offer, g, at_⟩ => some ⟨.offer, if tx.state = .access then f else g, at_⟩
    | x => x := by
  unfold carryGrant
  rcases tx.granted with _ | ⟨source, g, at_⟩
  · rfl
  · by_cases access : tx.state = .access <;> cases source <;> simp [access]

/-- Settles O24: the redrawn timer, then the OFFER placed or skipped. -/
theorem offerTimerPlacesAnOffer : Obligations.OfferTimerPlacesAnOffer := by
  intro s u started sound timer valid
  have run : exec .offerTimerExpiry s = .next (s.advanceTo u).restartOffers.offerPlace :=
    congrArg Host.Outcome.next (onTimer_of_some started timer)
  have sheets : (s.advanceTo u).restartOffers.sheets = { s.sheets with
      offerTimer := some (comesAt s u +
        1000 * redrawn s.loader.loaded.offerInterval (lfsrSteps 16 s.tx.lfsr)) } := by
    simp only [State.restartOffers, jittered_eq, State.after, advanceTo_comesAt]
    rfl
  have elapsed : (s.advanceTo u).restartOffers.elapsed = comesAt s u := by simp [comesAt]
  refine ⟨_, run, by simp [onlyChanges_iff], ⟨by simp; omega, by simp; rfl⟩, by simpa using sheets, ?_⟩
  by_cases dormant : s.planner.energy = .dormant
  · have skipped : (s.advanceTo u).restartOffers.offerPlace = (s.advanceTo u).restartOffers.count .offerSkipped :=
      if_pos (by simpa using dormant)
    rw [if_neg (not_not.2 dormant), skipped]
    exact ⟨counted_one rfl, by simp, rfl⟩
  · have placed : (s.advanceTo u).restartOffers.offerPlace =
        (((s.advanceTo u).restartOffers.count .offerBuilt).placeOffer (offerOf s)).settleRadio :=
      (if_neg (by simpa using dormant)).trans (if_pos (by simpa using valid))
    rw [if_pos dormant, placed]
    have settled := placed_settles (v := (s.advanceTo u).restartOffers.count .offerBuilt) (cs := [.offerBuilt])
      (tx := { s.tx with
        lfsr := lfsrSteps 16 s.tx.lfsr, offerWaiting := some (offerOf s), granted := carryGrant s.tx (offerOf s) })
      sound started (by simp) (by simp) (by simp) elapsed id (counted_one rfl) (placeOffer_eq _ _)
    rwa [carryGrant_eq] at settled

/-! ### The end of a holdoff (O30) -/

theorem holdoffEnd_eq_some {p : Publication} {u : Nat} : p.holdoffEnd = some u ↔ p.state = .holdoff u := by
  unfold Publication.holdoffEnd
  cases p.state <;> simp

/-- The record whose holdoff ends first is one of the list. -/
theorem firstHoldoff_mem {l : List Publication} {i u : Nat} (h : firstHoldoff l = some (i, u)) :
    ∃ p ∈ l, p.state = .holdoff u := by
  induction l generalizing i u with
  | nil => cases h
  | cons p l ih =>
    have later {j v : Nat} (hj : (firstHoldoff l).map (fun x => (x.1 + 1, x.2)) = some (j, v)) :
        ∃ q ∈ p :: l, q.state = .holdoff v := by
      obtain ⟨⟨k, w⟩, hk, hkv⟩ := Option.map_eq_some_iff.1 hj
      cases hkv
      obtain ⟨q, hq, hv⟩ := ih hk
      exact ⟨q, .tail _ hq, hv⟩
    unfold firstHoldoff at h
    split at h
    next => exact later h
    next t here _ =>
      cases h
      exact ⟨p, .head _, holdoffEnd_eq_some.1 here⟩
    next t j v here hj =>
      split at h
      · cases h
        exact ⟨p, .head _, holdoffEnd_eq_some.1 here⟩
      · cases h
        exact later hj

/-- Of equal ends the earlier record's comes first. -/
theorem firstHoldoff_eq {before after : List Publication} {p : Publication} {u : Nat} (hp : p.state = .holdoff u)
    (earlier : ∀ q ∈ before, ∀ v, q.state = .holdoff v → u < v)
    (later : ∀ q ∈ after, ∀ v, q.state = .holdoff v → u ≤ v) :
    firstHoldoff (before ++ p :: after) = some (before.length, u) := by
  induction before with
  | nil =>
    have here := holdoffEnd_eq_some.2 hp
    rw [List.nil_append, firstHoldoff, here]
    rcases first : firstHoldoff after with _ | ⟨j, v⟩
    · rfl
    · obtain ⟨q, hq, hv⟩ := firstHoldoff_mem first
      exact if_pos (later q hq v hv)
  | cons q before ih =>
    rw [List.cons_append, firstHoldoff, ih fun x hx => earlier x (.tail _ hx)]
    rcases end_ : q.holdoffEnd with _ | v
    · rfl
    · have beyond := earlier q (.head _) v (holdoffEnd_eq_some.1 end_)
      exact if_neg (by omega)

/-- Settles O30: the record that ends first, then the grant. -/
theorem holdoffsEnd : Obligations.HoldoffsEnd := by
  intro s before after p u started sound list hp earlier later
  have first : firstHoldoff s.sheets.publications = some (before.length, u) :=
    list ▸ firstHoldoff_eq hp earlier later
  have run : exec .holdoffEnd s =
      .next (((s.advanceTo u).releaseHoldoff before.length).arbitrate).settleRadio := by
    simp [exec, execHoldoffEnd, started, first]
  have sheets : ((s.advanceTo u).releaseHoldoff before.length).sheets =
      { s.sheets with publications := before ++ { p with state := .sending } :: after } := by
    simp [State.releaseHoldoff, list, List.modify_eq_take_cons_drop]
  refine ⟨_, run, ?_, ⟨by simp; omega, by simp; rfl⟩, rxSettles_settleRadio (by simpa [State.started] using started)
    (by simp), by simpa using sheets, ?_⟩
  · have counters := settleRadio_counters_of_sound (s := s) (queue := s.rx.queue)
      (v := ((s.advanceTo u).releaseHoldoff before.length).arbitrate) sound (by simp) (by simp)
      (fun busy => by rw [arbitrate_eq]; exact granting_busy (by simpa using busy)) (by simp)
    rw [onlyChanges_iff]
    simp [counters]
  · have granted := arbitrate_tx_eq (s := (s.advanceTo u).releaseHoldoff before.length)
      (t := ((s.advanceTo u).releaseHoldoff before.length).arbitrate.settleRadio) (by simp) (by simp) (by simp)
    simpa using granted

end Sys2Proof.Proofs
end

section
/-! PROOF. Channel access, the start and the end of a frame, and the service responder (O44, O57, O58). -/

namespace Sys2Proof.Proofs

open Sys2Proof Sys2Proof.Machine Sys2Proof.Claims

theorem advance_clock (s : State) (dt : Nat) : (s.advance dt).clock = clockAfter s.clock dt := rfl

theorem advance_tx (s : State) (dt : Nat) : (s.advance dt).tx = s.tx := rfl

/-! ### Counting, order apart -/

theorem counted_perm {cs ds : List Counter} {s t : State} (h : Counted cs s t) (p : cs.Perm ds) : Counted ds s t :=
  fun k hk => p.count_eq k ▸ h k hk

/-- Radio power brought into line loses a frame in ASSEMBLE at most (R151, R158). -/
theorem settleRadio_counted (s : State) : Counted (cutOff s s.settleRadio) s s.settleRadio := by
  have closed : s.closeHeld.rx.state = s.rx.state ∧ s.closeHeld.counters = s.counters := by
    unfold State.closeHeld
    split <;> exact ⟨rfl, rfl⟩
  unfold cutOff State.settleRadio State.followRadio
  by_cases off : (s.closeHeld.rx.radio && !s.closeHeld.radioWanted) = true
  · simp only [off, if_true, State.enterHunt, closed.1, and_true]
    split
    · exact counted_one (congrArg (fun k => Counters.add k .truncated 1) closed.2)
    · exact counted_nil closed.2
  · simp only [off, Bool.false_eq_true, if_false]
    have stays : ¬ (s.rx.state = .assemble ∧ s.closeHeld.rx.state = .hunt) := by
      rw [closed.1]
      rintro ⟨h, h'⟩
      cases h.symm.trans h'
    rw [if_neg stays]
    exact counted_nil closed.2

/-! ### Characters on the line (R148, R165) -/

theorem toNat_append_eq {m n : Nat} (x : BitVec m) (y : BitVec n) : (x ++ y).toNat = x.toNat * 2 ^ n + y.toNat := by
  rw [BitVec.toNat_append, ← Nat.shiftLeft_add_eq_or_of_lt y.isLt, Nat.shiftLeft_eq]

theorem lineCharacter_eq (mark : Bool) (b : Byte) : lineCharacter mark b = lineBits mark b := by
  have hb := b.isLt
  apply BitVec.eq_of_toNat_eq
  have appended : (1#1 ++ BitVec.ofBool mark ++ b ++ 0#1).toNat =
      1024 + (if mark then 512 else 0) + 2 * b.toNat := by
    simp only [toNat_append_eq]
    cases mark <;> simp <;> omega
  rw [lineCharacter, appended, lineBits, BitVec.toNat_ofNat, Nat.mod_eq_of_lt]
  cases mark <;> simp <;> omega

theorem checkBytes_eq (h : Byte) (body : List Byte) : checkBytes h body =
    [BitVec.ofNat 8 ((crc (h :: body)).toNat / 256), BitVec.ofNat 8 ((crc (h :: body)).toNat % 256)] := by
  have low (n : Nat) : BitVec.ofNat 8 (n % 256) = BitVec.ofNat 8 n := by
    apply BitVec.eq_of_toNat_eq
    simp
  simp [checkBytes, bytesOf, low]

theorem frameCharacters_eq (f : SendFrame) : frameCharacters f = lineBits true f.header ::
    (f.body ++ [BitVec.ofNat 8 ((crc (f.header :: f.body)).toNat / 256),
      BitVec.ofNat 8 ((crc (f.header :: f.body)).toNat % 256)]).map (lineBits false) := by
  simp [frameCharacters, checkBytes_eq, lineCharacter_eq]

/-! ### The start of a frame (O57) -/

theorem enterHunt_counters (s : State) :
    Counted (if s.rx.state = .assemble then [.truncated] else []) s s.enterHunt := by
  unfold State.enterHunt
  split
  · exact counted_one rfl
  · exact counted_nil rfl

theorem enterHunt_rx (s : State) : s.enterHunt.rx = { s.rx with state := .hunt, buffer := [] } := rfl

/-- While a frame is on the air radio power stays on, and a window held for a frame in ASSEMBLE has closed. -/
theorem settleRadio_onAir {s : State} (started : s.started = true) (sending : s.tx.state = .sending)
    (hunt : s.rx.state = .hunt) : s.settleRadio = { s with rx := { s.rx with
      radio := true, window := if s.rx.window = .held then .closed else s.rx.window } } := by
  have busy (w : State) (loader : w.loader = s.loader) (tx : w.tx = s.tx) : w.radioWanted = true :=
    radioWanted_iff.2 ⟨by simpa [State.started, loader] using started, fun _ => .inr (.inl (by simp [tx, sending]))⟩
  by_cases held : s.rx.window = .held
  · have closed : s.closeHeld = { s with rx := { s.rx with window := .closed } } := if_pos ⟨held, by simp [hunt]⟩
    rw [State.settleRadio, followRadio_of_wanted (busy s.closeHeld (by simp) (by simp)), closed, if_pos held]
  · rw [State.settleRadio, closeHeld_of_not (fun h => held h.1), followRadio_of_wanted (busy _ rfl rfl), if_neg held]

/-- A source told of its frame's end, and the send side back in IDLE: it arbitrates, and radio power follows. -/
theorem released_settles {s told w : State} {cs : List Counter} {tx : Sender}
    (arbitrates : w = State.arbitrate { told with tx := told.tx.release }) (started : s.started = true)
    (loader : told.loader = s.loader) (rx : told.rx = s.rx) (send : told.tx = tx) (counted : Counted cs s told) :
    RxSettles s.rx.queue s w.settleRadio ∧ w.settleRadio.sheets = told.sheets ∧
      Counted (cs ++ cutOff s w.settleRadio) s w.settleRadio ∧ SendSideEnds tx w.settleRadio := by
  have settled : w.rx = told.rx ∧ w.counters = told.counters ∧ w.loader = told.loader ∧ w.sheets = told.sheets := by
    simp [arbitrates]
  obtain ⟨wrx, wcounters, wloader, wsheets⟩ := settled
  refine ⟨rxSettles_settleRadio (by simpa [State.started, wloader, loader] using started) (wrx.trans rx),
    by simpa using wsheets, ?_, ?_⟩
  · have cut : cutOff w w.settleRadio = cutOff s w.settleRadio := by
      rw [cutOff, cutOff, wrx, rx]
    exact counted_trans counted (counted_congr (cut ▸ settleRadio_counted _) wcounters.symm rfl)
  · have idle : told.tx.release.state = .idle := rfl
    have granted := arbitrate_tx_eq (s := { told with tx := told.tx.release }) (t := w.settleRadio)
      (by simp [arbitrates]) (by simp [arbitrates]) (by simp [arbitrates])
    rw [← arbitrates, arbitrated, if_pos idle, send] at granted
    have freeing : freed tx = tx.release := rfl
    simpa [SendSideEnds, arbitrates, freeing] using granted

/-- A frame whose countdown is at 0, and what the end of the command makes of it. -/
theorem startFrame_starts {s : State} {dt : Nat} {g : Granted} {tx : Sender} (started : s.started = true)
    (sound : s.RadioSound) (busy : tx.state = .access) (granted : tx.granted = some g) :
    StartsFrame tx g s { s.advance dt with tx := tx }.startFrame.settleRadio := by
  have later : s.elapsed ≤ { s.advance dt with tx := tx }.elapsed := by simp
  unfold StartsFrame
  by_cases low : s.sense.storeLow = true
  · have waits : { s.advance dt with tx := tx }.startFrame =
        { s.advance dt with tx := { tx with stage := .storeLowWait } } := by
      simp [State.startFrame, granted, low]
    rw [if_pos low, waits]
    have counters := settleRadio_counters_of_sound (s := s) (queue := s.rx.queue)
      (v := { s.advance dt with tx := { tx with stage := .storeLowWait } }) sound (by simp) (by simp)
      (fun _ => by simp [busy]) later
    exact ⟨by simp, rxSettles_settleRadio (by simpa [State.started] using started) (by simp), counted_nil (by simpa using counters)⟩
  · rw [if_neg low]
    by_cases aged : g.source = .clock ∧ s.clock.stratum = 7
    · have withdrawn : { s.advance dt with tx := tx }.startFrame = { s.advance dt with tx := tx }.withdrawClock := by
        simp [State.startFrame, granted, low, aged]
      rw [if_pos aged, withdrawn]
      obtain ⟨rx, -, counted, ends⟩ := released_settles (s := s) (cs := [.clockWithdrawn])
        (w := { s.advance dt with tx := tx }.withdrawClock) (tx := { tx with clockWaiting := false })
        (told := State.count { s.advance dt with tx := { tx with clockWaiting := false } } .clockWithdrawn) rfl started
        (by simp) (by simp) (by simp) (counted_one rfl)
      exact ⟨rx, counted, ends⟩
    · have onAir : { s.advance dt with tx := tx }.startFrame = { s.advance dt with tx := tx }.putOnAir g := by
        simp [State.startFrame, granted, low, aged]
      have final : { s.advance dt with tx := tx }.finalFrame g = atStart s g := by
        simp [State.finalFrame, atStart, clockBody]
      rw [if_neg aged, onAir, settleRadio_onAir (by simpa [State.started] using started) rfl rfl]
      refine ⟨?_, by simp [State.putOnAir, enterHunt_rx], ?_⟩
      · simp only [State.putOnAir, final, frameCharacters_eq]
      · exact counted_congr (enterHunt_counters { s.advance dt with tx := tx }) (by simp) rfl

theorem countDown_eq (s : State) (n : Nat) : s.countDown n =
    if n = 0 then { s with tx := { s.tx with stage := .countdown, backoff := some 0 } }.startFrame
    else { s with tx := { s.tx with stage := .countdown, backoff := some n } } := rfl

/-- The send side at the end of the first stage: a backoff drawn where none has been since the grant (R163). -/
def quieted (tx : Sender) : Sender :=
  match tx.backoff with
  | none => { tx with
      stage := .countdown, lfsr := lfsrSteps 16 tx.lfsr, backoff := some ((lfsrSteps 16 tx.lfsr).toNat % 16) }
  | some n => { tx with stage := .countdown, backoff := some n }

theorem quieted_grant (tx : Sender) : (quieted tx).state = tx.state ∧ (quieted tx).granted = tx.granted := by
  unfold quieted
  split <;> exact ⟨rfl, rfl⟩

theorem endFirstStage_eq (s : State) : s.endFirstStage =
    if (quieted s.tx).backoff = some 0 then { s with tx := quieted s.tx }.startFrame
    else { s with tx := quieted s.tx } := by
  unfold State.endFirstStage quieted
  cases s.tx.backoff with
  | none =>
    have value : (s.drawValue 0 16).toNat = (lfsrSteps 16 s.tx.lfsr).toNat % 16 := by
      simp only [State.drawValue, State.drawn]
      omega
    simp only [countDown_eq, value, State.afterDraw, State.drawn, Option.some.injEq]
    split <;> simp_all
  | some n =>
    simp only [countDown_eq, Option.some.injEq]
    split <;> simp_all

/-- Settles O57: the end of the first stage, one slot, and the freeze. -/
theorem framesGainTheChannel : Obligations.FramesGainTheChannel := by
  intro s dt g started sound granted drawn quiet
  have started' : (s.advance dt).started = true := by simpa [State.started] using started
  have waits {tx : Sender} (busy : tx.state = .access) :
      RxSettles s.rx.queue s { s.advance dt with tx := tx }.settleRadio ∧
        Counted [] s { s.advance dt with tx := tx }.settleRadio := by
    have counters := settleRadio_counters_of_sound (s := s) (queue := s.rx.queue)
      (v := { s.advance dt with tx := tx }) sound (by simp) (by simp) (fun _ => by simp [busy]) (by simp)
    exact ⟨rxSettles_settleRadio (by simpa [State.started] using started) (by simp),
      counted_nil (by simpa using counters)⟩
  refine ⟨fun access stage => ?_, fun access stage n left => ?_, fun access stage => ?_, fun elsewhere => ?_⟩
  · have run : exec (.carrierQuiet dt) s = .next (s.advance dt).endFirstStage.settleRadio := by
      simp [exec, execCarrierQuiet, started', State.inStage, access, stage]
    have same : quieted s.tx = quiet := rfl
    have busy := quieted_grant s.tx
    rw [same, access, granted] at busy
    refine ⟨_, run, by simp [onlyChanges_iff], by simp [Passes, advance_clock], fun zero => ?_, fun left => ?_⟩
    · have starts : (s.advance dt).endFirstStage = { s.advance dt with tx := quiet }.startFrame := by
        rw [endFirstStage_eq, advance_tx, same, if_pos zero]
      exact starts ▸ startFrame_starts started sound busy.1 busy.2
    · have stays : (s.advance dt).endFirstStage = { s.advance dt with tx := quiet } := by
        rw [endFirstStage_eq, advance_tx, same, if_neg left]
      exact stays ▸ ⟨by simp, waits busy.1⟩
  · have run : exec (.backoffSlot dt) s = .next ((s.advance dt).countDown (n - 1)).settleRadio := by
      simp [exec, execBackoffSlot, started', State.inStage, access, stage, State.countSlot, left]
    refine ⟨_, run, by simp [onlyChanges_iff], by simp [Passes, advance_clock], fun last => ?_, fun more => ?_⟩
    · have starts : (s.advance dt).countDown (n - 1) =
          { s.advance dt with tx := { s.tx with backoff := some 0 } }.startFrame := by
        rw [countDown_eq, if_pos (by omega), advance_tx, ← stage]
      exact starts ▸ startFrame_starts started sound access granted
    · have stays : (s.advance dt).countDown (n - 1) =
          { s.advance dt with tx := { s.tx with backoff := some (n - 1) } } := by
        rw [countDown_eq, if_neg (by omega), advance_tx, ← stage]
      exact stays ▸ ⟨by simp, waits access⟩
  · have run : exec (.carrierDetectRise dt) s = .next (s.advance dt).freezeCountdown := by
      simp [exec, execCarrierDetectRise, started', State.inStage, access, stage]
    exact ⟨_, run, by simp [onlyChanges_iff], by simp [Passes, advance_clock], rfl, counted_one rfl⟩
  · have run : exec (.carrierDetectRise dt) s = .next (s.advance dt) := by
      have idle : ((s.advance dt).inStage .countdown) = false := by
        simpa [State.inStage, or_iff_not_imp_left] using elsewhere
      simp [exec, execCarrierDetectRise, started', idle]
    exact ⟨_, run, by simp [onlyChanges_iff], advance_passes s dt⟩

/-! ### The end of a frame (O58) -/

/-- A record that offered the fragment is done once its cursor has reached its sheet's fragment count (R61). -/
theorem publicationDone_advance {s : State} {p : Publication} {i : SlotIx} {day : Day} (slot : p.slot = i)
    (pday : p.day = day) : s.publicationDone p.advanceCursor =
      match (s.sheets.slots.get i).forDay day with
      | none => false
      | some sh => decide (fragmentsOf sh.runs ≤ p.cursor + 1) := by
  subst slot pday
  simp [State.publicationDone, Publication.advanceCursor, fragmentCount, fragmentsOf]
  rfl

/-- A record a fragment of which was sent, and whether it stays listed. -/
theorem fragmentSent_sheets (s : State) (i : SlotIx) (day : Day) (version : Version) (made : Nat) :
    (s.fragmentSent i day version made).sheets = { s.sheets with publications := afterSent s i day version made } := by
  have list : (s.fragmentSent i day version made).sheets.publications = afterSent s i day version made := by
    simp only [State.fragmentSent, State.countMany_frame, State.count_frame, afterSent, ← List.filterMap_eq_filter,
      List.filterMap_map]
    refine congrArg (List.filterMap · _) (funext fun p => ?_)
    by_cases own : p.isOf i day version made = true
    · have moved : p.advanceCursor.isOf i day version made = true := own
      obtain ⟨slot, pday, -⟩ := Publication.isOf_iff.1 own
      have done := publicationDone_advance (s := s) slot pday
      rcases sheet : (s.sheets.slots.get i).forDay day with _ | sh <;> simp only [sheet] at done
      · simp [Option.guard, moved, done, if_pos (Publication.isOf_iff.1 own)]
        rfl
      · by_cases reached : fragmentsOf sh.runs ≤ p.cursor + 1 <;>
          simp [Option.guard, moved, done, if_pos (Publication.isOf_iff.1 own), reached]
        rfl
    · simp [Option.guard, own, if_neg (fun h => own (Publication.isOf_iff.2 h))]
  rw [← list]
  simp [State.fragmentSent]

theorem fragmentSent_counted (s : State) (i : SlotIx) (day : Day) (version : Version) (made : Nat) :
    Counted (.fragmentPublished :: List.replicate (s.sheets.publications.length -
      (s.fragmentSent i day version made).sheets.publications.length) .publicationCompleted) s
      (s.fragmentSent i day version made) := by
  refine counted_many (cs := [.fragmentPublished]) (State.count { s with sheets := { s.sheets with
    publications := (s.fragmentSent i day version made).sheets.publications } } .fragmentPublished) (counted_one rfl) ?_
  simp only [State.fragmentSent, State.countMany_frame, State.count_frame]
  have split := List.length_eq_length_filter_add (l := s.sheets.publications.map fun p =>
    if p.isOf i day version made then p.advanceCursor else p)
    fun p => p.isOf i day version made && s.publicationDone p
  rw [List.length_map] at split
  rw [split, Nat.add_sub_cancel]

theorem fragmentAbandoned_counted (s : State) (i : SlotIx) (day : Day) (version : Version) (made : Nat) :
    Counted (if ∃ p ∈ s.sheets.publications, p.slot = i ∧ p.day = day ∧ p.version = version ∧ p.made = made then
      [.fragmentReoffered] else []) s (s.fragmentAbandoned i day version made) := by
  have listed : (s.sheets.publications.any fun p => p.isOf i day version made) = true ↔
      ∃ p ∈ s.sheets.publications, p.slot = i ∧ p.day = day ∧ p.version = version ∧ p.made = made := by
    simp only [List.any_eq_true, Publication.isOf_iff]
  simp only [State.fragmentAbandoned, listed]
  exact counted_ite s

/-- Settles O58: each source told of its frame's end, and the arbitration that follows. -/
theorem framesEnd : Obligations.FramesEnd := by
  intro s g started sound granted
  have started' (dt : Nat) : (s.advance dt).started = true := by simpa [State.started] using started
  refine ⟨fun dt sending => ?_, fun access => ?_⟩
  · have run : exec (.frameSent dt) s = .next ((s.advance dt).endFrame g).settleRadio := by
      simp [exec, execFrameSent, started', sending, State.finishSending, granted]
    have hunt := sound.2.2.2.2.2.1 sending
    have uncut (v : State) : cutOff s v = [] := by simp [cutOff, hunt]
    obtain ⟨source, f, at_⟩ := g
    refine ⟨_, run, by simp [onlyChanges_iff], by simp [Passes, advance_clock], ?_⟩
    have settled {cs : List Counter} {tx : Sender}
        (send : (((s.advance dt).count .frameSent).tellSent source).tx = tx)
        (counted : Counted cs s (((s.advance dt).count .frameSent).tellSent source)) :=
      released_settles (s := s) (w := (s.advance dt).endFrame ⟨source, f, at_⟩) rfl started (by simp) (by simp) send
        counted
    simp only [uncut, List.append_nil] at settled
    cases source
    case reply =>
      obtain ⟨rx, sheets, counted, ends⟩ := settled (tx := { s.tx with reply := none }) rfl
        (counted_of (cs := [.frameSent]) ((s.advance dt).count .frameSent) (counted_one rfl) rfl)
      exact ⟨rx, by simpa [State.tellSent] using sheets, counted, ends⟩
    case publication i day version made =>
      have told : (((s.advance dt).count .frameSent).tellSent (.publication i day version made)).sheets =
        { s.sheets with publications := afterSent s i day version made } := fragmentSent_sheets _ i day version made
      have sent := fragmentSent_counted ((s.advance dt).count .frameSent) i day version made
      obtain ⟨rx, sheets, counted, ends⟩ := settled (tx := s.tx) (by simp [State.tellSent, State.fragmentSent])
        (counted_trans (counted_one rfl) sent)
      refine ⟨rx, sheets.trans told, ?_, ends⟩
      rw [sheets]
      exact counted
    all_goals
      obtain ⟨rx, sheets, counted, ends⟩ := settled (tx := s.tx) rfl (counted_one rfl)
      exact ⟨rx, sheets, counted, ends⟩
  · obtain ⟨source, f, at_⟩ := g
    have run : exec .frameAbandoned s =
        .next ((s.advanceTo (at_ + 8000)).abandonFrame ⟨source, f, at_⟩).settleRadio := by
      have deadline : s.accessDeadline = some (at_ + 8000) := by
        simp [State.accessDeadline, access, granted, Config.accessMs]
      have given : (s.advanceTo (at_ + 8000)).giveUp =
          ((s.advanceTo (at_ + 8000)).abandonFrame ⟨source, f, at_⟩).settleRadio := by
        simp [State.giveUp, granted]
      exact given ▸ congrArg Host.Outcome.next (onTimer_of_some started deadline)
    have settled {cs : List Counter} {tx : Sender}
        (send : (((s.advanceTo (at_ + 8000)).count .frameAbandoned).tellAbandoned source).tx = tx)
        (counted : Counted cs s (((s.advanceTo (at_ + 8000)).count .frameAbandoned).tellAbandoned source)) :=
      released_settles (s := s) (w := (s.advanceTo (at_ + 8000)).abandonFrame ⟨source, f, at_⟩) rfl started (by simp)
        (by simp) send counted
    refine ⟨_, run, by simp [onlyChanges_iff], ⟨by simp; omega, by simp; rfl⟩, ?_⟩
    cases source
    case reply =>
      obtain ⟨rx, -, counted, ends⟩ := settled (tx := { s.tx with reply := none }) rfl
        (counted_of (cs := [.frameAbandoned]) ((s.advanceTo (at_ + 8000)).count .frameAbandoned) (counted_one rfl) rfl)
      exact ⟨rx, counted, ends⟩
    case relay =>
      obtain ⟨rx, -, counted, ends⟩ := settled (tx := s.tx) rfl
        (counted_of (cs := [.frameAbandoned]) ((s.advanceTo (at_ + 8000)).count .frameAbandoned) (counted_one rfl) rfl)
      exact ⟨rx, counted, ends⟩
    case clock =>
      obtain ⟨rx, -, counted, ends⟩ := settled (tx := { s.tx with clockWaiting := false }) rfl (counted_one rfl)
      exact ⟨rx, counted, ends⟩
    case offer =>
      obtain ⟨rx, -, counted, ends⟩ := settled (tx := { s.tx with offerWaiting := none }) rfl (counted_one rfl)
      exact ⟨rx, counted, ends⟩
    case publication i day version made =>
      have counted := counted_trans (counted_one rfl)
        (fragmentAbandoned_counted ((s.advanceTo (at_ + 8000)).count .frameAbandoned) i day version made)
      have send : (((s.advanceTo (at_ + 8000)).count .frameAbandoned).fragmentAbandoned i day version made).tx = s.tx := by
        unfold State.fragmentAbandoned
        split <;> simp
      obtain ⟨rx, -, counted, ends⟩ := settled send counted
      refine ⟨rx, counted_perm counted ?_, ends⟩
      simpa using List.perm_append_comm

/-! ### A frame taken from the receive queue (R154) -/

@[simp] theorem clockAfter_frame (k : Clock) (dt : Nat) :
    (clockAfter k dt).timeValid = k.timeValid ∧ (clockAfter k dt).day = k.day ∧ (clockAfter k dt).second = k.second ∧
    (clockAfter k dt).stratum = k.stratum ∧ (clockAfter k dt).lastAdoption = k.lastAdoption ∧
    (clockAfter k dt).agingTimer = k.agingTimer ∧ (clockAfter k dt).beaconTimer = k.beaconTimer :=
  ⟨rfl, rfl, rfl, rfl, rfl, rfl, rfl⟩

/-- Time has passed, and the head of the receive queue is with its owner. -/
def headTaken (s : State) (dt : Nat) (rest : List ReceivedFrame) : State :=
  { s.advance dt with rx := { s.rx with queue := rest } }

@[simp] theorem headTaken_frame (s : State) (dt : Nat) (rest : List ReceivedFrame) :
    (headTaken s dt rest).pending = s.pending ∧ (headTaken s dt rest).elapsed = s.elapsed + dt ∧
    (headTaken s dt rest).loader = s.loader ∧ (headTaken s dt rest).clock = clockAfter s.clock dt ∧
    (headTaken s dt rest).sheets = s.sheets ∧ (headTaken s dt rest).table = s.table ∧
    (headTaken s dt rest).board = s.board ∧ (headTaken s dt rest).planner = s.planner ∧
    (headTaken s dt rest).engine = s.engine ∧ (headTaken s dt rest).sense = s.sense ∧
    (headTaken s dt rest).rx = { s.rx with queue := rest } ∧ (headTaken s dt rest).tx = s.tx ∧
    (headTaken s dt rest).counters = s.counters :=
  ⟨rfl, rfl, rfl, rfl, rfl, rfl, rfl, rfl, rfl, rfl, rfl, rfl, rfl⟩

theorem onDispatch_atHead {s : State} {dt : Nat} {k : Kind} {f : ReceivedFrame → State → State} {g : ReceivedFrame}
    {rest : List ReceivedFrame} (head : AtHead k g rest s) : s.onDispatch dt k f = f g (headTaken s dt rest) := by
  obtain ⟨started, queue, kind, free⟩ := head
  exact onDispatch_eq started queue kind free

/-! ### The service responder (O44) -/

/-- A frame placed in the reply slot goes through arbitration (R161, R173). -/
theorem placeReply_eq (s : State) (f : SendFrame) :
    s.placeReply f = { s with tx := arbitrated s { s.tx with reply := some f } s.elapsed } :=
  arbitrate_eq _

theorem queryCode_eq_false {code : Nat} : queryCode code = false ↔ code < 1 ∨ 5 < code := by
  simp [queryCode]
  omega

theorem replyFrame_eq (q : QueryFields) (page : List Byte) : replyFrame q page =
    ⟨0xE0#8, bytesOf 2 q.tool.toNat ++ bytesOf 1 q.code ++ bytesOf 1 q.page ++ page⟩ := by
  simp [replyFrame, header, Kind.code]

/-- The first check a QUERY fails (R172). -/
def queryRefusal (s : State) (q : QueryFields) : Option Counter :=
  if q.code < 1 ∨ 5 < q.code then some .queryMalformed
  else if q.target ≠ s.loader.loaded.stopId then some .queryOtherStop
  else if s.tx.reply ≠ none then some .queryBusy
  else none

theorem takeQuery_eq (s : State) (q : QueryFields) : s.takeQuery q =
    match queryRefusal s q with
    | some c => s.count c
    | none => (s.answerQuery q).settleRadio := by
  unfold State.takeQuery queryRefusal
  simp only [queryCode_eq_false, Option.isSome_iff_ne_none]
  split_ifs <;> rfl

/-- Settles O44: the checks in their order, then the page placed and counted. -/
theorem serviceFramesAreAnswered : Obligations.ServiceFramesAreAnswered := by
  intro s dt g rest
  constructor
  · intro head sound q refused
    have run : exec (.queryFrame dt) s = .next ((headTaken s dt rest).takeQuery q) :=
      congrArg Host.Outcome.next (onDispatch_atHead head)
    have same : queryRefusal (headTaken s dt rest) q = refused := rfl
    rw [takeQuery_eq, same] at run
    refine ⟨fun c refusal => ?_, fun none => ?_⟩
    · rw [refusal] at run
      exact ⟨_, run, by simp [onlyChanges_iff], by simp [Passes], by simp, counted_one rfl⟩
    · replace run : exec (.queryFrame dt) s = .next ((headTaken s dt rest).answerQuery q).settleRadio := by
        rw [run, none]
      have answered := placeReply_eq ((headTaken s dt rest).count .queryTaken)
        (replyFrame q (payload ((headTaken s dt rest).count .queryTaken) q.code q.page))
      have settled := settleRadio_counters_of_sound (s := s) (v := (headTaken s dt rest).answerQuery q) (queue := rest) sound
        (by simp) (by simp) (fun busy => by rw [State.answerQuery, answered]; exact granting_busy busy) (by simp)
      refine ⟨_, (headTaken s dt rest).count .queryTaken, run, by simp [onlyChanges_iff], by simp [Passes],
        rxSettles_settleRadio (by simpa [State.started] using head.1) (by simp), ?_, by simp [onlyChanges_iff],
        by simp [Passes], by simp, counted_one rfl, ?_⟩
      · exact counted_congr (counted_one rfl) rfl (settled.trans (by rw [State.answerQuery, answered]; rfl))
      · intro reply
        have tx := congrArg State.tx answered
        rw [replyFrame_eq] at tx
        rw [arbitrated_congr (s := (headTaken s dt rest).count .queryTaken) (by simp) (by simp) (by simp)]
        simpa [State.answerQuery, replyFrame_eq, reply] using tx
  · intro head _
    have run : exec (.replyDiscarded dt) s = .next ((headTaken s dt rest).count .replyDiscarded) :=
      congrArg Host.Outcome.next (onDispatch_atHead head)
    exact ⟨_, run, by simp [onlyChanges_iff], by simp [Passes], by simp, counted_one rfl⟩

end Sys2Proof.Proofs
end

section
/-! PROOF. An evaluation's steps (O31), and which counters a composition and the planning after it can move. -/

namespace Sys2Proof.Proofs

open Sys2Proof Sys2Proof.Machine Sys2Proof.Claims

/-! ### Evaluation (O31) -/

theorem stale_iff {c : Loaded} {now : Int} {e : Entry} : e.stale c now = true ↔
    e.state ≠ .atStop ∧ ∃ o, e.observation = some o ∧ c.trust < now - o.time := by
  unfold Entry.stale staleObservation
  cases e.observation <;> simp

theorem projectedDelay_eq (c : Loaded) (stop : Nat) (o : Option Observation) :
    projectedDelay c stop o = delayOf c stop o := by
  unfold projectedDelay delayOf
  rcases o with _ | ⟨kind, place, delay, time⟩
  · rfl
  · cases kind <;> simp [hopDistance]

theorem nextFigure_eq (c : Loaded) (held : Option Nat) (r : Int) : nextFigure c held r = figureOf c held r := by
  unfold nextFigure figureOf
  cases held with
  | none => rfl
  | some m => simp [inBand, plainFigure]

/-- The steps after the staleness check. -/
def Entry.weighed (c : Loaded) (now : Int) (e : Entry) : Option Entry :=
  let j := (e.project c).testState now
  if j.overdueGone c now then none else some (j.countdown c now)

theorem testState_of_away {now : Int} {e : Entry} (away : e.state ≠ .atStop) :
    e.testState now = { e with state := if now < e.predicted then .expected else .overdue } := by
  unfold Entry.testState
  split <;> simp_all

theorem weighed_eq (c : Loaded) (now : Int) (e : Entry) : Entry.weighed c now e = judgedEntry c now e := by
  unfold Entry.weighed judgedEntry
  have shown (o : Option Observation) : o.isSome = true ↔ o ≠ none := Option.isSome_iff_ne_none
  by_cases at_ : e.state = .atStop
  · simp [Entry.testState, Entry.overdueGone, Entry.countdown, Entry.qualifies, Entry.project, projectedDelay_eq, at_]
  · rw [testState_of_away (e := e.project c) at_]
    simp only [Entry.overdueGone, Entry.countdown, Entry.qualifies, Entry.project, projectedDelay_eq, nextFigure_eq]
    by_cases future : now < e.scheduled + delayOf c (c.slots.get e.slot).stopIndex e.observation <;>
      simp [at_, future, shown]

/-- An evaluation: the staleness check, then the steps on what it leaves (R27). -/
theorem evaluate_eq (c : Loaded) (now : Int) (e : Entry) : e.evaluate c now = judgedEntry c now (e.dropStale c now) :=
  weighed_eq c now (e.dropStale c now)

theorem evaluate_of_fresh {c : Loaded} {now : Int} {e : Entry} (fresh : e.stale c now = false) :
    e.evaluate c now = judgedEntry c now e := by
  rw [evaluate_eq, Entry.dropStale, if_neg (by simp [fresh])]

/-- Without an observation the shown minutes go, whatever they were (R36). -/
theorem judgedEntry_unobserved {c : Loaded} {now : Int} {e e' : Entry} (h : e' = { e with shown := e'.shown })
    (none : e.observation = none) : judgedEntry c now e' = judgedEntry c now e := by
  rw [h]
  simp [judgedEntry, none]

/-- Settles O31: the staleness check, then the other steps; and the band of a held figure. -/
theorem evaluationFollowsItsSteps : Obligations.EvaluationFollowsItsSteps := by
  refine ⟨fun c now e => ?_, fun c m r => ?_⟩
  · by_cases stale : e.stale c now = true
    · rw [if_pos (stale_iff.1 stale), evaluate_eq, Entry.dropStale, if_pos stale]
      exact judgedEntry_unobserved rfl rfl
    · rw [if_neg (fun h => stale (stale_iff.2 h))]
      exact evaluate_of_fresh (by simpa using stale)
  · have figure : nextFigure c (some m) r = if 60 * (m : Int) - 30 - c.hysteresis ≤ r ∧ r < 60 * (m : Int) + 30 + c.hysteresis
        then m else if r < -30 then 0 else ((r + 30) / 60).toNat := nextFigure_eq c (some m) r
    intro m'
    have same : m' = nextFigure c (some m) r := rfl
    rw [figure] at same
    split_ifs at same <;> refine ⟨fun low => ?_, fun high => ?_, fun _ _ => ?_⟩ <;> omega

/-! ### Which counters planning and a composition can move -/

/-- No counter but some has moved. -/
def MovesOnly (cs : List Counter) (s t : State) : Prop := ∀ k, k ∉ cs → t.counter k = s.counter k

theorem movesOnly_of_counters {cs : List Counter} {s t : State} (h : t.counters = s.counters) : MovesOnly cs s t :=
  fun k _ => State.counter_congr h k

theorem movesOnly_trans {cs : List Counter} {s t u : State} (h : MovesOnly cs s t) (h' : MovesOnly cs t u) :
    MovesOnly cs s u := fun k hk => (h' k hk).trans (h k hk)

theorem movesOnly_mono {cs ds : List Counter} {s t : State} (sub : cs ⊆ ds) (h : MovesOnly cs s t) : MovesOnly ds s t :=
  fun k hk => h k fun listed => hk (sub listed)

theorem movesOnly_countMany {cs : List Counter} {s t : State} {c : Counter} {n : Nat} (h : MovesOnly cs s t)
    (listed : c ∈ cs) : MovesOnly cs s (t.countMany c n) := by
  intro k hk
  have other : k ≠ c := fun same => hk (same ▸ listed)
  rw [State.countMany_counter, if_neg other]
  exact h k hk

theorem movesOnly_count {cs : List Counter} {s t : State} {c : Counter} (h : MovesOnly cs s t) (listed : c ∈ cs) :
    MovesOnly cs s (t.count c) := movesOnly_countMany h listed

/-- The cases of the listed counters stay counted where none of them is among those that move. -/
theorem countedOf_movesOnly {ks cs ds : List Counter} {s t u : State} (counted : CountedOf ks cs s t)
    (moves : MovesOnly ds t u) (apart : ∀ k ∈ ks, k ∉ ds) : CountedOf ks cs s u := by
  intro k hk bound
  rw [moves k (apart k hk)]
  exact counted k hk bound

theorem countedOf_of_counted {ks cs : List Counter} {s t : State} (h : Counted cs s t) : CountedOf ks cs s t :=
  fun k _ => h k

theorem countedOf_trans {ks as bs : List Counter} {s u t : State} (h : CountedOf ks as s u) (h' : Counted bs u t) :
    CountedOf ks (as ++ bs) s t := by
  intro k hk bound
  have first := h k hk bound
  rw [h' k (by omega), first, List.count_append]
  omega

/-- The counters planning can move (R138). -/
def planCounters : List Counter :=
  [.jobStaged, .bandNarrowed, .stagingHeld, .haltRequested, .suspensions, .abandonments, .parkStaged]

theorem stageNormal_movesOnly (s : State) : MovesOnly planCounters s s.stageNormal := by
  unfold State.stageNormal
  split
  · exact movesOnly_of_counters rfl
  · dsimp only
    split_ifs
    · exact movesOnly_count (movesOnly_of_counters rfl) (by decide)
    · exact movesOnly_count (movesOnly_count (movesOnly_of_counters rfl) (by decide)) (by decide)
    · exact movesOnly_count (movesOnly_of_counters rfl) (by decide)

theorem stopWaiting_movesOnly (s : State) : MovesOnly planCounters s s.stopWaiting := by
  unfold State.stopWaiting
  split
  · exact movesOnly_of_counters rfl
  · split
    · exact movesOnly_count (movesOnly_of_counters rfl) (by decide)
    · exact movesOnly_of_counters rfl

theorem askHalt_movesOnly (s : State) : MovesOnly planCounters s s.askHalt := by
  unfold State.askHalt
  split
  · exact movesOnly_of_counters rfl
  · split
    · exact movesOnly_trans (movesOnly_count (movesOnly_of_counters rfl) (by decide)) (stopWaiting_movesOnly _)
    · exact movesOnly_of_counters rfl

theorem dropActive_movesOnly (s : State) (a : ActiveJob) : MovesOnly planCounters s (s.dropActive a) :=
  movesOnly_count (movesOnly_of_counters rfl) (by decide)

theorem stagePark_movesOnly (s : State) : MovesOnly planCounters s s.stagePark := by
  have cleared : MovesOnly planCounters s s.clearForPark := by
    unfold State.clearForPark
    split
    · exact movesOnly_of_counters rfl
    · exact dropActive_movesOnly s _
  unfold State.stagePark
  split
  · exact movesOnly_trans cleared (movesOnly_count (movesOnly_of_counters rfl) (by decide))
  · exact movesOnly_of_counters rfl

theorem plan_movesOnly (s : State) : MovesOnly planCounters s s.plan := by
  unfold State.plan State.planPark
  split
  · split
    · exact movesOnly_trans (askHalt_movesOnly s) (stagePark_movesOnly _)
    · exact movesOnly_of_counters rfl
  · split
    · exact movesOnly_of_counters rfl
    · exact stageNormal_movesOnly s

theorem promoteJobs_movesOnly (s : State) : MovesOnly (.jobPromoted :: planCounters) s s.promoteJobs := by
  unfold State.promoteJobs
  split
  · exact movesOnly_of_counters rfl
  · split
    · exact movesOnly_trans (movesOnly_count (movesOnly_of_counters rfl) (by decide))
        (movesOnly_mono (List.subset_cons_self _ _) (plan_movesOnly _))
    · exact movesOnly_of_counters rfl

theorem planJobs_movesOnly (s : State) : MovesOnly (.jobPromoted :: planCounters) s s.planJobs :=
  movesOnly_trans (movesOnly_mono (List.subset_cons_self _ _) (plan_movesOnly s)) (promoteJobs_movesOnly _)

/-- The counters a composition can move (R94, R117). -/
def boardCounters : List Counter :=
  .boardRecomposed :: .targetChange :: .stagedWithdrawn :: .jobPromoted :: planCounters

theorem withdrawStaged_movesOnly (s : State) : MovesOnly [.stagedWithdrawn] s s.withdrawStaged := by
  unfold State.withdrawStaged
  split
  · exact movesOnly_of_counters rfl
  · split
    · exact movesOnly_of_counters rfl
    · exact movesOnly_count (movesOnly_of_counters rfl) (by decide)

theorem compose_movesOnly (s : State) : MovesOnly boardCounters s s.compose := by
  have report (new : Vector Cells 10) (p : Nat → Bool) : MovesOnly boardCounters s (s.reportTargets new p) :=
    movesOnly_trans (movesOnly_countMany (movesOnly_count (movesOnly_of_counters rfl) (by decide)) (by decide))
      (movesOnly_mono (by decide) (withdrawStaged_movesOnly _))
  unfold State.compose
  split
  next differs =>
    refine movesOnly_trans ?_ (movesOnly_mono (by decide) (planJobs_movesOnly _))
    rw [State.composeTargets, if_pos differs]
    exact report _ _
  next => exact movesOnly_of_counters rfl

theorem composeAfter_movesOnly (s : State) (before : List Entry) (tick : Bool) :
    MovesOnly boardCounters s (s.composeAfter before tick) := by
  unfold State.composeAfter
  split
  · exact compose_movesOnly s
  · exact movesOnly_of_counters rfl

/-! ### The board after a composition (R77) -/

/-- The targets look at loaded values, clock, energy state, entries and the current notice only. -/
theorem composedTargets_congr {s t : State} (loader : t.loader = s.loader)
    (valid : t.clock.timeValid = s.clock.timeValid) (second : t.clock.second = s.clock.second)
    (energy : t.planner.energy = s.planner.energy) (entries : t.table.entries = s.table.entries)
    (notices : t.board.notices = s.board.notices) (current : t.board.current = s.board.current) :
    t.composedTargets = s.composedTargets := by
  simp [State.composedTargets, headerLine, noticeLine, loader, valid, second, energy, entries, notices, current]

theorem compose_board (s : State) : s.compose.board = { s.board with targets := s.composedTargets } := by
  unfold State.compose
  by_cases differs : s.boardDiffers = true
  · simp [if_pos differs, State.composeTargets, State.reportTargets]
  · rw [if_neg differs]
    have same : s.composedTargets = s.board.targets := by
      refine Vector.ext fun n hn => ?_
      have listed : ∀ n : Fin 10, n ∈ allLines := by decide
      have line := fun h => differs (List.any_eq_true.2 ⟨⟨n, hn⟩, listed _, h⟩)
      simpa [State.targetDiffers, hn] using line
    rw [same]

/-- The composition of a command of the table: made where the entries are others than before (R77). -/
theorem composeAfter_board (s : State) (before : List Entry) : (s.composeAfter before false).board =
    { s.board with targets := if s.table.entries = before then s.board.targets else s.composedTargets } := by
  unfold State.composeAfter
  by_cases same : s.table.entries = before
  · simp [same]
  · simp [same, compose_board]

/-- A composition does not reach the receive or the send side. -/
theorem composeAfter_ports (s : State) (before : List Entry) :
    (s.composeAfter before false).rx = s.rx ∧ (s.composeAfter before false).tx = s.tx := by
  simp

/-- What a command of the table comes to that has changed at most entries, relay queue and counters: the composition and
the end of the command. -/
theorem tableChanges_of {s v : State} {dt : Nat} {rest : List ReceivedFrame} {entries : List Entry}
    (started : s.started = true) (sound : s.RadioSound)
    (changes : OnlyChanges [.elapsed, .clock, .table, .rx, .tx, .counters] s v) (passes : Passes dt s v)
    (rx : v.rx = { s.rx with queue := rest }) (send : s.tx.state ≠ .idle → v.tx.state ≠ .idle)
    (table : v.table = { s.table with entries := entries }) :
    let t := (v.composeAfter s.table.entries false).finish
    TableChanges dt rest s t ∧ t.table.entries = entries ∧ t.tx = v.tx ∧ MovesOnly boardCounters v t := by
  intro t
  have loader : v.loader = s.loader := changes.2 .loader (by decide)
  have sheets : v.sheets = s.sheets := changes.2 .sheets (by decide)
  have board : v.board = s.board := changes.2 .board (by decide)
  have sense : v.sense = s.sense := changes.2 .sense (by decide)
  have composed : t.composedTargets = v.composedTargets :=
    composedTargets_congr (by simp [t]) (by simp [t]) (by simp [t]) (by simp [t]) (by simp [t]) (by simp [t])
      (by simp [t])
  have targets : t.board = (v.composeAfter s.table.entries false).board := by simp [t]
  have settled : t.counters = (v.composeAfter s.table.entries false).counters :=
    finish_counters_of_sound (queue := rest) sound (by simpa using loader) (by simpa using rx) (by simpa using send)
      (by simp [passes.1])
  refine ⟨⟨?_, ⟨by simp [t, passes.1], by simp [t, passes.2]⟩, ?_, by simp [t, table], ?_⟩, by simp [t, table],
    by simp [t], ?_⟩
  · simp [onlyChanges_iff, t, loader, sheets, sense, changes.1]
  · exact rxSettles_finish (by simpa [State.started, loader] using started) (by simpa using rx)
  · rw [targets, composeAfter_board, composed, board, table]
    simp [t, table]
  · exact fun k hk => (State.counter_congr settled k).trans (composeAfter_movesOnly v s.table.entries false k hk)

end Sys2Proof.Proofs
end

section
/-! PROOF. The departure table's frames: PASS and SIGHT (O34 to O38). -/

namespace Sys2Proof.Proofs

open Sys2Proof Sys2Proof.Machine Sys2Proof.Claims

/-! ### Order and identity (R1) -/

theorem lexBefore_cons {a b : Int} {rest : List (Int × Int)} :
    lexBefore ((a, b) :: rest) = true ↔ a < b ∨ a = b ∧ lexBefore rest = true := by
  rw [lexBefore]
  split_ifs with less more
  · simp [less]
  · simp [less, more.ne']
  · simp [show a = b by omega]

theorem orderEntries_pairwise (c : Loaded) (day : Day) (es : List Entry) :
    (orderEntries c day es).Pairwise (Precedes c day) := by
  have before (a b : Entry) : entryBefore c day a b = true ↔ Precedes c day a b := by
    simp only [entryBefore, lexBefore_cons, Precedes, dayOffset]
    simp only [lexBefore, and_true, Nat.cast_lt, Nat.cast_inj, le_iff_lt_or_eq]

  refine sortBy_pairwise (fun a b h => (before a b).1 h) (fun a b h => ?_) (fun a b c h h' => ?_) es
  · have h' := mt (before a b).2 (by simp [h])
    simp only [Precedes] at h' ⊢
    omega
  · simp only [Precedes] at h h' ⊢
    omega

theorem isRun_iff {e : Entry} {i : SlotIx} {day : Day} {run : Nat} : e.isRun i day run = true ↔ IsRun e i day run :=
  Entry.isRun_iff

theorem isRun_eq_false {e : Entry} {i : SlotIx} {day : Day} {run : Nat} (other : ¬ IsRun e i day run) :
    e.isRun i day run = false := by
  rwa [← Bool.not_eq_true, isRun_iff]

/-- Among others, an entry is the first and the only one of its run. -/
theorem find_run {before after : List Entry} {e : Entry} {i : SlotIx} {day : Day} {run : Nat} (own : IsRun e i day run)
    (alone : Alone e before) : (before ++ e :: after).find? (fun x => x.isRun i day run) = some e := by
  obtain ⟨rfl, rfl, rfl⟩ := own
  have first : before.find? (fun x => x.isRun e.slot e.day e.run) = none :=
    List.find?_eq_none.2 fun x hx h => alone x hx (isRun_iff.1 h)
  simp [List.find?_append, first]

theorem takeOut_run {before after : List Entry} {e : Entry} {i : SlotIx} {day : Day} {run : Nat} (own : IsRun e i day run)
    (alone : Alone e before) (alone' : Alone e after) :
    (before ++ e :: after).filter (fun x => !x.isRun i day run) = before ++ after := by
  obtain ⟨rfl, rfl, rfl⟩ := own
  have others {l : List Entry} (h : Alone e l) : l.filter (fun x => !x.isRun e.slot e.day e.run) = l :=
    List.filter_eq_self.2 fun x hx => by rw [isRun_eq_false (h x hx)]; rfl
  rw [List.filter_append, List.filter_cons, others alone, others alone']
  simp

/-- The state with other entries in its table. -/
def withEntries (s : State) (es : List Entry) : State := { s with table := { s.table with entries := es } }

/-- One entry changed and evaluated; the others stay, and the table is put in order (R2, R26). -/
theorem changeEntry_eq {s : State} {before after : List Entry} {e : Entry} {i : SlotIx} {day : Day} {run : Nat}
    {f : Entry → Entry} (list : s.table.entries = before ++ e :: after) (own : IsRun e i day run)
    (alone : Alone e before) (alone' : Alone e after) (keeps : IsRun (f e) i day run) :
    s.changeEntry i day run f = ((withEntries s (orderEntries s.loader.loaded s.clock.day
      (before ++ ((f e).evaluate s.loader.loaded s.now).toList ++ after))).countMany .observationExpired
        (if (f e).stale s.loader.loaded s.now then 1 else 0)).countMany .overdueRemoval
        (if (f e).evaluate s.loader.loaded s.now = none then 1 else 0) := by
  obtain ⟨rfl, rfl, rfl⟩ := own
  have other {l : List Entry} (h : Alone e l) (x : Entry) (hx : x ∈ l) : x.isRun e.slot e.day e.run = false :=
    isRun_eq_false (h x hx)
  have changed {l : List Entry} (h : Alone e l) : l.map (fun x => if x.isRun e.slot e.day e.run then f x else x) = l :=
    (List.map_congr_left fun x hx => by simp only [other h x hx]; rfl).trans (List.map_id l)
  have picked {l : List Entry} (h : Alone e l) : l.filter (fun x => x.isRun e.slot e.day e.run) = [] :=
    List.filter_eq_nil_iff.2 fun x hx => by simp only [other h x hx]; decide
  have stays {l : List Entry} (h : Alone e l) : l.filterMap (fun x =>
      if x.isRun e.slot e.day e.run then x.evaluate s.loader.loaded s.now else some x) = l :=
    (List.filterMap_congr fun x hx => by simp only [other h x hx]; rfl).trans List.filterMap_some
  have here : (f e).isRun e.slot e.day e.run = true := isRun_iff.2 keeps
  have self : e.isRun e.slot e.day e.run = true := isRun_iff.2 ⟨rfl, rfl, rfl⟩
  unfold State.changeEntry evaluateWhere withEntries State.countMany
  simp only [list, List.map_append, List.map_cons, List.filterMap_append, List.filterMap_cons, List.filter_append,
    List.filter_cons, changed alone, changed alone', picked alone, picked alone', stays alone, stays alone', here, self,
    if_true]
  have gone : before.length + (after.length + 1) - (before.length + after.length) = 1 := by omega
  cases (f e).evaluate s.loader.loaded s.now <;> cases stale : (f e).stale s.loader.loaded s.now <;> simp [stale, gone]

/-- A changed entry whose observation is not stale: the entry judged anew takes its place or goes (R27, R33). -/
theorem changeEntry_weighs {s : State} {before after : List Entry} {e : Entry} {i : SlotIx} {day : Day} {run : Nat}
    {f : Entry → Entry} (list : s.table.entries = before ++ e :: after) (own : IsRun e i day run)
    (alone : Alone e before) (alone' : Alone e after) (keeps : IsRun (f e) i day run)
    (fresh : (f e).stale s.loader.loaded s.now = false) :
    InOrder (s.changeEntry i day run f) ∧
      (∀ x, judgedEntry s.loader.loaded s.now (f e) = some x →
        (s.changeEntry i day run f).table.entries.Perm (x :: (before ++ after)) ∧
          Counted [] s (s.changeEntry i day run f)) ∧
      (judgedEntry s.loader.loaded s.now (f e) = none →
        (s.changeEntry i day run f).table.entries.Perm (before ++ after) ∧
          Counted [.overdueRemoval] s (s.changeEntry i day run f)) := by
  rw [changeEntry_eq list own alone alone' keeps, evaluate_of_fresh fresh, fresh]
  refine ⟨?_, fun x kept => ⟨?_, ?_⟩, fun gone => ⟨?_, ?_⟩⟩
  · exact orderEntries_pairwise s.loader.loaded s.clock.day _
  · rw [kept]
    exact (sortBy_perm _ _).trans (by simp)
  · rw [kept]
    exact counted_many (cs := []) (n := 0) _ (counted_many (cs := []) (n := 0) _ (counted_nil rfl) rfl) rfl
  · rw [gone]
    exact (sortBy_perm _ _).trans (by simp)
  · rw [gone]
    exact counted_many (cs := []) (n := 1) _ (counted_many (cs := []) (n := 0) _ (counted_nil rfl) rfl) rfl

/-! ### The relay queue (R160) -/

theorem placeRelay_eq (s : State) (f : SendFrame) :
    s.placeRelay f = { (if 8 ≤ s.tx.relay.length then s.count .relayDropped else s) with
      tx := arbitrated s (queued s.tx f) s.elapsed } := by
  unfold State.placeRelay
  rw [arbitrate_eq]
  by_cases full : 8 ≤ s.tx.relay.length <;> simp [full, queued, Config.relayCapacity] <;> rfl

/-- A frame that no table counter counts goes to the relay queue. -/
theorem placeRelay_movesOnly (s : State) (f : SendFrame) : MovesOnly [.relayDropped] s (s.placeRelay f) := by
  rw [placeRelay_eq]
  split
  · exact movesOnly_count (movesOnly_of_counters rfl) (by decide)
  · exact movesOnly_of_counters rfl

theorem passFrame_eq (p : PassFields) : passFrame p = passOf p := by
  simp [passFrame, passOf, header, routeGroup, Kind.code]

/-! ### Frames that change nothing in the table -/

/-- The end of a command of the table that has counted one case and changed no entry. -/
theorem uncomposed_finish {s v : State} {dt : Nat} {rest : List ReceivedFrame} {cs : List Counter}
    (started : s.started = true) (sound : s.RadioSound) (changes : OnlyChanges [.elapsed, .clock, .rx, .counters] s v)
    (passes : Passes dt s v) (rx : v.rx = { s.rx with queue := rest }) (counted : Counted cs s v) :
    OnlyChanges [.elapsed, .clock, .engine, .rx, .counters] s (v.composeAfter s.table.entries false).finish ∧
      Passes dt s (v.composeAfter s.table.entries false).finish ∧
      RxSettles rest s (v.composeAfter s.table.entries false).finish ∧
      PortServes s (v.composeAfter s.table.entries false).finish ∧
      Counted cs s (v.composeAfter s.table.entries false).finish := by
  have table : v.table = s.table := changes.2 .table (by decide)
  have loader : v.loader = s.loader := changes.2 .loader (by decide)
  have engine : v.engine = s.engine := changes.2 .engine (by decide)
  have tx : v.tx = s.tx := changes.2 .tx (by decide)
  have sheets : v.sheets = s.sheets := changes.2 .sheets (by decide)
  have board : v.board = s.board := changes.2 .board (by decide)
  have planner : v.planner = s.planner := changes.2 .planner (by decide)
  have sense : v.sense = s.sense := changes.2 .sense (by decide)
  have still : v.composeAfter s.table.entries false = v := by simp [State.composeAfter, table]
  have settled := finish_counters_of_sound (v := v) sound loader rx (fun busy => tx ▸ busy) (by simp [passes.1])
  rw [still]
  refine ⟨?_, ⟨by simp [passes.1], by simp [passes.2]⟩,
    rxSettles_finish (by simpa [State.started, loader] using started) rx, portServes_finish engine,
    counted_congr counted rfl settled⟩
  simp [onlyChanges_iff, changes.1, loader, table, tx, sheets, board, planner, sense]

/-! ### PASS frames (O34 to O36) -/

theorem passFrame_run {s : State} {dt : Nat} {g : ReceivedFrame} {rest : List ReceivedFrame} {i : SlotIx}
    (head : AtHead .pass g rest s) (serves : Serves s.loader.loaded i (readPass g.body).tag) :
    exec (.passFrame dt) s = .next ((((headTaken s dt rest).takeServedPass i (readPass g.body)).composeAfter
      s.table.entries false).finish) := by
  have run : exec (.passFrame dt) s = .next ((headTaken s dt rest).takePass (readPass g.body)) :=
    congrArg Host.Outcome.next (onDispatch_atHead head)
  have slot : servedSlot (headTaken s dt rest).loader.loaded (readPass g.body).tag = some i := serves
  rw [run, State.takePass, slot]
  rfl

theorem passEntry_eq {s : State} {p : PassFields} {i : SlotIx} {e : Entry} {before after : List Entry}
    (day : (p.day - s.clock.day).toInt = -1 ∨ (p.day - s.clock.day).toInt = 0 ∨ (p.day - s.clock.day).toInt = 1)
    (list : s.table.entries = before ++ e :: after) (own : IsRun e i p.day p.run) (alone : Alone e before) :
    s.passEntry i p = some e := by
  exact (if_pos day).trans (by rw [list, find_run own alone])

/-- Settles O34: the report from beyond finds its entry and takes it out. -/
theorem passFramesFromBeyondRemove : Obligations.PassFramesFromBeyondRemove := by
  intro s dt g rest i e before after head sound p off serves day list own alone alone' beyond
  have removed : (headTaken s dt rest).takeServedPass i p =
      (withEntries (headTaken s dt rest) (before ++ after)).count .downstreamRemoval := by
    rw [State.takeServedPass, passEntry_eq (s := headTaken s dt rest) day list own alone]
    simp [beyond, State.removeDownstream, State.takeOut, list, takeOut_run own alone alone', withEntries]
  obtain ⟨changes, entries, tx, moves⟩ := tableChanges_of (s := s) (dt := dt) (rest := rest)
    (v := (withEntries (headTaken s dt rest) (before ++ after)).count .downstreamRemoval) (entries := before ++ after)
    head.1 sound (by simp [onlyChanges_iff, withEntries]) (by simp [Passes, withEntries]) (by simp [withEntries])
    (by simp [withEntries]) (by simp [withEntries])
  refine ⟨_, passFrame_run head serves, ?_⟩
  rw [removed]
  exact ⟨changes, tx, entries, countedOf_movesOnly (countedOf_of_counted (counted_one rfl)) moves (by decide)⟩

/-- The entry's own stale observation is counted as it is dropped (R28). -/
def expiryCounted (s : State) (e : Entry) : State :=
  if e.stale s.loader.loaded s.now then s.count .observationExpired else s

theorem expiryCounted_eq (s : State) (e : Entry) :
    expiryCounted s e = { s with counters := (expiryCounted s e).counters } := by
  unfold expiryCounted
  split <;> rfl

theorem expiryCounted_counted (s : State) (e : Entry) :
    Counted (if e.stale s.loader.loaded s.now then [.observationExpired] else []) s (expiryCounted s e) := by
  unfold expiryCounted
  exact counted_ite s

theorem relayPass_eq (s : State) (p : PassFields) : s.relayPass p =
    if p.hops = 0 then s else s.placeRelay (passOf { p with delay := clampDelay p.delay, hops := p.hops - 1 }) := by
  unfold State.relayPass
  rw [passFrame_eq]
  by_cases none : p.hops = 0 <;> simp [none, Nat.pos_iff_ne_zero]

theorem relayPass_movesOnly (s : State) (p : PassFields) : MovesOnly [.relayDropped] s (s.relayPass p) := by
  rw [relayPass_eq]
  split
  · exact movesOnly_of_counters rfl
  · exact placeRelay_movesOnly s _

theorem relayed_congr {fs : List SendFrame} {s v t : State} (relayed : Relayed fs s v) (tx : t.tx = v.tx)
    (energy : t.planner.energy = v.planner.energy) (sheets : t.sheets = v.sheets) (loader : t.loader = v.loader)
    (elapsed : t.elapsed = v.elapsed) : Relayed fs s t := by
  simpa only [Relayed, tx, arbitrated_congr energy sheets loader, elapsed] using relayed

theorem relayPass_relayed (s : State) (p : PassFields) : Relayed (if p.hops = 0 then [] else
    [passOf { p with delay := clampDelay p.delay, hops := p.hops - 1 }]) s (s.relayPass p) := by
  rw [relayPass_eq]
  split
  · rfl
  · have placed := placeRelay_eq s (passOf { p with delay := clampDelay p.delay, hops := p.hops - 1 })
    rw [Relayed, List.foldl_cons, List.foldl_nil, arbitrated_congr (s := s) (by simp) (by simp) (by simp)]
    simpa using congrArg State.tx placed

/-- An observation that is stale no longer counts; what an entry without one holds, any report advances over (R16). -/
theorem advancesOver_dropStale {c : Loaded} {now : Int} {e : Entry} {o : Observation} (running : e.state ≠ .atStop)
    (ahead : ∀ h, e.observation = some h → c.trust < now - h.time ∨ h.stop < o.stop ∨ (h.stop = o.stop ∧ h.time < o.time)) :
    advancesOver (e.dropStale c now).observation o = true := by
  unfold Entry.dropStale
  split
  · rfl
  next fresh =>
    cases held : e.observation with
    | none => rfl
    | some h =>
      have within : ¬ c.trust < now - h.time := fun old => fresh (stale_iff.2 ⟨running, h, held, old⟩)
      rcases ahead h held with old | ahead | ⟨same, later⟩
      · exact absurd old within
      · simp [advancesOver, ahead]
      · simp [advancesOver, same, later]

/-- A report that advances: the entry takes its observation, is evaluated, and the report is relayed (R16, R17). -/
theorem weighPass_advances {s : State} {i : SlotIx} {p : PassFields} {e : Entry}
    (fresh : staleObservation s.loader.loaded s.now (passObservation s.clock.day p) = false)
    (advances : advancesOver (e.dropStale s.loader.loaded s.now).observation (passObservation s.clock.day p) = true) :
    s.weighPass i p e = (((expiryCounted s e).count .passAdvanced).changeEntry i p.day p.run fun x =>
      { x.dropStale s.loader.loaded s.now with observation := some (passObservation s.clock.day p) }).relayPass p :=
  if_neg (by simp [fresh, advances])

/-- A report that does not advance: the entry's own stale observation goes, and the entry is evaluated without it (R16,
R28). -/
theorem weighPass_fails {s : State} {i : SlotIx} {p : PassFields} {e : Entry}
    (fails : staleObservation s.loader.loaded s.now (passObservation s.clock.day p) = true ∨
      advancesOver (e.dropStale s.loader.loaded s.now).observation (passObservation s.clock.day p) = false) :
    s.weighPass i p e = if e.stale s.loader.loaded s.now then
      ((expiryCounted s e).count .passNotAdvancing).changeEntry i p.day p.run (Entry.dropStale s.loader.loaded s.now)
      else (expiryCounted s e).count .passNotAdvancing :=
  if_pos (by simpa using fails)

theorem takeServedPass_weighs {s : State} {i : SlotIx} {p : PassFields} {e : Entry} {before after : List Entry}
    (day : (p.day - s.clock.day).toInt = -1 ∨ (p.day - s.clock.day).toInt = 0 ∨ (p.day - s.clock.day).toInt = 1)
    (list : s.table.entries = before ++ e :: after) (own : IsRun e i p.day p.run) (alone : Alone e before)
    (upstream : p.stop < (s.loader.loaded.slots.get i).stopIndex) (running : e.state ≠ .atStop) :
    s.takeServedPass i p = s.weighPass i p e := by
  rw [State.takeServedPass, passEntry_eq day list own alone]
  exact (if_neg (by omega)).trans (if_neg running)

/-- The frame of a command that has counted some cases, changed one entry, and at most relayed a report after it. -/
theorem changedEntry_finish {s u v : State} {dt : Nat} {rest : List ReceivedFrame} {cs : List Counter} {i : SlotIx}
    {day : Day} {run : Nat} {f : Entry → Entry} {e : Entry} {before after : List Entry} {k k' : Counters} {tx : Sender}
    (started : s.started = true) (sound : s.RadioSound) (base : u = { headTaken s dt rest with counters := k })
    (counted : Counted cs s u) (list : s.table.entries = before ++ e :: after) (own : IsRun e i day run)
    (alone : Alone e before) (alone' : Alone e after) (keeps : IsRun (f e) i day run)
    (fresh : (f e).stale s.loader.loaded s.clock.second = false)
    (changed : v = { u.changeEntry i day run f with tx := tx, counters := k' })
    (send : s.tx.state ≠ .idle → tx.state ≠ .idle) (moves : MovesOnly [.relayDropped] (u.changeEntry i day run f) v) :
    let t := (v.composeAfter s.table.entries false).finish
    TableChanges dt rest s t ∧ InOrder t ∧ t.tx = tx ∧
      (∀ x, judgedEntry s.loader.loaded s.clock.second (f e) = some x →
        t.table.entries.Perm (x :: (before ++ after)) ∧ CountedOf tableCounters cs s t) ∧
      (judgedEntry s.loader.loaded s.clock.second (f e) = none →
        t.table.entries.Perm (before ++ after) ∧ CountedOf tableCounters (cs ++ [.overdueRemoval]) s t) := by
  intro t
  have uloader : u.loader = s.loader := by simp [base]
  have unow : u.now = s.clock.second := by simp [State.now, base]
  have ulist : u.table.entries = before ++ e :: after := by simpa [base] using list
  obtain ⟨order, stays, goes⟩ := changeEntry_weighs ulist own alone alone' keeps (by rwa [uloader, unow])
  rw [uloader, unow] at stays goes
  have vtable : v.table = (u.changeEntry i day run f).table := by rw [changed]
  have utable : (u.changeEntry i day run f).table =
      { s.table with entries := (u.changeEntry i day run f).table.entries } := by rw [base]; rfl
  obtain ⟨changes, entries, sent, composed⟩ := tableChanges_of (v := v) (dt := dt) (rest := rest) started sound
    (by simp [changed, base, onlyChanges_iff]) (by simp [changed, base, Passes]) (by simp [changed, base])
    (by simpa [changed] using send) (vtable.trans utable)
  have count {ds : List Counter} (h : Counted ds u (u.changeEntry i day run f)) :
      CountedOf tableCounters (cs ++ ds) s t :=
    countedOf_movesOnly (countedOf_movesOnly (countedOf_of_counted (counted_trans counted h)) moves (by decide)) composed
      (by decide)
  refine ⟨changes, ?_, sent.trans (by rw [changed]), fun x kept => ?_, fun none => ?_⟩
  · simpa [InOrder, entries, t, base, changed] using order
  · obtain ⟨perm, quiet⟩ := stays x kept
    exact ⟨entries ▸ perm, by simpa using count quiet⟩
  · obtain ⟨perm, gone⟩ := goes none
    exact ⟨entries ▸ perm, count gone⟩

theorem relayPass_shape (s : State) (p : PassFields) :
    s.relayPass p = { s with tx := (s.relayPass p).tx, counters := (s.relayPass p).counters } := by
  rw [relayPass_eq]
  split
  · rfl
  · rw [placeRelay_eq]
    split <;> rfl

theorem relayPass_busy {s : State} {p : PassFields} (busy : s.tx.state ≠ .idle) : (s.relayPass p).tx.state ≠ .idle := by
  rw [relayPass_eq]
  split
  · exact busy
  · rw [placeRelay_eq]
    exact granting_busy busy

/-- An entry that takes a report's observation in the place of its own (R16, R28). -/
def observedBy (c : Loaded) (now : Int) (o : Observation) (e : Entry) : Entry :=
  { e.dropStale c now with observation := some o }

theorem observedBy_eq (c : Loaded) (now : Int) (o : Observation) (e : Entry) : observedBy c now o e =
    { e with observation := some o, shown := if e.stale c now then none else e.shown } := by
  unfold observedBy Entry.dropStale
  split <;> rfl

/-- Settles O35: the report advances; the entry with its observation is weighed and the report relayed. -/
theorem passFramesAdvance : Obligations.PassFramesAdvance := by
  intro s dt g rest i e before after head sound p off now o serves day list own alone alone' upstream running fresh ahead
    stale weighed cases
  have stale_eq : e.stale s.loader.loaded now = stale := by
    have moving : (e.state != .atStop) = true := bne_iff_ne.2 running
    change (e.state != .atStop && stale) = stale
    rw [moving, Bool.true_and]
  have observed : observedBy s.loader.loaded now o e =
      { e with observation := some o, shown := if stale then none else e.shown } := by
    rw [observedBy_eq, stale_eq]
  have valid : (observedBy s.loader.loaded now o e).stale s.loader.loaded now = false := by
    rw [observed, ← Bool.not_eq_true, stale_iff]
    rintro ⟨-, o', same, old⟩
    cases same
    exact absurd fresh (not_le.2 old)
  have counted : Counted cases s ((expiryCounted (headTaken s dt rest) e).count .passAdvanced) := by
    have expiry := expiryCounted_counted (headTaken s dt rest) e
    have same : e.stale (headTaken s dt rest).loader.loaded (headTaken s dt rest).now = stale := stale_eq
    rw [same] at expiry
    exact counted_of _ (counted_congr expiry rfl rfl) rfl
  have taken : (headTaken s dt rest).takeServedPass i p =
      (((expiryCounted (headTaken s dt rest) e).count .passAdvanced).changeEntry i p.day p.run
        (observedBy s.loader.loaded now o)).relayPass p :=
    (takeServedPass_weighs (s := headTaken s dt rest) day list own alone upstream running).trans
      (weighPass_advances (s := headTaken s dt rest) (decide_eq_false (not_lt.2 fresh))
        (advancesOver_dropStale running ahead))
  have base : (expiryCounted (headTaken s dt rest) e).count .passAdvanced =
      { headTaken s dt rest with counters := ((expiryCounted (headTaken s dt rest) e).count .passAdvanced).counters } := by
    rw [expiryCounted_eq]
    rfl
  have utx : (((expiryCounted (headTaken s dt rest) e).count .passAdvanced).changeEntry i p.day p.run
      (observedBy s.loader.loaded now o)).tx = s.tx := by
    rw [base]
    simp
  obtain ⟨changes, order, tx, stays, goes⟩ := changedEntry_finish head.1 sound base counted list own alone alone'
    (f := observedBy s.loader.loaded now o) (by rw [observed]; exact own) valid (relayPass_shape _ p)
    (fun busy => relayPass_busy (utx ▸ busy)) (relayPass_movesOnly _ p)
  have relayed := relayPass_relayed (((expiryCounted (headTaken s dt rest) e).count .passAdvanced).changeEntry i p.day
    p.run (observedBy s.loader.loaded now o)) p
  refine ⟨_, passFrame_run head serves, ?_⟩
  rw [taken]
  rw [observed] at stays goes
  refine ⟨changes, order, stays, goes, ?_⟩
  have relayed' := relayed_congr relayed tx (by simp) (by simp) (by simp) (by simp)
  rw [Relayed, utx] at relayed'
  exact relayed'

theorem passEntry_some {s : State} {i : SlotIx} {p : PassFields} {e : Entry} (found : s.passEntry i p = some e) :
    ((p.day - s.clock.day).toInt = -1 ∨ (p.day - s.clock.day).toInt = 0 ∨ (p.day - s.clock.day).toInt = 1) ∧
      e ∈ s.table.entries ∧ IsRun e i p.day p.run := by
  unfold State.passEntry at found
  split at found
  next day =>
    have own := List.find?_some found
    exact ⟨day, List.mem_of_find?_eq_some found, isRun_iff.1 own⟩
  next => cases found

/-- A report for which every entry it could be for is AT_STOP and upstream of it is unmatched (R14, R15). -/
theorem takeServedPass_unmatched {s : State} {i : SlotIx} {p : PassFields}
    (unmatched : ((p.day - s.clock.day).toInt = -1 ∨ (p.day - s.clock.day).toInt = 0 ∨ (p.day - s.clock.day).toInt = 1) →
      ∀ e ∈ s.table.entries, IsRun e i p.day p.run →
        e.state = .atStop ∧ p.stop < (s.loader.loaded.slots.get i).stopIndex) :
    s.takeServedPass i p = s.count .passUnmatched := by
  unfold State.takeServedPass
  split
  next => rfl
  next e found =>
    obtain ⟨day, listed, own⟩ := passEntry_some found
    obtain ⟨waits, upstream⟩ := unmatched day e listed own
    rw [if_neg (by omega), if_pos waits]

theorem dropStale_fresh (c : Loaded) (now : Int) (e : Entry) : (e.dropStale c now).stale c now = false := by
  unfold Entry.dropStale
  split
  · simp [Entry.stale]
  · simp_all

/-- Settles O36: the unmatched, the one that does not advance, and the stale one that meets a stale observation. -/
theorem passFramesWithoutEffect : Obligations.PassFramesWithoutEffect := by
  refine ⟨?_, ?_, ?_⟩
  · intro s dt g rest head sound p unmatched
    cases slot : servedSlot s.loader.loaded p.tag with
    | none =>
      have run : exec (.passFrame dt) s = .next ((headTaken s dt rest).count .passUnmatched) := by
        have taken : exec (.passFrame dt) s = .next ((headTaken s dt rest).takePass p) :=
          congrArg Host.Outcome.next (onDispatch_atHead head)
        simpa [State.takePass, slot] using taken
      exact ⟨_, run, by simp [onlyChanges_iff], by simp [Passes], by simp [RxSettles], by simp [PortServes],
        counted_one rfl⟩
    | some i =>
      refine ⟨_, passFrame_run head slot, ?_⟩
      rw [takeServedPass_unmatched (s := headTaken s dt rest) (unmatched i slot)]
      exact uncomposed_finish head.1 sound (by simp [onlyChanges_iff]) (by simp [Passes]) (by simp) (counted_one rfl)
  · intro s dt g rest i e before after head sound p off now time serves day list own alone alone' upstream running fresh
      behind
    refine ⟨_, passFrame_run head serves, ?_⟩
    have valid : e.stale s.loader.loaded now = false := by
      rw [← Bool.not_eq_true, stale_iff]
      rintro ⟨-, h, held, old⟩
      exact absurd (fresh h held) (not_le.2 old)
    have weighed : (headTaken s dt rest).takeServedPass i p = (headTaken s dt rest).count .passNotAdvancing := by
      have fails : staleObservation s.loader.loaded now (passObservation s.clock.day p) = true ∨
          advancesOver (e.dropStale s.loader.loaded now).observation (passObservation s.clock.day p) = false := by
        refine behind.imp decide_eq_true ?_
        rintro ⟨h, held, behind⟩
        rw [Entry.dropStale, if_neg (by simp [valid]), held]
        have placed : (passObservation s.clock.day p).time = time := rfl
        have stop : (passObservation s.clock.day p).stop = p.stop := rfl
        simp only [advancesOver, placed, stop, Bool.or_eq_false_iff, Bool.and_eq_false_iff, decide_eq_false_iff_not]
        omega
      have valid' : ¬ e.stale (headTaken s dt rest).loader.loaded (headTaken s dt rest).now = true :=
        Bool.not_eq_true _ ▸ valid
      rw [takeServedPass_weighs (s := headTaken s dt rest) day list own alone upstream running,
        weighPass_fails (s := headTaken s dt rest) fails, if_neg valid', expiryCounted, if_neg valid']
    rw [weighed]
    exact uncomposed_finish head.1 sound (by simp [onlyChanges_iff]) (by simp [Passes]) (by simp) (counted_one rfl)
  · intro s dt g rest i e before after h head sound p off now serves day list own alone alone' upstream running held old
      late judged
    have stale : e.stale s.loader.loaded now = true := stale_iff.2 ⟨running, h, held, old⟩
    have dropped : e.dropStale s.loader.loaded now = { e with observation := none, shown := none } := by
      rw [Entry.dropStale, if_pos stale]
    have counted : Counted [.observationExpired, .passNotAdvancing] s
        ((expiryCounted (headTaken s dt rest) e).count .passNotAdvancing) := by
      have expiry := expiryCounted_counted (headTaken s dt rest) e
      have same : e.stale (headTaken s dt rest).loader.loaded (headTaken s dt rest).now = true := stale
      rw [same] at expiry
      exact counted_of _ (counted_congr expiry rfl rfl) rfl
    have weighed : (headTaken s dt rest).takeServedPass i p = ((expiryCounted (headTaken s dt rest) e).count
        .passNotAdvancing).changeEntry i p.day p.run (Entry.dropStale s.loader.loaded now) := by
      rw [takeServedPass_weighs (s := headTaken s dt rest) day list own alone upstream running]
      exact (weighPass_fails (s := headTaken s dt rest) (i := i) (.inl (decide_eq_true late))).trans (if_pos stale)
    have base : (expiryCounted (headTaken s dt rest) e).count .passNotAdvancing = { headTaken s dt rest with
        counters := ((expiryCounted (headTaken s dt rest) e).count .passNotAdvancing).counters } := by
      rw [expiryCounted_eq]
      rfl
    have utx : (((expiryCounted (headTaken s dt rest) e).count .passNotAdvancing).changeEntry i p.day p.run
        (Entry.dropStale s.loader.loaded now)).tx = s.tx := by
      rw [base]
      simp
    obtain ⟨changes, order, tx, stays, goes⟩ := changedEntry_finish head.1 sound base counted list own alone alone'
      (f := Entry.dropStale s.loader.loaded now) (by rw [dropped]; exact own) (dropStale_fresh _ _ _) rfl
      (fun busy => utx ▸ busy) (movesOnly_of_counters rfl)
    refine ⟨_, passFrame_run head serves, ?_⟩
    rw [weighed]
    rw [dropped] at stays goes
    exact ⟨changes, order, tx.trans utx, stays, goes⟩

/-! ### SIGHT frames (O37, O38) -/

theorem earliestScheduled_mem {l : List Entry} {e : Entry} (h : earliestScheduled l = some e) : e ∈ l := by
  induction l generalizing e with
  | nil => cases h
  | cons x rest ih =>
    unfold earliestScheduled at h
    split at h
    next => cases h; exact .head _
    next y hy =>
      split at h
      · cases h; exact .head _
      · cases h; exact .tail _ (ih hy)

/-- Of equal scheduled times the earlier entry's comes first (R9). -/
theorem earliestScheduled_eq {before after : List Entry} {e : Entry}
    (earlier : ∀ x ∈ before, e.scheduled < x.scheduled) (later : ∀ x ∈ after, e.scheduled ≤ x.scheduled) :
    earliestScheduled (before ++ e :: after) = some e := by
  induction before with
  | nil =>
    rw [List.nil_append, earliestScheduled]
    rcases rest : earliestScheduled after with _ | x
    · rfl
    · exact if_pos (later x (earliestScheduled_mem rest))
  | cons y before ih =>
    rw [List.cons_append, earliestScheduled, ih fun x hx => earlier x (.tail _ hx)]
    exact if_neg (not_le.2 (earlier y (.head _)))

theorem sightSlot_eq_some {c : Loaded} {f : SightFields} {i : SlotIx} :
    sightSlot c f = some i ↔ Serves c i f.tag ∧ (c.slots.get i).stopIndex = f.stop := by
  simp [sightSlot, Option.filter_eq_some_iff, Serves]

theorem sees_iff {s : State} {f : SightFields} {e : Entry} {i : SlotIx} (slot : sightSlot s.loader.loaded f = some i) :
    (e.slot = i && e.run = f.run && heldDay s.clock.day e.day) = true ↔ Sees s f e := by
  have served : Serves s.loader.loaded e.slot f.tag ∧ (s.loader.loaded.slots.get e.slot).stopIndex = f.stop ↔ i = e.slot := by
    rw [← sightSlot_eq_some, slot, Option.some_inj]
  simp only [Sees, ← and_assoc, served, heldDay, Bool.and_eq_true, Bool.or_eq_true, decide_eq_true_eq,
    eq_comm (a := i)]

theorem sightEntry_sees {s : State} {f : SightFields} {e : Entry} (found : s.sightEntry f = some e) :
    e ∈ s.table.entries ∧ Sees s f e := by
  obtain ⟨i, slot, first⟩ := Option.bind_eq_some_iff.1 found
  obtain ⟨listed, fits⟩ := List.mem_filter.1 (earliestScheduled_mem first)
  exact ⟨listed, (sees_iff slot).1 fits⟩

theorem sightEntry_eq {s : State} {f : SightFields} {e : Entry} {before after : List Entry}
    (list : s.table.entries = before ++ e :: after) (sighted : Sighted s f e before after) : s.sightEntry f = some e := by
  obtain ⟨sees, earlier, later⟩ := sighted
  have slot : sightSlot s.loader.loaded f = some e.slot := sightSlot_eq_some.2 ⟨sees.1, sees.2.1⟩
  have fits := (sees_iff slot).2 sees
  rw [State.sightEntry, slot, Option.bind_some, list, List.filter_append, List.filter_cons, if_pos fits]
  refine earliestScheduled_eq (fun x hx => ?_) (fun x hx => ?_)
  · obtain ⟨listed, fits⟩ := List.mem_filter.1 hx
    exact earlier x listed ((sees_iff slot).1 fits)
  · obtain ⟨listed, fits⟩ := List.mem_filter.1 hx
    exact later x listed ((sees_iff slot).1 fits)

theorem sightFrame_run {s : State} {dt : Nat} {g : ReceivedFrame} {rest : List ReceivedFrame}
    (head : AtHead .sight g rest s) :
    exec (.sightFrame dt) s = .next ((headTaken s dt rest).takeSight (readSight g.body)) :=
  congrArg Host.Outcome.next (onDispatch_atHead head)

/-- Settles O37: the sighted entry is found, counted, changed and weighed. -/
theorem sightAtPutsTheEntryAtStop : Obligations.SightAtPutsTheEntryAtStop := by
  intro s dt g rest e before after head sound f now phase list alone alone' sighted seen stale
  have found : (headTaken s dt rest).sightEntry f = some e := sightEntry_eq (s := headTaken s dt rest) list sighted
  have seen_eq : Entry.sighted (s.loader.loaded.slots.get e.slot).stopIndex now e = seen := by
    unfold Entry.sighted
    simp only [seen, sighted.1.2.1]
    split <;> simp_all [clampDelay]
  have run : exec (.sightFrame dt) s = .next (((((expiryCounted (headTaken s dt rest) e).count .sightingTaken).changeEntry
      e.slot e.day e.run (Entry.sighted (s.loader.loaded.slots.get e.slot).stopIndex now)).composeAfter s.table.entries
      false).finish) := by
    rw [sightFrame_run head, State.takeSight, found]
    exact congrArg Host.Outcome.next (if_pos phase)
  have base : (expiryCounted (headTaken s dt rest) e).count .sightingTaken = { headTaken s dt rest with
      counters := ((expiryCounted (headTaken s dt rest) e).count .sightingTaken).counters } := by
    rw [expiryCounted_eq]
    rfl
  have counted : Counted (.sightingTaken :: if e.stale s.loader.loaded now then [.observationExpired] else []) s
      ((expiryCounted (headTaken s dt rest) e).count .sightingTaken) :=
    counted_perm (counted_of _ (counted_congr (expiryCounted_counted (headTaken s dt rest) e) rfl rfl) rfl)
      (List.perm_append_singleton _ _)
  have utx : (((expiryCounted (headTaken s dt rest) e).count .sightingTaken).changeEntry e.slot e.day e.run
      (Entry.sighted (s.loader.loaded.slots.get e.slot).stopIndex now)).tx = s.tx := by
    rw [base]
    simp
  obtain ⟨changes, order, tx, stays, -⟩ := changedEntry_finish head.1 sound base counted list ⟨rfl, rfl, rfl⟩ alone
    alone' (f := Entry.sighted (s.loader.loaded.slots.get e.slot).stopIndex now)
    (by rw [seen_eq]; exact ⟨rfl, rfl, rfl⟩) (by simp [seen_eq, Entry.stale, seen]) rfl (fun busy => utx ▸ busy)
    (movesOnly_of_counters rfl)
  rw [seen_eq] at stays
  have judged : judgedEntry s.loader.loaded now seen ≠ none := by
    simp [judgedEntry, seen]
  obtain ⟨x, kept⟩ := Option.ne_none_iff_exists'.1 judged
  obtain ⟨-, count⟩ := stays x kept
  have stale_iff' : e.stale s.loader.loaded now = true ↔ stale := stale_iff
  refine ⟨_, run, changes, tx.trans utx, order, fun x kept => (stays x kept).1, judged, fun old => ?_, fun fresh => ?_⟩
  · rwa [if_pos (stale_iff'.2 old)] at count
  · rwa [if_neg (mt stale_iff'.1 fresh)] at count

/-! ### Departures (R13) -/

theorem reportDeparture_eq (s : State) (e : Entry) (leave : Int) : s.reportDeparture e leave =
    if s.loader.loaded.ttl = 0 then s.count .departure
    else ((s.count .departure).count .passageOriginated).placeRelay (departureOf s e leave) := by
  unfold State.reportDeparture
  by_cases none : s.loader.loaded.ttl = 0
  · simp [none]
  · simp only [Nat.pos_of_ne_zero none, if_true, none, if_false, passFrame_eq]
    rfl

/-- The cases a departure counts (R13). -/
def departureCases (c : Loaded) : List Counter := .departure :: if c.ttl = 0 then [] else [.passageOriginated]

theorem reportDeparture_counted (s : State) (e : Entry) (leave : Int) : ∃ v,
    Counted (departureCases s.loader.loaded) s v ∧ MovesOnly [.relayDropped] v (s.reportDeparture e leave) := by
  rw [reportDeparture_eq, departureCases]
  split
  · exact ⟨_, counted_one rfl, movesOnly_of_counters rfl⟩
  · exact ⟨_, counted_of (cs := [.departure]) _ (counted_one rfl) rfl, placeRelay_movesOnly _ _⟩

theorem reportDeparture_relayed (s : State) (e : Entry) (leave : Int) :
    Relayed (if s.loader.loaded.ttl = 0 then [] else [departureOf s e leave]) s (s.reportDeparture e leave) := by
  rw [reportDeparture_eq]
  split
  · simp [Relayed]
  · have placed := placeRelay_eq ((s.count .departure).count .passageOriginated) (departureOf s e leave)
    rw [Relayed, List.foldl_cons, List.foldl_nil, arbitrated_congr (s := (s.count .departure).count .passageOriginated)
      (by simp) (by simp) (by simp)]
    simpa using congrArg State.tx placed

theorem reportDeparture_busy {s : State} {e : Entry} {leave : Int} (busy : s.tx.state ≠ .idle) :
    (s.reportDeparture e leave).tx.state ≠ .idle := by
  rw [reportDeparture_eq]
  split
  · simpa using busy
  · rw [placeRelay_eq]
    exact granting_busy (by simpa [queued] using busy)

/-- Settles O38: the departure of an AT_STOP entry with its report, and the frames that are ignored. -/
theorem sightLeavingDepartsTheEntry : Obligations.SightLeavingDepartsTheEntry := by
  constructor
  · intro s dt g rest e before after head sound f phase list alone alone' sighted
    have found : (headTaken s dt rest).sightEntry f = some e := sightEntry_eq (s := headTaken s dt rest) list sighted
    have run : exec (.sightFrame dt) s =
        .next ((((headTaken s dt rest).takeLeaving e).composeAfter s.table.entries false).finish) := by
      have notAt : f.phase ≠ 0 := by omega
      rw [sightFrame_run head, State.takeSight, found]
      exact congrArg Host.Outcome.next ((if_neg notAt).trans (if_pos phase))
    refine ⟨fun waits => ⟨_, run, ?_⟩, fun runs => ⟨_, run, ?_⟩⟩
    · have taken : (headTaken s dt rest).takeLeaving e =
          (withEntries (headTaken s dt rest) (before ++ after)).reportDeparture e s.clock.second := by
        have out : (headTaken s dt rest).takeOut (fun x => x.isRun e.slot e.day e.run) =
            withEntries (headTaken s dt rest) (before ++ after) := by
          have left := takeOut_run (e := e) ⟨rfl, rfl, rfl⟩ alone alone'
          rw [← left, ← list]
          rfl
        rw [State.takeLeaving, if_pos waits, out]
        rfl
      obtain ⟨v, counted, moves⟩ :=
        reportDeparture_counted (withEntries (headTaken s dt rest) (before ++ after)) e s.clock.second
      obtain ⟨changes, entries, tx, composed⟩ := tableChanges_of (s := s) (dt := dt) (rest := rest)
        (v := (withEntries (headTaken s dt rest) (before ++ after)).reportDeparture e s.clock.second)
        (entries := before ++ after) head.1 sound (by simp [onlyChanges_iff, withEntries])
        (by simp [Passes, withEntries]) (by simp [withEntries]) (fun busy => reportDeparture_busy busy)
        (by simp [withEntries])
      rw [taken]
      refine ⟨changes, entries, ?_, ?_⟩
      · exact countedOf_movesOnly (countedOf_movesOnly (countedOf_of_counted (counted_congr counted rfl rfl)) moves
          (by decide)) composed (by decide)
      · exact relayed_congr (reportDeparture_relayed (withEntries (headTaken s dt rest) (before ++ after)) e
          s.clock.second) tx (by simp) (by simp) (by simp) (by simp)
    · have ignored : (headTaken s dt rest).takeLeaving e = (headTaken s dt rest).count .sightIgnored := if_neg runs
      rw [ignored]
      exact uncomposed_finish head.1 sound (by simp [onlyChanges_iff]) (by simp [Passes]) (by simp) (counted_one rfl)
  · intro s dt g rest head f unfit
    have ignored : (headTaken s dt rest).takeSight f = (headTaken s dt rest).count .sightIgnored := by
      unfold State.takeSight
      split
      next => rfl
      next e found =>
        obtain ⟨listed, sees⟩ := sightEntry_sees found
        have phase : 1 < f.phase := unfit.resolve_left fun none => none e listed sees
        rw [if_neg (by omega), if_neg (by omega)]
    refine ⟨_, sightFrame_run head, ?_⟩
    rw [ignored]
    exact ⟨by simp [onlyChanges_iff], by simp [Passes], by simp, counted_one rfl⟩

end Sys2Proof.Proofs
end

section
/-! PROOF. The sheet store's frames and timer: requests, fragments, commits (O26 to O29). -/

namespace Sys2Proof.Proofs

open Sys2Proof Sys2Proof.Machine Sys2Proof.Claims

/-! ### Publication requests (R58, O26) -/

/-- The publication desk of a state. -/
def deskOf (s : State) : Desk := ⟨s.sheets.publications, s.tx.lfsr, s.sheets.made, []⟩

/-- From `s` to `t` the publication desk has come to `d`, its cases counted, and nothing else has changed. -/
def Asks (s : State) (d : Desk) (t : State) : Prop :=
  t = { s with
      sheets := { s.sheets with publications := d.list, made := d.made }
      tx := { s.tx with lfsr := d.lfsr }
      counters := t.counters } ∧
    Counted d.cases s t

theorem asks_self (s : State) : Asks s (deskOf s) s := ⟨rfl, counted_nil rfl⟩

theorem isFor_iff {p : Publication} {i : SlotIx} {day : Day} : p.isFor i day = true ↔ p.slot = i ∧ p.day = day := by
  simp [Publication.isFor]

/-- The cases counted so far stay in front. -/
theorem asked_cases (d : Desk) (cs : List Counter) (now : Nat) (i : SlotIx) (day : Day) (version : Version) :
    Desk.asked { d with cases := cs ++ d.cases } now i day version =
      { d.asked now i day version with cases := cs ++ (d.asked now i day version).cases } := by
  unfold Desk.asked
  split_ifs <;> simp

theorem asks_trans {s t u : State} {d d' : Desk} (h : Asks s d t) (h' : Asks t d' u) :
    Asks s { d' with cases := d.cases ++ d'.cases } u := by
  obtain ⟨shape, counted⟩ := h
  obtain ⟨shape', counted'⟩ := h'
  refine ⟨?_, counted_trans counted counted'⟩
  rw [shape', shape]

theorem request_asks (s : State) (i : SlotIx) (day : Day) :
    Asks s ((deskOf s).asked s.elapsed i day ((s.sheets.slots.get i).versionFor day)) (s.requestPublication i day) := by
  have listed : s.sheets.publications.any (·.isFor i day) = true ↔
      ∃ p ∈ (deskOf s).list, p.slot = i ∧ p.day = day := by
    simp only [List.any_eq_true, isFor_iff, deskOf]
  have holdoff : s.after (s.drawValue 1 8).toNat = s.elapsed + 1000 * (1 + (lfsrSteps 16 s.tx.lfsr).toNat % 8) := by
    simp only [State.after, State.drawValue, State.drawn]
    omega
  unfold State.requestPublication Desk.asked
  by_cases merges : ∃ p ∈ (deskOf s).list, p.slot = i ∧ p.day = day
  · rw [if_pos (listed.2 merges), if_pos merges]
    simp only [isFor_iff]
    exact ⟨rfl, counted_one rfl⟩
  · rw [if_neg (mt listed.1 merges), if_neg merges]
    by_cases full : 2 ≤ (deskOf s).list.length
    · rw [if_pos (show Config.publicationCapacity ≤ s.sheets.publications.length from full),
        if_pos full]
      exact ⟨rfl, counted_one rfl⟩
    · rw [if_neg (show ¬ Config.publicationCapacity ≤ s.sheets.publications.length from full),
        if_neg full, holdoff]
      exact ⟨rfl, counted_one rfl⟩

/-- A request is what the desk is asked for, at the version held now (R58). -/
theorem asks_request {s t : State} {d : Desk} (asks : Asks s d t) (i : SlotIx) (day : Day) :
    Asks s (d.asked s.elapsed i day ((s.sheets.slots.get i).versionFor day)) (t.requestPublication i day) := by
  have asked := asks_trans asks (request_asks t i day)
  obtain ⟨shape, -⟩ := asks
  have elapsed : t.elapsed = s.elapsed := by rw [shape]
  have slots : t.sheets.slots = s.sheets.slots := by rw [shape]
  have desk : deskOf t = { d with cases := [] } := by rw [shape]; rfl
  have prefixed := asked_cases { d with cases := [] } d.cases s.elapsed i day ((s.sheets.slots.get i).versionFor day)
  rw [List.append_nil] at prefixed
  rw [elapsed, slots, desk, ← prefixed] at asked
  exact asked

/-! ### OFFER frames (O26) -/

/-- The desk after the requests for some slots and days, at the versions a state holds. -/
def askedAll (s : State) (d : Desk) (xs : List (SlotIx × Day)) : Desk :=
  xs.foldl (fun d x => d.asked s.elapsed x.1 x.2 ((s.sheets.slots.get x.1).versionFor x.2)) d

theorem asks_answerDay {s t : State} {d : Desk} (asks : Asks s d t) (i : SlotIx) (day : Day) (listed : Version) :
    Asks s (askedAll s d (if newerVersion ((s.sheets.slots.get i).versionFor day) listed then [(i, day)] else []))
      (t.answerDay i day listed) := by
  have slots : t.sheets.slots = s.sheets.slots := by rw [asks.1]
  rw [State.answerDay, slots]
  split
  · exact asks_request asks i day
  · exact asks

/-- What one listing asks for (R56). -/
def demandsOf (s : State) (nextFirst : Bool) (l : Listing) : List (SlotIx × Day) :=
  match servedSlot s.loader.loaded l.tag with
  | none => []
  | some i =>
    let ask := fun (day : Day) (listed : Version) =>
      if newerVersion ((s.sheets.slots.get i).versionFor day) listed then [(i, day)] else []
    let today := ask s.clock.day l.today
    let next := ask (s.clock.day + 1#16) l.next
    if nextFirst then next ++ today else today ++ next

theorem asks_answerListing {s t : State} {d : Desk} (asks : Asks s d t) (nextFirst : Bool) (l : Listing) :
    Asks s (askedAll s d (demandsOf s nextFirst l)) (t.answerListing nextFirst l) := by
  have loader : t.loader = s.loader := by rw [asks.1]
  have clock : t.clock = s.clock := by rw [asks.1]
  rw [State.answerListing, demandsOf, loader, clock]
  cases servedSlot s.loader.loaded l.tag with
  | none => exact asks
  | some i =>
    cases nextFirst
    · simpa [askedAll, List.foldl_append] using
        asks_answerDay (asks_answerDay asks i s.clock.day l.today) i (s.clock.day + 1#16) l.next
    · simpa [askedAll, List.foldl_append] using
        asks_answerDay (asks_answerDay asks i (s.clock.day + 1#16) l.next) i s.clock.day l.today

theorem asks_listings {s t : State} {d : Desk} (asks : Asks s d t) (nextFirst : Bool) (ls : List Listing) :
    Asks s (askedAll s d (ls.flatMap (demandsOf s nextFirst))) (ls.foldl (State.answerListing nextFirst) t) := by
  induction ls generalizing t d with
  | nil => exact asks
  | cons l rest ih =>
    rw [List.flatMap_cons, askedAll, List.foldl_append]
    exact ih (asks_answerListing asks nextFirst l)

/-- Settles O26: the desk after every listing of a heeded OFFER. -/
theorem offersAreAnswered : Obligations.OffersAreAnswered := by
  intro s dt nextFirst g rest head f heeded
  have run : exec (.offerFrame ⟨dt, nextFirst⟩) s = .next ((headTaken s dt rest).takeOffer f nextFirst) :=
    congrArg Host.Outcome.next (onDispatch_atHead head)
  refine ⟨_, run, ?_⟩
  by_cases heed : heeded
  · have taken : (headTaken s dt rest).takeOffer f nextFirst =
        f.listings.foldl (State.answerListing nextFirst) (headTaken s dt rest) := if_pos heed
    have asks := asks_listings (asks_self (headTaken s dt rest)) nextFirst f.listings
    rw [taken]
    generalize f.listings.foldl (State.answerListing nextFirst) (headTaken s dt rest) = t at asks
    have desk : askedAll (headTaken s dt rest) (deskOf (headTaken s dt rest))
        (f.listings.flatMap (demandsOf (headTaken s dt rest) nextFirst)) = askedAll { s with elapsed := t.elapsed }
          ⟨s.sheets.publications, s.tx.lfsr, s.sheets.made, []⟩ (demands s f nextFirst) := by
      rw [asks.1]
      rfl
    rw [desk] at asks
    obtain ⟨shape, counted⟩ := asks
    refine ⟨?_, ?_, ?_, fun h => absurd heed h, fun _ => ⟨?_, ?_, counted_congr counted rfl rfl⟩⟩
    · rw [shape]
      simp [onlyChanges_iff]
    · rw [shape]
      simp [Passes]
    · rw [shape]
      simp
    · exact congrArg State.sheets shape
    · exact congrArg State.tx shape
  · have taken : (headTaken s dt rest).takeOffer f nextFirst = (headTaken s dt rest).count .offerOtherDay := if_neg heed
    rw [taken]
    exact ⟨by simp [onlyChanges_iff], by simp [Passes], by simp, fun _ => ⟨by simp, by simp, counted_one rfl⟩,
      fun h => absurd h heed⟩

/-! ### The checks of a SHEET frame (R46, R59) -/

theorem suppresses_iff {c : Loaded} {f : SheetFields} {p : Publication} :
    suppresses c f p = true ↔ Cancelled c f p := by
  simp [suppresses, Cancelled, Publication.isSending, and_assoc]

/-- The list weighed against a SHEET frame: what it cancels goes, and is counted (R59). -/
theorem weighPublications_weighs (s : State) (f : SheetFields) : ∃ ps,
    s.weighPublications f = { s with
      sheets := { s.sheets with publications := ps }, counters := (s.weighPublications f).counters } ∧
    Weighed s.loader.loaded f s.sheets.publications ps ∧
    Counted (List.replicate (s.sheets.publications.length - ps.length) .publicationSuppressed) s
      (s.weighPublications f) := by
  refine ⟨s.sheets.publications.filter fun p => !suppresses s.loader.loaded f p, rfl,
    ⟨List.filter_sublist, fun p => ?_⟩, ?_⟩
  · simp [← suppresses_iff]
  · exact counted_many (cs := []) _ (counted_nil rfl) rfl

theorem malformed_iff {f : SheetFields} :
    f.malformed = true ↔ f.version = 0#16 ∨ f.count = 0 ∨ 12 < f.count ∨ f.count ≤ f.index := by
  simp [SheetFields.malformed, or_assoc]

theorem heldDay_eq_false {today day : Day} : heldDay today day = false ↔ day ≠ today ∧ day ≠ today + 1#16 := by
  simp [heldDay]

/-- The acceptance checks in their order (R46). -/
theorem acceptFragment_eq (s : State) (f : SheetFields) : s.acceptFragment f =
    match sheetRefusal s f with
    | some c => s.count c
    | none => ((servedSlot s.loader.loaded f.tag).map fun i => s.applyFragment i f).getD s := by
  unfold sheetRefusal State.acceptFragment
  cases servedSlot s.loader.loaded f.tag with
  | none => rfl
  | some i =>
    simp only [malformed_iff, heldDay_eq_false]
    split_ifs <;> rfl

theorem acceptFragment_accepted {s : State} {f : SheetFields} {i : SlotIx} (accepted : sheetRefusal s f = none)
    (serves : Serves s.loader.loaded i f.tag) : s.acceptFragment f = s.applyFragment i f := by
  rw [acceptFragment_eq, accepted, serves]
  rfl

/-! ### An accepted fragment (R48, R49) -/

theorem setAssembly_get (st : SheetStore) (i j : SlotIx) (a : Option Assembly) :
    (st.setAssembly i a).slots.get j = if j = i then { st.slots.get j with assembly := a } else st.slots.get j := by
  rw [SheetStore.setAssembly, setSlot_get]
  split
  next same => rw [same]
  next => rfl

theorem slots_ext {v w : Vector SlotSheets 6} (h : ∀ i : SlotIx, v.get i = w.get i) : v = w :=
  Vector.ext fun n hn => h ⟨n, hn⟩

theorem setAssembly_self (st : SheetStore) (i : SlotIx) : st.setAssembly i (st.slots.get i).assembly = st := by
  have slots : (st.setAssembly i (st.slots.get i).assembly).slots = st.slots := slots_ext fun j => by
    rw [setAssembly_get]
    split
    next same => rw [same]
    next => rfl
  exact congrArg (fun v => { st with slots := v }) slots

/-- A fragment set aside, or counted in another way, leaves the store as it is. -/
theorem counted_collected {s : State} {i : SlotIx} {c : Counter} {h : Option Assembly}
    (same : (s.sheets.slots.get i).assembly = h) :
    s.count c = { s with sheets := s.sheets.setAssembly i h, counters := (s.count c).counters } ∧
      Counted [c] s (s.count c) := by
  refine ⟨?_, counted_one rfl⟩
  rw [← same, setAssembly_self]
  rfl

/-- A COLLECTING assembly put in its slot (R48, R49). -/
theorem putAssembly_collects {s : State} {i : SlotIx} {a : Assembly} (open_ : a.state ≠ .complete) :
    s.putAssembly i a = { s with
        sheets := s.sheets.setAssembly i (some a), counters := (s.putAssembly i a).counters } ∧
      Counted [.fragmentAdded] s (s.putAssembly i a) := by
  rw [State.putAssembly, if_neg open_]
  exact ⟨rfl, counted_one rfl⟩

/-- What a first fragment leaves, absent where it is the sheet's only one (R48). -/
def started (now : Nat) (f : SheetFields) (cs : List Counter) : Option (Option Assembly × List Counter) :=
  if f.count ≤ 1 then none else some (some (startAssembly now f), cs ++ [.fragmentAdded])

/-- What a fragment for an assembly's own day and version leaves (R49). -/
def joined (now : Nat) (f : SheetFields) (a : Assembly) : Option (Option Assembly × List Counter) :=
  if f.count ≠ a.count then some (some a, [.sheetMalformed])
  else if f.index ∈ a.fragments.map (·.1) then some (some a, [.fragmentRepeated])
  else if a.count ≤ a.fragments.length + 1 then none
  else some (some (a.addFragment now f), [.fragmentAdded])

/-- What a fragment leaves, by the effect the table of R48 gives it. -/
theorem collected_eq (today : Day) (now : Nat) (f : SheetFields) (held : Option Assembly) :
    collected today now f held = match fragmentEffect today held f with
      | .start => started now f []
      | .setAside => some (held, [.fragmentSetAside])
      | .replace => started now f [.assemblyReplaced]
      | .add => held.bind (joined now f) := by
  have fresh (cs : List Counter) : (if f.count ≤ 1 then none else
      some (some (⟨f.day, f.version, f.count, [(f.index, f.runs)], .collecting, now⟩ : Assembly), cs ++ [.fragmentAdded])) =
      started now f cs := by
    unfold started startAssembly assemblyStateOf
    split
    · rfl
    next => rfl
  unfold collected fragmentEffect
  cases held with
  | none => exact fresh []
  | some a =>
    simp only [fresh]
    by_cases complete : a.state = .complete
    · simp only [complete, if_true]
    by_cases other : a.day ≠ f.day
    · by_cases today_ : f.day = today
      · simp only [if_neg complete, if_pos other, if_pos today_]
      · simp only [if_neg complete, if_pos other, if_neg today_]
    by_cases same : a.version = f.version
    · simp only [if_neg complete, if_neg other, if_pos same, Option.bind_some, joined]
      by_cases last : a.count ≤ a.fragments.length + 1
      · simp only [if_pos last]
      · simp only [Assembly.addFragment, assemblyStateOf, if_neg last]
    · by_cases newer : newerVersion f.version a.version = true
      · simp only [if_neg complete, if_neg other, if_neg same, if_pos newer]
      · simp only [if_neg complete, if_neg other, if_neg same, if_neg newer]

theorem fragmentEffect_start {today : Day} {held : Option Assembly} {f : SheetFields}
    (h : fragmentEffect today held f = .start) : held = none := by
  unfold fragmentEffect at h
  split at h
  · rfl
  · split_ifs at h

/-- A first fragment that is not its sheet's only one. -/
theorem started_some {s : State} {f : SheetFields} {h : Option Assembly} {cs ds : List Counter}
    (some_ : started s.elapsed f cs = some (h, ds)) : h = some (startAssembly s.elapsed f) ∧ ds = cs ++ [.fragmentAdded] ∧
      (startAssembly s.elapsed f).state ≠ .complete := by
  unfold started at some_
  split at some_
  · cases some_
  next many =>
    cases some_
    exact ⟨rfl, rfl, by simp [startAssembly, assemblyStateOf, many]⟩

theorem listed_iff {a : Assembly} {f : SheetFields} :
    (a.fragments.any fun x => x.1 = f.index) = true ↔ f.index ∈ a.fragments.map (·.1) := by
  simp

/-- A fragment for its assembly's own day and version that does not make the sheet whole (R49). -/
theorem addFragment_joins {s : State} {i : SlotIx} {f : SheetFields} {a : Assembly} {h : Option Assembly}
    {cs : List Counter} (held : (s.sheets.slots.get i).assembly = some a) (joins : joined s.elapsed f a = some (h, cs)) :
    s.addFragment i a f = { s with
        sheets := s.sheets.setAssembly i h, counters := (s.addFragment i a f).counters } ∧
      Counted cs s (s.addFragment i a f) := by
  unfold joined at joins
  unfold State.addFragment
  by_cases differs : f.count ≠ a.count
  · rw [if_pos differs] at joins ⊢
    cases joins
    exact counted_collected held
  by_cases listed : f.index ∈ a.fragments.map (·.1)
  · rw [if_neg differs, if_pos listed] at joins
    rw [if_neg differs, if_pos (listed_iff.2 listed)]
    cases joins
    exact counted_collected held
  rw [if_neg differs, if_neg listed] at joins
  rw [if_neg differs, if_neg (mt listed_iff.1 listed)]
  by_cases last : a.count ≤ a.fragments.length + 1
  · rw [if_pos last] at joins
    cases joins
  · rw [if_neg last] at joins
    cases joins
    exact putAssembly_collects (by simp [Assembly.addFragment, assemblyStateOf, last])

/-- A fragment that does not make its sheet whole (O27). -/
theorem applyFragment_collected {s : State} {i : SlotIx} {f : SheetFields} {h : Option Assembly} {cs : List Counter}
    (open_ : collected s.clock.day s.elapsed f (s.sheets.slots.get i).assembly = some (h, cs)) :
    s.applyFragment i f = { s with
        sheets := s.sheets.setAssembly i h, counters := (s.applyFragment i f).counters } ∧
      Counted cs s (s.applyFragment i f) := by
  rw [collected_eq] at open_
  unfold State.applyFragment
  cases effect : fragmentEffect s.clock.day (s.sheets.slots.get i).assembly f with
  | start =>
    simp only [effect] at open_ ⊢
    obtain ⟨rfl, rfl, collects⟩ := started_some open_
    exact putAssembly_collects collects
  | setAside =>
    simp only [effect] at open_ ⊢
    cases open_
    exact counted_collected rfl
  | replace =>
    simp only [effect] at open_ ⊢
    obtain ⟨rfl, rfl, collects⟩ := started_some open_
    obtain ⟨shape, counted⟩ := putAssembly_collects (s := s.count .assemblyReplaced) (i := i) collects
    exact ⟨shape, counted_trans (counted_one rfl) counted⟩
  | add =>
    simp only [effect] at open_ ⊢
    cases held : (s.sheets.slots.get i).assembly with
    | none => simp [held] at open_
    | some a =>
      simp only [held, Option.bind_some] at open_ ⊢
      exact addFragment_joins held open_

/-- A first fragment that is its sheet's only one (R48). -/
theorem startAssembly_whole {now : Nat} {f : SheetFields} {cs : List Counter} (whole : started now f cs = none) :
    startAssembly now f = ⟨f.day, f.version, f.count, [(f.index, f.runs)], .complete, now⟩ := by
  unfold started at whole
  split at whole
  next one => simp only [startAssembly, assemblyStateOf, if_pos one]
  next => cases whole

/-- A fragment that makes its assembly whole (R49). -/
theorem addFragment_completes {s : State} {i : SlotIx} {f : SheetFields} {a : Assembly}
    (joins : joined s.elapsed f a = none) : s.addFragment i a f = s.putAssembly i { a with
      fragments := a.fragments ++ [(f.index, f.runs)], state := .complete, lastAddition := s.elapsed } := by
  unfold joined at joins
  split_ifs at joins with differs listed last
  rw [State.addFragment, if_neg differs, if_neg (mt listed_iff.1 listed), Assembly.addFragment, assemblyStateOf,
    if_pos last]

theorem fragmentEffect_add {today : Day} {a : Assembly} {f : SheetFields} :
    fragmentEffect today (some a) f = .add ↔ a.state ≠ .complete ∧ a.day = f.day ∧ a.version = f.version := by
  unfold fragmentEffect
  by_cases complete : a.state = .complete
  · simp [complete]
  by_cases other : a.day ≠ f.day
  · simp only [if_neg complete, if_pos other]
    split <;> simp [other]
  · simp only [ne_eq, not_not] at other
    by_cases same : a.version = f.version
    · simp [complete, other, same]
    · by_cases newer : newerVersion f.version a.version = true <;> simp [complete, other, same, newer]

/-- A fragment that makes its sheet whole: the assembly it completes goes to its slot (O28). -/
theorem applyFragment_whole {s : State} {i : SlotIx} {f : SheetFields}
    (whole : collected s.clock.day s.elapsed f (s.sheets.slots.get i).assembly = none) :
    ∃ v cs, v = { s with counters := v.counters } ∧ Counted cs s v ∧
      cs ++ [.fragmentAdded] = (madeWhole s.elapsed f (s.sheets.slots.get i).assembly).2 ∧
      (madeWhole s.elapsed f (s.sheets.slots.get i).assembly).1.state = .complete ∧
      s.applyFragment i f = v.putAssembly i (madeWhole s.elapsed f (s.sheets.slots.get i).assembly).1 := by
  rw [collected_eq] at whole
  unfold State.applyFragment
  cases effect : fragmentEffect s.clock.day (s.sheets.slots.get i).assembly f with
  | start =>
    simp only [effect] at whole ⊢
    rw [fragmentEffect_start effect, startAssembly_whole whole]
    exact ⟨s, [], rfl, counted_nil rfl, rfl, rfl, rfl⟩
  | setAside =>
    simp only [effect] at whole
    cases whole
  | replace =>
    simp only [effect] at whole ⊢
    cases held : (s.sheets.slots.get i).assembly with
    | none => simp [held, fragmentEffect] at effect
    | some a =>
      have incomplete : a.state ≠ .complete :=
        (fragmentEffect_cases s.clock.day (some a) f).resolve_left (fun aside => by simp [← held, effect] at aside) a rfl
      have other : ¬ (a.day = f.day ∧ a.version = f.version) := fun ⟨day, version⟩ => by
        have add := fragmentEffect_add (today := s.clock.day).2 ⟨incomplete, day, version⟩
        simp [← held, effect] at add
      simp only [madeWhole, if_neg other, startAssembly_whole whole]
      exact ⟨s.count .assemblyReplaced, [.assemblyReplaced], rfl, counted_one rfl, rfl, trivial, rfl⟩
  | add =>
    simp only [effect] at whole ⊢
    cases held : (s.sheets.slots.get i).assembly with
    | none => simp [held, fragmentEffect] at effect
    | some a =>
      simp only [held, Option.bind_some] at whole ⊢
      obtain ⟨-, day, version⟩ := fragmentEffect_add.1 (held ▸ effect)
      rw [addFragment_completes whole, madeWhole, if_pos ⟨day, version⟩]
      exact ⟨s, [], rfl, counted_nil rfl, rfl, rfl, rfl⟩

theorem sheetFrame_run {s : State} {dt : Nat} {g : ReceivedFrame} {rest : List ReceivedFrame}
    (head : AtHead .sheet g rest s) :
    exec (.sheetFrame dt) s = .next ((headTaken s dt rest).takeSheet (readSheet g.body)) :=
  congrArg Host.Outcome.next (onDispatch_atHead head)

/-- An accepted frame: the list is weighed, and the fragment goes to its slot (R46). -/
theorem takeSheet_accepted {s : State} {dt : Nat} {rest : List ReceivedFrame} {f : SheetFields} {i : SlotIx}
    (accepted : sheetRefusal s f = none) (serves : Serves s.loader.loaded i f.tag) :
    (headTaken s dt rest).takeSheet f = ((headTaken s dt rest).weighPublications f).applyFragment i f := by
  obtain ⟨ps, shape, -, -⟩ := weighPublications_weighs (headTaken s dt rest) f
  have same : sheetRefusal ((headTaken s dt rest).weighPublications f) f = sheetRefusal s f := by
    rw [shape]
    rfl
  exact acceptFragment_accepted (same.trans accepted) (by rw [shape]; exact serves)

/-- Settles O27: the list weighed, the fragment accepted and collected. -/
theorem fragmentsAreCollected : Obligations.FragmentsAreCollected := by
  intro s dt g rest i h cs head f accepted serves open_
  have run : exec (.sheetFrame dt) s = .next (((headTaken s dt rest).weighPublications f).applyFragment i f) :=
    (sheetFrame_run head).trans (congrArg Host.Outcome.next (takeSheet_accepted accepted serves))
  obtain ⟨ps, shape, weighed, counted⟩ := weighPublications_weighs (headTaken s dt rest) f
  generalize (headTaken s dt rest).weighPublications f = w at run shape counted
  obtain ⟨shape', counted'⟩ := applyFragment_collected (s := w) (i := i) (f := f) (h := h) (cs := cs)
    (by rw [shape]; simpa using open_)
  generalize w.applyFragment i f = t at run shape' counted'
  have sheets : t.sheets = { s.sheets with publications := ps }.setAssembly i h := by
    rw [shape', shape]
    rfl
  refine ⟨t, run, ?_, ?_, ?_, ?_, fun j => ?_, ?_, ?_⟩
  · rw [shape', shape]
    simp [onlyChanges_iff]
  · rw [shape', shape]
    simp [Passes]
  · rw [shape', shape]
    simp
  · rw [sheets]
    rfl
  · rw [sheets]
    exact setAssembly_get _ i j h
  · rw [sheets]
    exact weighed
  · rw [sheets]
    exact counted_congr (counted_trans counted counted') rfl rfl

/-- The slot whose COLLECTING assembly has waited longest, of equals the lowest (R50). -/
theorem longestCollecting_eq {v : Vector SlotSheets 6} {before after : List SlotIx} {i : SlotIx} {u : Nat}
    (since : (v.get i).collectingSince = some u)
    (earlier : ∀ j ∈ before, ∀ x, (v.get j).collectingSince = some x → u < x)
    (later : ∀ j x, (v.get j).collectingSince = some x → u ≤ x) :
    longestCollecting v (before ++ i :: after) = some (i, u) := by
  induction before with
  | nil =>
    rw [List.nil_append, longestCollecting, since]
    rcases rest : longestCollecting v after with _ | ⟨j, x⟩
    · rfl
    · exact if_pos (later j x (longestCollecting_since rest))
  | cons j before ih =>
    rw [List.cons_append, longestCollecting, ih fun k hk => earlier k (.tail _ hk)]
    rcases here : (v.get j).collectingSince with _ | x
    · rfl
    · exact if_neg (not_le.2 (earlier j (.head _) x here))

/-- Settles O29: the lowest slot of those that have waited longest. -/
theorem assembliesTimeOut : Obligations.AssembliesTimeOut := by
  intro s i u started since oldest limit
  have collects {j : SlotIx} {x : Nat} : (s.sheets.slots.get j).collectingSince = some x ↔ CollectsSince s j x :=
    collectingSince_eq_some
  have listed : i ∈ allSlots := (by decide : ∀ i : SlotIx, i ∈ allSlots) i
  obtain ⟨before, after, split⟩ := List.append_of_mem listed
  have ascending : allSlots.Pairwise (· < ·) := by decide
  rw [split, List.pairwise_append] at ascending
  have first : longestCollecting s.sheets.slots allSlots = some (i, u) := by
    rw [split]
    refine longestCollecting_eq (collects.2 since) (fun j hj x hx => ?_) (fun j x hx => ?_)
    · have below : j < i := ascending.2.2 j hj i (.head _)
      rcases oldest j x (collects.1 hx) with less | ⟨-, above⟩
      · exact less
      · exact absurd above (not_le.2 below)
    · rcases oldest j x (collects.1 hx) with less | ⟨same, -⟩ <;> omega
  have run : exec .assemblyTimeout s = .next ((s.advanceTo limit).timeOutAssembly i) := by
    simp [exec, execAssemblyTimeout, started, first, limit]
  refine ⟨_, run, by simp [onlyChanges_iff], ⟨by simp; omega, by simp; rfl⟩, rfl, fun j => ?_, counted_one rfl⟩
  exact setAssembly_get s.sheets i j none

/-! ### Commits (R51 to R53) -/

theorem runsOf_eq (a : Assembly) : runsOf a = a.runs := by
  have found (l : List (Nat × List Run)) (i : Nat) : l.lookup i = (l.find? fun f => f.1 = i).map (·.2) := by
    induction l with
    | nil => rfl
    | cons x rest ih =>
      obtain ⟨k, v⟩ := x
      by_cases same : i = k
      · simp [List.lookup, same]
      · have other : ¬ k = i := fun h => same h.symm
        simp [List.lookup, beq_false_of_ne same, other, ih]
  simp only [runsOf, Assembly.runs, found]

theorem ascendingRuns_iff {runs : List Run} : ascendingRuns runs = true ↔
    runs.Pairwise fun x y => x.origin < y.origin ∨ (x.origin = y.origin ∧ x.number ≤ y.number) := by
  induction runs with
  | nil => simp [ascendingRuns]
  | cons a rest ih =>
    cases rest with
    | nil => simp [ascendingRuns]
    | cons b rest =>
      rw [List.pairwise_cons, ← ih]
      simp only [ascendingRuns, Bool.and_eq_true, Bool.or_eq_true, decide_eq_true_eq]
      constructor
      · rintro ⟨first, ordered⟩
        refine ⟨fun x hx => ?_, ordered⟩
        rcases List.mem_cons.1 hx with rfl | later
        · exact first
        · have next := List.rel_of_pairwise_cons (ih.1 ordered) later
          omega
      · rintro ⟨first, ordered⟩
        exact ⟨first b (.head _), ordered⟩

theorem runInRange_iff {r : Run} :
    runInRange r = true ↔ r.origin ≤ 86399 ∧ ∀ i, r.terminal = some i → 1 ≤ i ∧ i ≤ 63 := by
  unfold runInRange
  cases r.terminal <;> simp

/-- Validation is what R52 asks for. -/
theorem good_iff {h : SlotSheets} {a : Assembly} : Good h a ↔ a.valid (h.versionFor a.day) = true := by
  have size (x : Nat × List Run) : fragmentSizeGood a.count x = true ↔
      if x.1 + 1 = a.count then x.2.length ≤ 7 else x.2.length = 7 := by
    unfold fragmentSizeGood
    split <;> simp
  simp only [Good, Assembly.valid, Bool.and_eq_true, List.all_eq_true, runsOf_eq, ← ascendingRuns_iff, distinctRuns_iff,
    runInRange_iff, size, and_assoc]

/-- The slot holds the sheet it has just stored (R53). -/
theorem versionFor_store (h : SlotSheets) (sh : Sheet) : (h.store sh).versionFor sh.day = sh.version := by
  have none_before : (h.sheets.filter fun x => x.day != sh.day).find? (fun x => x.day = sh.day) = none :=
    List.find?_eq_none.2 fun x hx => by simpa using (List.mem_filter.1 hx).2
  simp [SlotSheets.versionFor, SlotSheets.forDay, SlotSheets.store, List.find?_append, none_before]

/-- The state of a commit before its publication request (R53, R62). -/
def committed (s : State) (i : SlotIx) (a : Assembly) (rest : List SlotIx) : State :=
  (State.count { s with sheets := { s.sheets.setSlot i ((s.sheets.slots.get i).store ⟨a.day, a.version, a.runs⟩) with
    waiting := rest
    publications := s.sheets.publications.map fun p => p.renew i a.day a.version } } .sheetCommitted).startRebuild i a.day
      a.runs

theorem commitAssembly_eq (s : State) (i : SlotIx) (a : Assembly) (rest : List SlotIx) :
    s.commitAssembly i a rest = (committed s i a rest).requestPublication i a.day := rfl

/-- A commit from a state whose store is `st` but for the slot's assembly and the waiting order (R53, R58, R62). -/
theorem commitAssembly_commits {s u : State} {st : SheetStore} {i : SlotIx} {a : Assembly} {cs : List Counter}
    (slots : ∀ x, u.sheets.slots.set i x = st.slots.set i x)
    (own : (u.sheets.slots.get i).sheets = (st.slots.get i).sheets)
    (others : u.sheets = { st with slots := u.sheets.slots, waiting := u.sheets.waiting }) (tx : u.tx = s.tx)
    (counted : CountedOf commitCounters cs s u) : Commits st i a cs s (u.commitAssembly i a st.waiting) := by
  rw [commitAssembly_eq]
  have version : ((committed u i a st.waiting).sheets.slots.get i).versionFor a.day = a.version := by
    have stored : (committed u i a st.waiting).sheets.slots.get i =
        (u.sheets.slots.get i).store ⟨a.day, a.version, a.runs⟩ := by
      simp [committed, State.startRebuild, SheetStore.setSlot, Vector.get_eq_getElem]
    rw [stored]
    exact versionFor_store _ ⟨a.day, a.version, a.runs⟩
  have renewed : u.sheets.publications.map (fun p => p.renew i a.day a.version) = st.publications.map fun p =>
      if p.slot = i ∧ p.day = a.day then { p with version := a.version, cursor := 0 } else p := by
    rw [others]
    simp only [Publication.renew, isFor_iff]
  have desk : deskOf (committed u i a st.waiting) = ⟨st.publications.map fun p =>
      if p.slot = i ∧ p.day = a.day then { p with version := a.version, cursor := 0 } else p, s.tx.lfsr, st.made, []⟩ := by
    rw [← renewed, ← tx]
    simp only [deskOf, committed, State.startRebuild, State.count_frame, SheetStore.setSlot]
    rw [others]
  have asks := request_asks (committed u i a st.waiting) i a.day
  rw [version, desk] at asks
  have kept : (fun x : Sheet => x.day != a.day) = fun x => decide (x.day ≠ a.day) := by
    funext x
    simp [bne, beq_eq_decide]
  have store : (committed u i a st.waiting).sheets = { st with
      slots := st.slots.set i ⟨(st.slots.get i).sheets.filter (fun x => decide (x.day ≠ a.day)) ++
        [⟨a.day, a.version, runsOf a⟩], none⟩
      publications := u.sheets.publications.map fun p => p.renew i a.day a.version } := by
    simp only [committed, State.startRebuild, State.count_frame, SheetStore.setSlot, slots, SlotSheets.store, own, kept,
      runsOf_eq]
    rw [others]
  generalize (committed u i a st.waiting).requestPublication i a.day = t at asks
  obtain ⟨shape, count⟩ := asks
  have elapsed : (committed u i a st.waiting).elapsed = t.elapsed := by rw [shape]
  rw [elapsed] at shape count
  refine ⟨?_, ?_, ?_, ?_⟩
  · rw [congrArg State.sheets shape]
    simp only [store]
  · rw [congrArg State.tx shape]
    simp only [← tx]
    rfl
  · rw [congrArg State.table shape, runsOf_eq]
    rfl
  · exact countedOf_trans counted (counted_trans (as := [.sheetCommitted]) (counted_one rfl) count)

theorem requestPublication_movesOnly (s : State) (i : SlotIx) (day : Day) :
    MovesOnly commitCounters s (s.requestPublication i day) := by
  unfold State.requestPublication
  dsimp only
  split_ifs
  · exact movesOnly_count (movesOnly_of_counters rfl) (by decide)
  · exact movesOnly_count (movesOnly_of_counters rfl) (by decide)
  · exact movesOnly_count (movesOnly_of_counters rfl) (by decide)

theorem commitWaiting_movesOnly (l : List SlotIx) (s : State) : MovesOnly commitCounters s (commitWaiting l s) := by
  induction l generalizing s with
  | nil => exact movesOnly_of_counters rfl
  | cons i rest ih =>
    unfold commitWaiting
    split
    next => exact ih s
    next a held =>
      split
      · exact movesOnly_trans (movesOnly_count (movesOnly_of_counters rfl) (by decide)) (requestPublication_movesOnly _ i a.day)
      · exact movesOnly_trans (movesOnly_count (movesOnly_of_counters rfl) (by decide)) (ih _)

theorem tryCommit_movesOnly (s : State) : MovesOnly commitCounters s s.tryCommit := by
  unfold State.tryCommit
  split
  · exact movesOnly_of_counters rfl
  · exact commitWaiting_movesOnly _ s

/-- The state in which a COMPLETE assembly has joined those that wait (R51). -/
def joinedWaiting (s : State) (i : SlotIx) (a : Assembly) : State :=
  { s.count .fragmentAdded with
    sheets := { s.sheets.setAssembly i (some a) with waiting := s.sheets.waiting ++ [i] } }

theorem putAssembly_whole {s : State} {i : SlotIx} {a : Assembly} (whole : a.state = .complete) :
    s.putAssembly i a = (joinedWaiting s i a).tryCommit := by
  rw [State.putAssembly, if_pos whole]
  rfl

theorem emptied_get (slots : Vector SlotSheets 6) (is : List SlotIx) (j : SlotIx) :
    (emptied slots is).get j = if j ∈ is then { slots.get j with assembly := none } else slots.get j := by
  simp [emptied, Vector.get_eq_getElem]

/-- An assembly put in its slot and rejected leaves the slot without one. -/
theorem setAssembly_none_slots (st : SheetStore) (i : SlotIx) (a : Option Assembly) :
    ((st.setAssembly i a).setAssembly i none).slots = emptied st.slots [i] := slots_ext fun j => by
  rw [setAssembly_get, setAssembly_get, emptied_get]
  by_cases own : j = i <;> simp [own]

/-- The only waiting assembly with no rebuild in flight: it commits or is rejected (R51 to R53). -/
theorem tryCommit_single {s : State} {i : SlotIx} {a : Assembly} (clear : s.table.rebuild = none)
    (waiting : s.sheets.waiting = [i]) (held : (s.sheets.slots.get i).assembly = some a) :
    s.tryCommit = if a.valid ((s.sheets.slots.get i).versionFor a.day) then s.commitAssembly i a []
      else { s.rejectAssembly i with sheets := { (s.rejectAssembly i).sheets with waiting := [] } } := by
  rw [State.tryCommit, if_neg (by simp [clear]), waiting]
  simp only [commitWaiting, held]

/-- Cases none of which is among some counters leave those as they were. -/
theorem countedOf_nil {ks cs : List Counter} {s t : State} (h : Counted cs s t) (apart : ∀ c ∈ cs, c ∉ ks) :
    CountedOf ks [] s t := by
  intro k hk bound
  rw [h k bound, List.count_eq_zero_of_not_mem fun listed => apart k listed hk, List.count_nil]

theorem onlyChanges_trans {bs : List Block} {s t u : State} (h : OnlyChanges bs s t) (h' : OnlyChanges bs t u) :
    OnlyChanges bs s u := by
  refine ⟨h'.1.trans h.1, fun b hb => ?_⟩
  have first := h.2 b hb
  have second := h'.2 b hb
  cases b <;> exact Eq.trans second first

theorem onlyChanges_mono {bs cs : List Block} {s t : State} (sub : bs ⊆ cs) (h : OnlyChanges bs s t) :
    OnlyChanges cs s t := ⟨h.1, fun b hb => h.2 b fun listed => hb (sub listed)⟩

theorem tryCommit_table (s : State) : s.tryCommit.table = { s.table with rebuild := s.tryCommit.table.rebuild } := by
  have frame := tryCommit_fr s
  cases h : s.tryCommit.table
  simp only [h] at frame
  simp [frame]

theorem madeWhole_cases (now : Nat) (f : SheetFields) (held : Option Assembly) :
    (madeWhole now f held).2 = [.fragmentAdded] ∨ (madeWhole now f held).2 = [.assemblyReplaced, .fragmentAdded] := by
  unfold madeWhole
  cases held with
  | none => exact .inl rfl
  | some a => by_cases same : a.day = f.day ∧ a.version = f.version <;> simp [same]

/-- Settles O28: the whole sheet waits, commits or is rejected. -/
theorem wholeSheetsCommit : Obligations.WholeSheetsCommit := by
  intro s dt g rest i head waits f x accepted serves whole
  have run : exec (.sheetFrame dt) s = .next (((headTaken s dt rest).weighPublications f).applyFragment i f) :=
    (sheetFrame_run head).trans (congrArg Host.Outcome.next (takeSheet_accepted accepted serves))
  obtain ⟨ps, shape, weighed, counted⟩ := weighPublications_weighs (headTaken s dt rest) f
  generalize (headTaken s dt rest).weighPublications f = w at run shape counted
  have wsheets : w.sheets = { s.sheets with publications := ps } := by rw [shape]; simp
  have wtime : w.elapsed = s.elapsed + dt ∧ w.clock.day = s.clock.day := by rw [shape]; simp
  obtain ⟨v, cs, vshape, vcounted, cases_, complete, put⟩ := applyFragment_whole (s := w) (i := i) (f := f)
    (by rw [wsheets, wtime.1, wtime.2]; exact whole)
  have made : madeWhole w.elapsed f (w.sheets.slots.get i).assembly = x := by rw [wsheets, wtime.1]
  rw [made] at cases_ complete put
  rw [put, putAssembly_whole complete] at run
  have qshape : joinedWaiting v i x.1 = { headTaken s dt rest with
      sheets := { s.sheets.setAssembly i (some x.1) with waiting := s.sheets.waiting ++ [i], publications := ps }
      counters := (joinedWaiting v i x.1).counters } := by
    rw [vshape, shape]
    rfl
  have qcounted : Counted (List.replicate (s.sheets.publications.length - ps.length) .publicationSuppressed ++ x.2) s
      (joinedWaiting v i x.1) := by
    rw [← cases_, ← List.append_assoc]
    exact counted_trans (counted_trans (counted_congr counted rfl rfl) vcounted) (counted_one rfl)
  generalize joinedWaiting v i x.1 = q at run qshape qcounted
  have qsheets := congrArg State.sheets qshape
  have qtable : q.table = s.table := (congrArg State.table qshape).trans rfl
  have qtx : q.tx = s.tx := (congrArg State.tx qshape).trans rfl
  have uncounted : CountedOf commitCounters [] s q := by
    refine countedOf_nil qcounted fun c hc => ?_
    rcases List.mem_append.1 hc with suppressed | added
    · rw [List.eq_of_mem_replicate suppressed]
      decide
    · rcases madeWhole_cases (s.elapsed + dt) f (s.sheets.slots.get i).assembly with one | two
      · rw [show x.2 = _ from one] at added
        exact (by decide : ∀ c ∈ [Counter.fragmentAdded], c ∉ commitCounters) c added
      · rw [show x.2 = _ from two] at added
        exact (by decide : ∀ c ∈ [Counter.assemblyReplaced, .fragmentAdded], c ∉ commitCounters) c added
  have keeps : OnlyChanges [.elapsed, .clock, .sheets, .rx, .counters] s q ∧ Passes dt s q ∧
      q.rx = { s.rx with queue := rest } := by
    rw [qshape]
    exact ⟨by simp [onlyChanges_iff], by simp [Passes], by simp⟩
  obtain ⟨changes, passes, rx⟩ := keeps
  have slot : q.sheets.slots.get i = { s.sheets.slots.get i with assembly := some x.1 } := by
    rw [qsheets]
    exact (setAssembly_get s.sheets i i (some x.1)).trans (if_pos rfl)
  have alone (clear : s.table.rebuild = none) : s.sheets.waiting = [] := by
    by_contra waiting
    exact (waits.2.2 waiting).1 clear
  have single (clear : s.table.rebuild = none) := tryCommit_single (s := q) (i := i) (a := x.1) (by rw [qtable, clear])
    (by rw [qsheets, alone clear]; rfl) (by rw [slot])
  have valid : x.1.valid ((q.sheets.slots.get i).versionFor x.1.day) = true ↔ Good (s.sheets.slots.get i) x.1 := by
    rw [slot]
    exact good_iff.symm
  refine ⟨q.tryCommit, ps, run, ?_, ?_, by simpa using rx, ?_, weighed, ?_, fun flight => ?_, fun clear good => ?_,
    fun clear bad => ?_⟩
  · exact onlyChanges_trans (onlyChanges_mono (by decide) changes) (by simp [onlyChanges_iff])
  · simpa [Passes] using passes
  · rw [tryCommit_table, qtable]
  · exact countedOf_movesOnly (countedOf_of_counted qcounted) (tryCommit_movesOnly q) (by decide)
  · have stays : q.tryCommit = q := if_pos (by simpa [qtable, Option.isSome_iff_ne_none] using flight)
    rw [stays]
    refine ⟨?_, qtable, qtx, uncounted⟩
    exact qsheets
  · rw [single clear, if_pos (valid.2 good)]
    have commits := commitAssembly_commits (s := s) (u := q) (st := { s.sheets with publications := ps }) (i := i)
      (a := x.1) (cs := []) (fun y => by rw [qsheets]; simp [SheetStore.setAssembly, SheetStore.setSlot]) (by rw [slot])
      (by rw [qsheets]; rfl) qtx uncounted
    rw [show ({ s.sheets with publications := ps } : SheetStore).waiting = [] from alone clear] at commits
    exact commits
  · rw [single clear, if_neg (mt valid.1 bad)]
    refine ⟨?_, qtable, qtx, ?_⟩
    · rw [← setAssembly_none_slots s.sheets i (some x.1)]
      have rejected : (q.rejectAssembly i).sheets = q.sheets.setAssembly i none := rfl
      simp only [rejected, qsheets, alone clear]
      rfl
    · exact countedOf_trans uncounted (counted_one rfl)

end Sys2Proof.Proofs
end

section
/-! PROOF. The notice store and its rotation, and the frames that are refused (O42, O43). -/

namespace Sys2Proof.Proofs

open Sys2Proof Sys2Proof.Machine Sys2Proof.Claims

/-! ### The search of the rotation (R91) -/

/-- The place found is the first. -/
theorem placeWhere_first {α : Type} {p : α → Bool} {l : List α} {i j : Nat} {a : α} (h : placeWhere p l = some i)
    (listed : l[j]? = some a) (fits : p a = true) : i ≤ j := by
  induction l generalizing i j with
  | nil => cases h
  | cons b rest ih =>
    rw [placeWhere] at h
    split at h
    · cases h; exact Nat.zero_le j
    next miss =>
      obtain ⟨k, hk, rfl⟩ := Option.map_eq_some_iff.1 h
      cases j with
      | zero =>
        cases listed
        exact absurd fits miss
      | succ j => exact Nat.succ_le_succ (ih hk (by simpa using listed))

theorem turns_from {n i k : Nat} (from_ : i ≤ k) (below : k < n) : (k + n - i) % n = k - i := by
  rw [show k + n - i = k - i + n by omega, Nat.add_mod_right, Nat.mod_eq_of_lt (by omega)]

theorem turns_before {n i k : Nat} (before : k < i) (bound : i ≤ n) : (k + n - i) % n = k + n - i :=
  Nat.mod_eq_of_lt (by omega)

/-- The search finds the first eligible notice from a place on, with a wrap (R91). -/
theorem nextEligible_first {ns : List Notice} {i : Nat} (some_ : ns ≠ []) (bound : i ≤ ns.length) :
    ∃ j, nextEligible ns i = some j ∧ FirstFrom ns i j := by
  have waits {j : Nat} {n : Notice} (hn : ns[j]? = some n) (he : eligibleNotice ns n = true) :
      ∃ n, ns[j]? = some n ∧ (n.urgent = true ∨ ∀ m ∈ ns, m.urgent = false) := ⟨n, hn, eligibleNotice_iff.1 he⟩
  unfold nextEligible
  cases ahead : placeWhere (eligibleNotice ns) (ns.drop i) with
  | some k =>
    obtain ⟨n, hn, he⟩ := placeWhere_eq_some ahead
    rw [List.getElem?_drop] at hn
    have below : i + k < ns.length := (List.getElem?_eq_some_iff.1 hn).1
    refine ⟨i + k, rfl, waits hn he, ?_⟩
    rintro l ⟨m, hm, hu⟩
    have inside : l < ns.length := (List.getElem?_eq_some_iff.1 hm).1
    dsimp only
    rw [turns_from (Nat.le_add_right i k) below]
    by_cases later : i ≤ l
    · have least := placeWhere_first (j := l - i) ahead (by rwa [List.getElem?_drop, Nat.add_sub_cancel' later])
        (eligibleNotice_iff.2 hu)
      rw [turns_from later inside]
      omega
    · rw [turns_before (not_le.1 later) bound]
      omega
  | none =>
    have missing := placeWhere_eq_none ahead
    cases whole : placeWhere (eligibleNotice ns) ns with
    | none =>
      obtain ⟨n, hn, he⟩ := exists_eligible some_
      exact absurd he (by simp [placeWhere_eq_none whole n hn])
    | some j =>
      obtain ⟨n, hn, he⟩ := placeWhere_eq_some whole
      have early {l : Nat} {m : Notice} (hm : ns[l]? = some m) (he : eligibleNotice ns m = true) : l < i := by
        by_contra later
        have listed : m ∈ ns.drop i := List.mem_of_getElem? (i := l - i) (by
          rwa [List.getElem?_drop, Nat.add_sub_cancel' (not_lt.1 later)])
        simp [missing m listed] at he
      refine ⟨j, rfl, waits hn he, ?_⟩
      rintro l ⟨m, hm, hu⟩
      have fits := eligibleNotice_iff.2 hu
      dsimp only
      rw [turns_before (early hn he) bound, turns_before (early hm fits) bound]
      have least := placeWhere_first whole hm fits
      omega

/-- The search from a place on, and the instant it shows from. -/
theorem setNotices_turns {s : State} {ns : List Notice} {i : Nat} {same : Bool} (bound : i ≤ ns.length)
    (other : ns ≠ [] → same = false) : TurnsTo i s.elapsed s.board (s.setNotices ns (nextEligible ns i) same).board := by
  unfold TurnsTo
  by_cases none : ns = []
  · subst none
    simp [State.setNotices, nextEligible, placeWhere]
  · obtain ⟨j, found, first⟩ := nextEligible_first none bound
    have stored : (s.setNotices ns (nextEligible ns i) same).board.notices ≠ [] := none
    rw [if_neg stored, other none, found]
    exact ⟨rfl, j, rfl, first⟩

/-- A notice that no notice was current before (R91). -/
theorem settles_first {s : State} {ns : List Notice} {stays : Prop} {place : Nat} {kept : Option Nat} {search : Nat}
    {same : Bool} (current : s.board.current = none) (other : same = false) :
    Settles stays place s.elapsed s.board (s.setNotices ns (settledCurrent ns false kept search) same).board := by
  rw [Settles, current]
  exact setNotices_turns (Nat.zero_le _) fun _ => other

/-- The current notice has left (R91). -/
theorem settles_gone {s : State} {ns : List Notice} {stays : Prop} {place c : Nat} {same : Bool}
    (current : s.board.current = some c) (left : ¬ stays) (bound : place ≤ ns.length) (other : same = false) :
    Settles stays place s.elapsed s.board (s.setNotices ns (settledCurrent ns true none place) same).board := by
  rw [Settles, current]
  exact ⟨fun h => absurd h left, fun h => absurd h left, fun _ => setNotices_turns bound fun _ => other⟩

/-- The current notice is still stored, at a place (R91). -/
theorem settles_kept {s : State} {ns : List Notice} {stays : Prop} {place c search : Nat}
    (current : s.board.current = some c) (here : stays) (bound : place < ns.length) :
    Settles stays place s.elapsed s.board (s.setNotices ns (settledCurrent ns true (some place) search)
      ((some place).isSome && decide (settledCurrent ns true (some place) search = some place))).board := by
  have held : ns[place]? = some ns[place] := List.getElem?_eq_getElem bound
  rw [Settles, current]
  refine ⟨fun _ ⟨n, hn, eligible⟩ => ?_, fun _ away => ?_, fun h => absurd here h⟩
  · have stored : ns[place]? = some n := hn
    have fits : eligibleNotice ns n = true := eligibleNotice_iff.2 eligible
    have settled : settledCurrent ns true (some place) search = some place := by
      simp only [settledCurrent, stored, fits, if_true]
    simp [State.setNotices, settled]
  · obtain ⟨calm, m, hm, urgent⟩ := away _ held
    have ineligible : ¬ eligibleNotice ns ns[place] = true := fun eligible => by
      rcases eligibleNotice_iff.1 eligible with h | h
      · simp [h] at calm
      · simp [h m hm] at urgent
    have settled : settledCurrent ns true (some place) search = nextEligible ns (place + 1) := by
      simp only [settledCurrent, held, if_neg ineligible]
    obtain ⟨j, found, first⟩ := nextEligible_first (List.ne_nil_of_length_pos (by omega)) bound
    rw [settled]
    refine setNotices_turns bound fun _ => ?_
    obtain ⟨⟨n, hn, eligible⟩, -⟩ := first
    have other : j ≠ place := fun same => by
      rw [same, held] at hn
      cases hn
      exact ineligible (eligibleNotice_iff.2 eligible)
    simp [found, other]

/-! ### Expiries (R90) -/

/-- A notice that has not expired on a day and second (R90). -/
def Lasting (k : Clock) (n : Notice) : Bool :=
  decide ((n.expiryDay = k.day ∨ n.expiryDay = k.day + 1#16) ∧
    (k.second : Int) < 86400 * (n.expiryDay - k.day).toInt + n.expirySecond)

theorem expired_eq (s : State) (n : Notice) : n.expired s.clock.day s.now = !Lasting s.clock n := by
  have held : heldDay s.clock.day n.expiryDay = true ↔
      n.expiryDay = s.clock.day ∨ n.expiryDay = s.clock.day + 1#16 := by simp [heldDay]
  rw [Bool.eq_iff_iff]
  simp only [Notice.expired, Lasting, Bool.or_eq_true, Bool.not_eq_true', ← Bool.not_eq_true, held, decide_eq_true_eq,
    Notice.expiry, dayOffset, State.now, not_and_or, not_lt]
  exact or_congr Iff.rfl decide_eq_true_iff

/-- Notices leave, and the rotation is settled after them (R90, R91). -/
theorem removeNotices_settles {s : State} {keep : Notice → Bool} (sound : s.RotationSound) :
    (s.removeNotices fun n => !keep n).board.notices = s.board.notices.filter keep ∧
    Settles (∃ n, s.board.notices[s.board.current.getD 0]? = some n ∧ keep n = true)
      ((s.board.notices.take (s.board.current.getD 0)).countP keep) s.elapsed s.board
      (s.removeNotices fun n => !keep n).board := by
  unfold State.removeNotices
  simp only [Bool.not_not]
  cases current : s.board.current with
  | none => exact ⟨rfl, settles_first current rfl⟩
  | some i =>
    obtain ⟨n, hn, -⟩ := sound.2 i current
    obtain ⟨inside, rfl⟩ := List.getElem?_eq_some_iff.1 hn
    have parts : s.board.notices.filter keep = (s.board.notices.take i).filter keep ++
        (s.board.notices[i] :: s.board.notices.drop (i + 1)).filter keep := by
      rw [← List.drop_eq_getElem_cons inside, ← List.filter_append, List.take_append_drop]
    simp only [hn, List.countP_eq_length_filter, Option.getD_some, Option.some.injEq, exists_eq_left']
    refine ⟨rfl, ?_⟩
    by_cases stays : keep s.board.notices[i] = true
    · simp only [stays, Bool.not_true, Bool.false_eq_true, if_false]
      refine settles_kept current trivial ?_
      rw [parts, List.length_append, List.filter_cons_of_pos stays]
      simp
    · simp only [stays, Bool.not_false, if_true]
      refine settles_gone current (by simp) ?_ rfl
      rw [parts, List.length_append]
      omega

/-- Where every notice lasts, the rotation stands as it is settled. -/
theorem settles_untouched {s : State} {keep : Notice → Bool} {now : Nat} (sound : s.RotationSound)
    (all : ∀ n ∈ s.board.notices, keep n = true) :
    Settles (∃ n, s.board.notices[s.board.current.getD 0]? = some n ∧ keep n = true)
      ((s.board.notices.take (s.board.current.getD 0)).countP keep) now s.board s.board := by
  rw [Settles]
  cases current : s.board.current with
  | none =>
    have empty : s.board.notices = [] := by
      by_contra some_
      exact sound.1 some_ current
    simp [TurnsTo, empty, current]
  | some i =>
    obtain ⟨n, hn, eligible⟩ := sound.2 i current
    have inside : i < s.board.notices.length := (List.getElem?_eq_some_iff.1 hn).1
    have place : (s.board.notices.take i).countP keep = i := by
      rw [List.countP_eq_length.2 fun n hn => all n (List.mem_of_mem_take hn), List.length_take]
      omega
    have stays : keep n = true := all n (List.mem_of_getElem? hn)
    simp only [Option.getD_some, place]
    refine ⟨fun _ _ => ⟨trivial, trivial⟩, fun _ away => ?_, fun left => absurd ⟨n, hn, stays⟩ left⟩
    obtain ⟨calm, m, hm, urgent⟩ := away n hn
    rcases eligible with h | h
    · simp [h] at calm
    · simp [h m hm] at urgent

/-- The expiries of a board tick or an adoption (R90, R91). -/
theorem expireNotices_expires {s : State} (sound : s.RotationSound) :
    s.expireNotices.board.notices = s.board.notices.filter (Lasting s.clock) ∧
    Settles (∃ n, s.board.notices[s.board.current.getD 0]? = some n ∧ Lasting s.clock n = true)
      ((s.board.notices.take (s.board.current.getD 0)).countP (Lasting s.clock)) s.elapsed s.board
      s.expireNotices.board ∧
    Counted (List.replicate (s.board.notices.length - s.expireNotices.board.notices.length) .noticeExpired) s
      s.expireNotices := by
  have expired : (fun n => n.expired s.clock.day s.now) = fun n => !Lasting s.clock n := funext (expired_eq s)
  obtain ⟨notices, settles⟩ := removeNotices_settles (keep := Lasting s.clock) sound
  simp only [State.expireNotices, expired]
  by_cases none : (s.board.notices.countP fun n => !Lasting s.clock n) = 0
  · have all : ∀ n ∈ s.board.notices, Lasting s.clock n = true := by simpa using none
    rw [if_pos none]
    exact ⟨(List.filter_eq_self.2 all).symm, settles_untouched sound all, by simpa using counted_nil rfl⟩
  · rw [if_neg none]
    refine ⟨notices, settles, ?_⟩
    have gone : s.board.notices.length - (s.removeNotices fun n => !Lasting s.clock n).board.notices.length =
        s.board.notices.countP fun n => !Lasting s.clock n := by
      rw [notices, ← List.countP_eq_length_filter, List.length_eq_countP_add_countP (Lasting s.clock)]
      simp
    rw [← gone]
    exact counted_many (cs := []) (s.removeNotices fun n => !Lasting s.clock n) (counted_nil (s := s) (by simp)) rfl

/-! ### Frames that are refused (R46, R66, R67, R86) -/

theorem adopts_iff {k : Clock} {f : ClockFields} {p : Moment} :
    adopts k f p = true ↔ Adopted k (k.second * 1000 + k.phase) f ⟨p.day, p.ms⟩ := by
  simp [adopts, Adopted, timeDifference, distance, dayOffset, Clock.ownMs, or_assoc]

/-- Whether a frame is adopted goes by the time since valid time (R64, R67). -/
theorem headTaken_adopted {s : State} {dt : Nat} {rest : List ReceivedFrame} {f : ClockFields} {p : Present} :
    Adopted (headTaken s dt rest).clock
      ((headTaken s dt rest).clock.second * 1000 + (headTaken s dt rest).clock.phase) f p ↔
    Adopted s.clock (s.clock.second * 1000 + s.clock.phase + dt) f p := by
  cases valid : s.clock.timeValid with
  | false => simp [Adopted, valid]
  | true => simp [Adopted, clockAfter, valid, add_assoc]

theorem clock_malformed_iff {f : ClockFields} : f.malformed = true ↔ f.stratum = 7 ∨ 86399 < f.second := by
  simp [ClockFields.malformed]

theorem clockFrame_run {s : State} {dt : Nat} {a b : Bool} {g : ReceivedFrame} {rest : List ReceivedFrame}
    (head : AtHead .clock g rest s) : exec (.clockFrame dt a b) s =
      .next ((headTaken s dt rest).takeClock (readClock g.body) g.stamp a b) :=
  congrArg Host.Outcome.next (onDispatch_atHead head)

theorem noticeFrame_run {s : State} {dt : Nat} {g : ReceivedFrame} {rest : List ReceivedFrame}
    (head : AtHead .notice g rest s) : exec (.noticeFrame dt) s =
      .next ((headTaken s dt rest).takeNotice (readNotice g.body)) :=
  congrArg Host.Outcome.next (onDispatch_atHead head)

/-- A frame counted and nothing else. -/
theorem refused_counts (s : State) (dt : Nat) (rest : List ReceivedFrame) (c : Counter) :
    OnlyChanges [.elapsed, .clock, .rx, .counters] s ((headTaken s dt rest).count c) ∧
      Passes dt s ((headTaken s dt rest).count c) ∧
      ((headTaken s dt rest).count c).rx = { s.rx with queue := rest } ∧
      Counted [c] s ((headTaken s dt rest).count c) :=
  ⟨by simp [onlyChanges_iff], by simp [Passes], by simp, counted_one rfl⟩

theorem notice_malformed_iff {f : NoticeFields} : f.malformed = true ↔
    2 < f.scope ∨ 1 < f.priority ∨ (f.scope = 1 ∧ f.scopeId % 4096 = 0) ∨ 86399 < f.expirySecond ∨ 15 < f.hops := by
  simp [NoticeFields.malformed, or_assoc]

theorem notice_eq (f : NoticeFields) : f.notice = noticeOf f := by
  unfold NoticeFields.notice NoticeFields.scopeOf noticeOf
  congr 1
  by_cases route : f.scope = 1
  · simp [route]
  · by_cases stop : f.scope = 2
    · simp [stop]
    · rw [if_neg route, if_neg stop]
      split
      · contradiction
      · contradiction
      · rfl

theorem expired_iff (s : State) (n : Notice) : n.expired s.clock.day s.now = true ↔
    (n.expiryDay ≠ s.clock.day ∧ n.expiryDay ≠ s.clock.day + 1#16) ∨ expiryOf s.clock.day n ≤ s.clock.second := by
  simp [expired_eq, Lasting, expiryOf]

theorem notNewer_iff {ns : List Notice} {n : Notice} : notNewer ns n.origin n.serial = true ↔
    ∃ m ∈ ns, m.origin = n.origin ∧ ¬ (1 ≤ (n.serial - m.serial).toNat ∧ (n.serial - m.serial).toNat ≤ 127) := by
  simp only [notNewer, List.any_eq_true, Bool.and_eq_true, Bool.not_eq_true', decide_eq_true_eq, newerSerial,
    ← Bool.not_eq_true]

/-- The checks of a NOTICE frame in their order (R86). -/
theorem noticeRefusal_eq (s : State) (f : NoticeFields) : s.noticeRefusal f = noticeRefusal s f := by
  have scope : f.scopeOf = (noticeOf f).scope := congrArg Notice.scope (notice_eq f)
  unfold State.noticeRefusal noticeRefusal
  simp only [notice_malformed_iff, notice_eq, expired_iff, scope]
  have newer := notNewer_iff (ns := s.board.notices) (n := noticeOf f)
  rw [show (noticeOf f).origin = f.origin from rfl, show (noticeOf f).serial = f.serial from rfl] at newer
  simp only [newer]
  cases (noticeOf f).scope <;> simp [inScope] <;> rfl

/-- Settles O42: each frame's checks, in their order. -/
theorem clockSheetAndNoticeFramesRefused : Obligations.ClockSheetAndNoticeFramesRefused := by
  refine ⟨?_, ?_, ?_⟩
  · intro s dt a b g rest head f p bad refused
    refine ⟨_, clockFrame_run head, ?_⟩
    have counts := refused_counts s dt rest
    have same : adopts (headTaken s dt rest).clock f (presentTime f (s.elapsed + dt - g.stamp)) = true ↔
        Adopted s.clock (s.clock.second * 1000 + s.clock.phase + dt) f p := by
      rw [adopts_iff, headTaken_adopted]
      rfl
    have taken : (headTaken s dt rest).takeClock f g.stamp a b = (headTaken s dt rest).count
        (if bad then .clockMalformed else if s.clock.stratum ≤ f.stratum then .clockOutranked else .clockAgreeing) := by
      unfold State.takeClock
      by_cases malformed : bad
      · rw [if_pos (clock_malformed_iff.2 malformed), if_pos malformed]
      · rw [if_neg (mt clock_malformed_iff.1 malformed), if_neg malformed]
        refine (if_neg (mt same.1 (refused.resolve_left malformed))).trans ?_
        by_cases outranked : s.clock.stratum ≤ f.stratum
        · exact (if_pos (Nat.lt_succ_of_le outranked)).trans (by rw [if_pos outranked])
        · exact (if_neg (by simpa using outranked)).trans (by rw [if_neg outranked])
    exact taken ▸ counts _
  · intro s dt g rest c head f refusal
    obtain ⟨ps, shape, weighed, counted⟩ := weighPublications_weighs (headTaken s dt rest) f
    have taken : (headTaken s dt rest).takeSheet f = ((headTaken s dt rest).weighPublications f).count c := by
      have same : sheetRefusal ((headTaken s dt rest).weighPublications f) f = sheetRefusal s f := by
        rw [shape]
        rfl
      exact (acceptFragment_eq _ f).trans (by rw [same, refusal])
    refine ⟨_, (sheetFrame_run head).trans (congrArg Host.Outcome.next taken), ?_⟩
    generalize (headTaken s dt rest).weighPublications f = w at shape counted
    have sheets : w.sheets = { s.sheets with publications := ps } := (congrArg State.sheets shape).trans rfl
    refine ⟨?_, ?_, ?_, ?_, ?_, ?_⟩
    · rw [shape]
      simp [onlyChanges_iff]
    · rw [shape]
      simp [Passes]
    · rw [shape]
      simp
    · simp [sheets]
    · simpa [sheets] using weighed
    · simpa [sheets] using counted_congr (s' := s) (counted_trans counted (counted_one (s := w) (c := c) rfl)) rfl rfl
  · intro s dt g rest c head refusal
    have taken : (headTaken s dt rest).takeNotice (readNotice g.body) = (headTaken s dt rest).count c := by
      have same : (headTaken s dt rest).noticeRefusal (readNotice g.body) = some c :=
        (noticeRefusal_eq _ _).trans refusal
      rw [State.takeNotice, same]
    exact ⟨_, (noticeFrame_run head).trans (congrArg Host.Outcome.next taken), refused_counts s dt rest c⟩

/-! ### Storing (R87 to R89) -/

theorem replaceNotice_settles {s : State} {i : Nat} {n : Notice} (sound : s.RotationSound)
    (inside : i < s.board.notices.length) :
    Settles True (s.board.current.getD 0) s.elapsed s.board (s.replaceNotice i n).board := by
  unfold State.replaceNotice
  cases current : s.board.current with
  | none => exact absurd current (sound.1 (List.ne_nil_of_length_pos (by omega)))
  | some c =>
    obtain ⟨m, hm, -⟩ := sound.2 c current
    exact settles_kept current trivial (by simpa using (List.getElem?_eq_some_iff.1 hm).1)

theorem appendNotice_settles {s : State} {n : Notice} (sound : s.RotationSound) :
    Settles True (s.board.current.getD 0) s.elapsed s.board (s.appendNotice n).board := by
  unfold State.appendNotice
  cases current : s.board.current with
  | none => exact settles_first current rfl
  | some c =>
    obtain ⟨m, hm, -⟩ := sound.2 c current
    have inside := (List.getElem?_eq_some_iff.1 hm).1
    exact settles_kept current trivial (by simp; omega)

theorem evictNotice_settles {s : State} {place : Nat} {n : Notice} (sound : s.RotationSound)
    (inside : place < s.board.notices.length) :
    Settles (s.board.current.getD 0 ≠ place)
      (if place < s.board.current.getD 0 then s.board.current.getD 0 - 1 else s.board.current.getD 0) s.elapsed s.board
      (s.evictNotice place n).board := by
  have room : (s.board.notices.eraseIdx place ++ [n]).length = s.board.notices.length := by
    rw [List.length_append, List.length_eraseIdx_of_lt inside, List.length_singleton]
    omega
  unfold State.evictNotice
  cases current : s.board.current with
  | none => exact absurd current (sound.1 (List.ne_nil_of_length_pos (by omega)))
  | some c =>
    obtain ⟨m, hm, -⟩ := sound.2 c current
    have bound := (List.getElem?_eq_some_iff.1 hm).1
    simp only [Option.getD_some, Option.bind_some, Option.isSome_some]
    by_cases own : c = place
    · subst own
      simp only [if_true, lt_irrefl, if_false]
      exact settles_gone current (fun h => h rfl) (by omega) rfl
    · simp only [own, if_false]
      by_cases later : place < c
      · simp only [later, if_true]
        exact settles_kept current own (by omega)
      · simp only [later, if_false]
        exact settles_kept current own (by omega)

theorem noticeFrame_eq (n : Notice) (hops : Nat) : noticeFrame n hops =
    ⟨BitVec.ofNat 8 (160 + match n.scope with
      | .route tag => tag % 32
      | _ => 0), noticeBody n hops⟩ := by
  cases scope : n.scope <;> simp [noticeFrame, header, Kind.code, Scope.group, routeGroup, scope]

/-- The notices' counters (R86 to R89). -/
def noticeCounters : List Counter :=
  [.noticeTruncated, .noticeStored, .noticeReplaced, .noticeEvicted, .noticeDiscarded, .noticeRelayed]

/-- The frame a stored notice is relayed in. -/
def relayOf (n : Notice) (hops : Nat) : SendFrame :=
  ⟨BitVec.ofNat 8 (160 + match n.scope with
    | .route tag => tag % 32
    | _ => 0), noticeBody n (hops - 1)⟩

theorem relayNotice_eq (s : State) (n : Notice) (hops : Nat) : s.relayNotice n hops =
    if 0 < hops then (s.count .noticeRelayed).placeRelay (relayOf n hops) else s := by
  rw [State.relayNotice, noticeFrame_eq]
  rfl

theorem relayNotice_relayed (s : State) (n : Notice) (hops : Nat) :
    Relayed (if 0 < hops then [relayOf n hops] else []) s (s.relayNotice n hops) := by
  rw [relayNotice_eq]
  split
  · have placed := placeRelay_eq (s.count .noticeRelayed) (relayOf n hops)
    rw [Relayed, List.foldl_cons, List.foldl_nil, arbitrated_congr (s := s.count .noticeRelayed) (by simp) (by simp)
      (by simp)]
    simpa using congrArg State.tx placed
  · rfl

theorem relayNotice_counted (s : State) (n : Notice) (hops : Nat) :
    CountedOf noticeCounters (if 0 < hops then [.noticeRelayed] else []) s (s.relayNotice n hops) := by
  rw [relayNotice_eq]
  split
  · exact countedOf_movesOnly (countedOf_of_counted (counted_one rfl)) (placeRelay_movesOnly _ _) (by decide)
  · exact countedOf_of_counted (counted_nil rfl)

theorem relayNotice_busy {s : State} {n : Notice} {hops : Nat} (busy : s.tx.state ≠ .idle) :
    (s.relayNotice n hops).tx.state ≠ .idle := by
  rw [relayNotice_eq]
  split
  · rw [placeRelay_eq]
    exact granting_busy busy
  · exact busy

theorem countedOf_append {ks as bs : List Counter} {s u t : State} (h : CountedOf ks as s u) (h' : CountedOf ks bs u t) :
    CountedOf ks (as ++ bs) s t := by
  intro k hk bound
  have first := h k hk bound
  rw [h' k hk (by omega), first, List.count_append]
  omega

/-- A frame that has changed nothing but the store, then the relay, the composition and the command's end. -/
theorem noticeTaken_of {s v : State} {dt : Nat} {rest : List ReceivedFrame} {f : NoticeFields} {ns : List Notice}
    {stays : Prop} {place : Nat} {cs : List Counter} {isStored : Bool} {b : Board} (started : s.started = true)
    (sound : s.RadioSound) (shape : v = { headTaken s dt rest with board := b, counters := v.counters })
    (counted : Counted (cs ++ if 30 < f.text.length then [.noticeTruncated] else []) s v) (notices : b.notices = ns)
    (settles : isStored = true → Settles stays place (s.elapsed + dt) s.board b) (same : isStored = false → b = s.board) :
    NoticeTaken dt rest f ns stays place cs isStored s
      (if isStored = true then v.relayNotice (noticeOf f) f.hops else v).compose.finish := by
  have vtx : v.tx = s.tx := (congrArg State.tx shape).trans rfl
  have vboard : v.board = b := congrArg State.board shape
  obtain ⟨w, weq⟩ : ∃ w, w = if isStored = true then v.relayNotice (noticeOf f) f.hops else v := ⟨_, rfl⟩
  rw [← weq]
  have wshape : w = { headTaken s dt rest with board := b, tx := w.tx, counters := w.counters } := by
    cases isStored with
    | false =>
      rw [if_neg (by decide)] at weq
      rw [weq, shape]
    | true =>
      rw [if_pos rfl, relayNotice_eq] at weq
      rw [weq]
      split
      · rw [placeRelay_eq, shape]
        split <;> rfl
      · rw [shape]
  have relayed : Relayed (if (isStored && decide (0 < f.hops)) = true then [relayOf (noticeOf f) f.hops] else []) v w := by
    cases isStored with
    | false => simp [weq, Relayed]
    | true => simpa [weq] using relayNotice_relayed v (noticeOf f) f.hops
  have wcounted : CountedOf noticeCounters
      (if (isStored && decide (0 < f.hops)) = true then [.noticeRelayed] else []) v w := by
    cases isStored with
    | false => simpa [weq] using countedOf_of_counted (counted_nil (s := v) rfl)
    | true => simpa [weq] using relayNotice_counted v (noticeOf f) f.hops
  have busy (h : s.tx.state ≠ .idle) : w.tx.state ≠ .idle := by
    cases isStored with
    | false => simpa [weq, vtx] using h
    | true =>
      rw [weq, if_pos rfl]
      exact relayNotice_busy (vtx ▸ h)
  clear weq
  have composed := compose_movesOnly w
  have settled := finish_counters_of_sound (queue := rest) (v := w.compose) sound (by rw [wshape]; simp)
    (by rw [wshape]; simp) (by simpa using busy) (by rw [wshape]; simp)
  have board : w.compose.finish.board = { b with targets := w.compose.finish.composedTargets } := by
    have targets : w.compose.finish.composedTargets = w.composedTargets := composedTargets_congr (by simp) (by simp)
      (by simp) (by simp) (by simp) (by simp) (by simp)
    have wboard : w.board = b := congrArg State.board wshape
    rw [targets, ← wboard, ← compose_board]
    simp
  refine ⟨?_, ?_, ?_, ?_, ?_, fun stored => ?_, fun discarded => ?_, ?_, ?_⟩
  · rw [wshape]
    simp [onlyChanges_iff]
  · rw [wshape]
    simp [Passes]
  · rw [wshape]
    exact rxSettles_finish (by simpa [State.started] using started) (by simp)
  · rw [board]
    exact notices
  · rw [board]
  · rw [board, show w.compose.finish.elapsed = s.elapsed + dt by rw [wshape]; simp]
    exact settles stored
  · rw [board, same discarded]
  · exact countedOf_movesOnly (countedOf_append (countedOf_of_counted counted) wcounted)
      (fun k hk => (State.counter_congr settled k).trans (composed k hk)) (by decide)
  · rw [Relayed, ← vtx]
    exact relayed_congr relayed (by simp) (by simp) (by simp) (by simp) (by simp)

/-! ### The notice an URGENT one evicts (R88) -/

/-- The first of the earliest of a list stands before all others. -/
theorem earliestExpiry_first {day : Day} {before after : List (Nat × Notice)} {x : Nat × Notice}
    (ahead : ∀ y ∈ before, x.2.expiry day < y.2.expiry day) (behind : ∀ y ∈ after, x.2.expiry day ≤ y.2.expiry day) :
    earliestExpiry day (before ++ x :: after) = some x := by
  induction before with
  | nil =>
    rw [List.nil_append, earliestExpiry]
    cases found : earliestExpiry day after with
    | none => rfl
    | some y => simp [behind y (earliestExpiry_mem found)]
  | cons y rest ih =>
    rw [List.cons_append, earliestExpiry, ih fun z hz => ahead z (List.mem_cons_of_mem y hz)]
    simp [ahead y List.mem_cons_self]

theorem evictionPlace_eq {day : Day} {before after : List Notice} {m : Notice} (normal : m.urgent = false)
    (ahead : ∀ x ∈ before, x.urgent = false → expiryOf day m < expiryOf day x)
    (behind : ∀ x ∈ after, x.urgent = false → expiryOf day m ≤ expiryOf day x) :
    evictionPlace day (before ++ m :: after) = some before.length := by
  have first := earliestExpiry_first (day := day) (x := (before.length, m))
    (before := (before.zipIdx.map fun p => (p.2, p.1)).filter fun p => !p.2.urgent)
    (after := ((after.zipIdx (before.length + 1)).map fun p => (p.2, p.1)).filter fun p => !p.2.urgent)
    (fun y hy => by
      obtain ⟨listed, calm⟩ := List.mem_filter.1 hy
      obtain ⟨p, hp, rfl⟩ := List.mem_map.1 listed
      exact ahead p.1 (List.fst_mem_of_mem_zipIdx hp) (by simpa using calm))
    (fun y hy => by
      obtain ⟨listed, calm⟩ := List.mem_filter.1 hy
      obtain ⟨p, hp, rfl⟩ := List.mem_map.1 listed
      exact behind p.1 (List.fst_mem_of_mem_zipIdx hp) (by simpa using calm))
  simp [evictionPlace, List.zipIdx_append, List.zipIdx_cons, List.filter_append, normal, first]

theorem evictionPlace_none {day : Day} {ns : List Notice} (urgent : ∀ x ∈ ns, x.urgent = true) :
    evictionPlace day ns = none := by
  have empty : ((ns.zipIdx.map fun p => (p.2, p.1)).filter fun p => !p.2.urgent) = [] := by
    refine List.filter_eq_nil_iff.2 fun y hy => ?_
    obtain ⟨p, hp, rfl⟩ := List.mem_map.1 hy
    simp [urgent p.1 (List.fst_mem_of_mem_zipIdx hp)]
  rw [evictionPlace, empty]
  rfl

theorem placeWhere_at {α : Type} {p : α → Bool} {before after : List α} {a : α} (ahead : ∀ x ∈ before, p x = false)
    (fits : p a = true) : placeWhere p (before ++ a :: after) = some before.length := by
  induction before with
  | nil => simp [placeWhere, fits]
  | cons b rest ih =>
    simp [placeWhere, ahead b List.mem_cons_self, ih fun x hx => ahead x (List.mem_cons_of_mem b hx)]

theorem placeWhere_none {α : Type} {p : α → Bool} {l : List α} (misses : ∀ x ∈ l, p x = false) :
    placeWhere p l = none := by
  induction l with
  | nil => rfl
  | cons b rest ih =>
    simp [placeWhere, misses b List.mem_cons_self, ih fun x hx => misses x (List.mem_cons_of_mem b hx)]

/-! ### The notice stored, and its relay (O43) -/

/-- A stored notice, whose case or cases `cs` are counted, with the composition and the command's end. -/
theorem noticeFrame_taken {s u v : State} {dt : Nat} {rest : List ReceivedFrame} {g : ReceivedFrame} {cs : List Counter}
    {ns : List Notice} {stays : Prop} {place : Nat} (isStored : Bool) (head : AtHead .notice g rest s)
    (sound : s.RadioSound)
    (accepted : noticeRefusal s (readNotice g.body) = none)
    (base : u = (headTaken s dt rest).countTruncation (readNotice g.body))
    (stored : u.storeNotice (noticeOf (readNotice g.body)) (readNotice g.body).hops =
      if isStored = true then v.relayNotice (noticeOf (readNotice g.body)) (readNotice g.body).hops else v)
    (shape : v = { u with board := v.board, counters := v.counters }) (counted : Counted cs u v)
    (settles : isStored = true → Settles stays place (s.elapsed + dt) s.board v.board)
    (same : isStored = false → v.board = s.board) (notices : v.board.notices = ns) :
    ∃ t, exec (.noticeFrame dt) s = .next t ∧
      NoticeTaken dt rest (readNotice g.body) ns stays place cs isStored s t := by
  have ushape : u = { headTaken s dt rest with counters := u.counters } := by
    rw [base, State.countTruncation]
    split <;> rfl
  have truncated : Counted (if 30 < (readNotice g.body).text.length then [.noticeTruncated] else []) s u := by
    rw [base, State.countTruncation]
    split
    · exact counted_one rfl
    · exact counted_nil rfl
  have taken : (headTaken s dt rest).takeNotice (readNotice g.body) =
      (u.storeNotice (noticeOf (readNotice g.body)) (readNotice g.body).hops).compose.finish := by
    have passes : (headTaken s dt rest).noticeRefusal (readNotice g.body) = none :=
      (noticeRefusal_eq _ _).trans accepted
    rw [State.takeNotice, passes, base, notice_eq]
  refine ⟨_, (noticeFrame_run head).trans (congrArg Host.Outcome.next taken), ?_⟩
  rw [stored]
  refine noticeTaken_of head.1 sound (b := v.board) ?_ (counted_perm (counted_trans truncated counted)
    List.perm_append_comm) notices settles same
  rw [ushape] at shape
  exact shape

/-- Settles O43: the place of the notice's origin, else the room there is. -/
theorem noticesAreStored : Obligations.NoticesAreStored := by
  intro s dt g rest head sound rotation f n i accepted
  obtain ⟨u, base⟩ : ∃ u, u = (headTaken s dt rest).countTruncation f := ⟨_, rfl⟩
  have ushape : u = { headTaken s dt rest with counters := u.counters } := by
    rw [base, State.countTruncation]
    split <;> rfl
  have uboard : u.board = s.board := by rw [ushape]; rfl
  have unow : u.elapsed = s.elapsed + dt := by rw [ushape]; rfl
  have uday : u.clock.day = s.clock.day := by rw [ushape]; rfl
  have settled : u.RotationSound := by
    rw [State.RotationSound, uboard]
    exact rotation
  have stranger (strange : ∀ x ∈ s.board.notices, x.origin ≠ n.origin) :
      originPlace u.board.notices n.origin = none := by
    rw [uboard]
    exact placeWhere_none (by simpa using strange)
  refine ⟨fun before m after list own others => ?_, fun strange => ⟨fun room => ?_, fun full urgent before m after list
    calm ahead behind => ?_, fun full refused => ?_⟩⟩
  · have place : originPlace u.board.notices n.origin = some before.length := by
      rw [uboard, list]
      exact placeWhere_at (by simpa using others) (by simpa using own)
    have inside : before.length < u.board.notices.length := by
      rw [uboard, list]
      simp
    have stored : u.storeNotice n f.hops =
        ((u.replaceNotice before.length n).count .noticeReplaced).relayNotice n f.hops := by
      rw [State.storeNotice, place]
    have settles := replaceNotice_settles (n := n) settled inside
    rw [unow, uboard] at settles
    exact noticeFrame_taken (v := (u.replaceNotice before.length n).count .noticeReplaced) true head sound
      accepted base stored rfl (counted_one rfl) (fun _ => settles) (fun h => nomatch h)
      ((congrArg (List.set · before.length n) (uboard ▸ list)).trans (by simp))
  · have stored : u.storeNotice n f.hops = ((u.appendNotice n).count .noticeStored).relayNotice n f.hops := by
      rw [State.storeNotice, stranger strange, State.storeNew, uboard]
      exact if_pos room
    have settles := appendNotice_settles (n := n) settled
    rw [unow, uboard] at settles
    exact noticeFrame_taken (v := (u.appendNotice n).count .noticeStored) true head sound accepted base stored rfl
      (counted_one rfl) (fun _ => settles) (fun h => nomatch h) (congrArg (· ++ [n]) (congrArg Board.notices uboard))
  · have place : evictionPlace u.clock.day u.board.notices = some before.length := by
      rw [uboard, uday, list]
      exact evictionPlace_eq calm ahead behind
    have inside : before.length < u.board.notices.length := by
      rw [uboard, list]
      simp
    have stored : u.storeNotice n f.hops =
        (((u.evictNotice before.length n).count .noticeEvicted).count .noticeStored).relayNotice n f.hops := by
      rw [State.storeNotice, stranger strange, State.storeNew, if_pos urgent, place]
      exact if_neg (not_lt.2 (uboard ▸ full))
    have settles := evictNotice_settles (n := n) settled inside
    rw [unow, uboard] at settles
    exact noticeFrame_taken (v := ((u.evictNotice before.length n).count .noticeEvicted).count .noticeStored) true head
      sound accepted base stored rfl (counted_trans (counted_one rfl) (counted_one rfl)) (fun _ => settles)
      (fun h => nomatch h)
      ((congrArg (List.eraseIdx · before.length ++ [n]) (uboard ▸ list)).trans (by simp [List.eraseIdx_append_of_length_le]))
  · have stored : u.storeNotice n f.hops = u.count .noticeDiscarded := by
      rw [State.storeNotice, stranger strange, State.storeNew]
      refine (if_neg (not_lt.2 (uboard ▸ full))).trans ?_
      by_cases urgent : n.urgent = true
      · rw [if_pos urgent, evictionPlace_none (uboard ▸ refused.resolve_left (by simp [urgent]))]
      · rw [if_neg urgent]
    exact noticeFrame_taken (v := u.count .noticeDiscarded) (stays := True) (place := i) false head sound accepted base
      stored rfl (counted_one rfl) (fun h => nomatch h) (fun _ => uboard) (congrArg Board.notices uboard)

end Sys2Proof.Proofs
end

section
/-! PROOF. The departure table's shared operations: what an evaluation of all entries, the sight-loss checks, a fill
pass, the rollover and a flush leave, and what they count. -/

namespace Sys2Proof.Proofs

open Sys2Proof Sys2Proof.Machine Sys2Proof.Claims

/-! ### Counting with lists that differ in order only -/

theorem countedOf_perm {ks cs ds : List Counter} {s t : State} (h : CountedOf ks cs s t) (p : cs.Perm ds) :
    CountedOf ks ds s t := by
  intro k hk bound
  rw [← p.count_eq]
  exact h k hk bound

/-! ### Evaluation (R26, R27) -/

theorem outdated_eq (s : State) (e : Entry) : outdated s e = e.stale s.loader.loaded s.now := by
  rw [Bool.eq_iff_iff, stale_iff, outdated]
  cases e.observation <;> simp [State.now]

theorem evaluated_eq (s : State) (e : Entry) : evaluated s e = e.evaluate s.loader.loaded s.now := by
  rw [evaluate_eq, evaluated, outdated_eq, Entry.dropStale]
  split
  · exact (judgedEntry_unobserved (e := { e with observation := none }) rfl rfl).symm
  · rfl

theorem evaluated_congr {s t : State} (loader : t.loader = s.loader) (second : t.clock.second = s.clock.second) :
    evaluated t = evaluated s := by
  funext e
  rw [evaluated_eq, evaluated_eq, loader, State.now, second, State.now]

theorem outdated_congr {s t : State} (loader : t.loader = s.loader) (second : t.clock.second = s.clock.second) :
    outdated t = outdated s := by
  funext e
  rw [outdated_eq, outdated_eq, loader, State.now, second, State.now]

theorem judgedEntry_atStop {c : Loaded} {now : Int} {e e' : Entry} (h : judgedEntry c now e = some e') :
    e'.state = .atStop ↔ e.state = .atStop := by
  rw [judgedEntry] at h
  obtain ⟨-, same⟩ := Option.ite_none_left_eq_some.1 h
  cases same
  by_cases waits : e.state = .atStop
  · simp [waits]
  · by_cases future : now < e.scheduled + delayOf c (c.slots.get e.slot).stopIndex e.observation <;> simp [waits, future]

/-- What an evaluation keeps of an entry (R27 to R33). -/
theorem evaluated_keeps {s : State} {e e' : Entry} (h : evaluated s e = some e') :
    SameRun e e' ∧ e'.scheduled = e.scheduled ∧ e'.lastSight = e.lastSight ∧
      (e'.state = .atStop ↔ e.state = .atStop) := by
  obtain ⟨same, scheduled⟩ := evaluate_sameRun (evaluated_eq s e ▸ h)
  obtain ⟨shape, -⟩ := evaluate_some (evaluated_eq s e ▸ h)
  refine ⟨same, scheduled, by rw [shape], (judgedEntry_atStop h).trans ?_⟩
  split <;> rfl

/-- An entry at the stop outlasts every evaluation (R33). -/
theorem evaluated_atStop {s : State} {e : Entry} (waits : e.state = .atStop) : ∃ e', evaluated s e = some e' := by
  have stays : evaluated s e ≠ none := by
    have fresh : outdated s e = false := by
      rw [outdated_eq, ← Bool.not_eq_true, stale_iff]
      exact fun h => h.1 waits
    simp [evaluated, judgedEntry, fresh, waits]
  exact Option.ne_none_iff_exists'.1 stays

/-- An entry without an observation, away from the stop, by its S (R30 to R36). -/
theorem evaluated_unobserved {s : State} {e : Entry} (none : e.observation = none) (away : e.state ≠ .atStop) :
    evaluated s e =
      if (s.clock.second : Int) < e.scheduled then
        some { e with predicted := e.scheduled, state := .expected, shown := .none }
      else if e.scheduled + s.loader.loaded.grace ≤ s.clock.second then .none
      else some { e with predicted := e.scheduled, state := .overdue, shown := .none } := by
  have fresh : outdated s e = false := by simp [outdated, none]
  by_cases future : (s.clock.second : Int) < e.scheduled <;> simp [evaluated, fresh, judgedEntry, delayOf, none, away, future]

/-- An entry without an observation is as its first evaluation leaves it (R27). -/
theorem evaluated_again {s : State} {e e' : Entry} (none : e.observation = none) (away : e.state ≠ .atStop)
    (h : evaluated s e = some e') : evaluated s e' = some e' := by
  rw [evaluated_unobserved none away] at h
  split at h
  next future =>
    cases h
    exact (evaluated_unobserved (by exact none) (by simp)).trans (if_pos future)
  next past =>
    obtain ⟨stays, same⟩ := Option.ite_none_left_eq_some.1 h
    cases same
    exact (evaluated_unobserved (by exact none) (by simp)).trans ((if_neg past).trans (if_neg stays))

/-- All entries evaluated (R26). -/
theorem evaluateAll_orders (s : State) : s.evaluateAll.table = { s.table with
    entries := orderEntries s.loader.loaded s.clock.day (s.table.entries.filterMap (evaluated s)) } := by
  rw [funext (evaluated_eq s)]
  simp [State.evaluateAll, evaluateWhere]

theorem evaluateAll_counted (s : State) : Counted (List.replicate (s.table.entries.countP (outdated s)) .observationExpired ++
    List.replicate (s.table.entries.length - (s.table.entries.filterMap (evaluated s)).length) .overdueRemoval) s
      s.evaluateAll := by
  rw [funext (evaluated_eq s), funext (outdated_eq s)]
  have every : s.evaluateAll.counters =
      ((s.countMany .observationExpired (s.table.entries.countP fun e => e.stale s.loader.loaded s.now)).countMany
        .overdueRemoval (s.table.entries.length -
          (s.table.entries.filterMap fun e => e.evaluate s.loader.loaded s.now).length)).counters := by
    simp [State.evaluateAll, evaluateWhere, State.countMany]
  exact counted_many _ (counted_many (cs := []) s (counted_nil rfl) rfl) every

/-! ### The order of the table (R1) -/

theorem precedes_iff {c : Loaded} {day : Day} {a b : Entry} : entryBefore c day a b = true ↔ Precedes c day a b := by
  simp only [entryBefore, lexBefore_cons, Precedes, dayOffset]
  simp only [lexBefore, and_true, Nat.cast_lt, Nat.cast_inj, le_iff_lt_or_eq]

theorem precedes_total {c : Loaded} {day : Day} {a b : Entry} (h : ¬ Precedes c day a b) : Precedes c day b a := by
  simp only [Precedes] at h ⊢
  omega

theorem precedes_trans {c : Loaded} {day : Day} {a b d : Entry} (h : Precedes c day a b) (h' : Precedes c day b d) :
    Precedes c day a d := by
  simp only [Precedes] at h h' ⊢
  omega

/-- An entry taken in at its place leaves the table in order. -/
theorem insertBy_inOrder {c : Loaded} {day : Day} {e : Entry} {l : List Entry} (h : l.Pairwise (Precedes c day)) :
    (insertBy (entryBefore c day) e l).Pairwise (Precedes c day) := by
  induction l with
  | nil => exact List.pairwise_singleton _ _
  | cons b rest ih =>
    obtain ⟨first, others⟩ := List.pairwise_cons.1 h
    rw [insertBy]
    split
    next before =>
      have le := precedes_iff.1 before
      refine .cons (fun x hx => ?_) h
      rcases List.mem_cons.1 hx with rfl | hx
      · exact le
      · exact precedes_trans le (first x hx)
    next after =>
      refine .cons (fun x hx => ?_) (ih others)
      rcases List.mem_cons.1 ((insertBy_perm _ e rest).subset hx) with rfl | hx
      · exact precedes_total (mt precedes_iff.2 after)
      · exact first x hx

/-! ### Sight loss (R12, R13) -/

theorem lostSight_eq (s : State) (e : Entry) : lostSight s e = e.sightLost s.loader.loaded s.now := by
  unfold lostSight Entry.sightLost
  cases e.lastSight <;> simp [State.now]

theorem lostSight_congr {s t : State} (loader : t.loader = s.loader) (second : t.clock.second = s.clock.second) :
    lostSight t = lostSight s := by
  funext e
  rw [lostSight_eq, lostSight_eq, loader, State.now, second, State.now]

/-- The reports of some departures, each with its last sight time as leave time. -/
def reportsOf (s : State) (left : List Entry) : List SendFrame :=
  if s.loader.loaded.ttl = 0 then [] else left.map fun e => departureOf s e (e.lastSight.getD 0)

/-- The reports of some departures, one after another, with the leave time `leave` gives each. -/
def reportAll (leave : Entry → Int) (left : List Entry) (s : State) : State :=
  left.foldl (fun r e => r.reportDeparture e (leave e)) s

theorem reportAll_cons (leave : Entry → Int) (e : Entry) (left : List Entry) (s : State) :
    reportAll leave (e :: left) s = reportAll leave left (s.reportDeparture e (leave e)) := rfl

@[simp] theorem reportAll_frame (leave : Entry → Int) (left : List Entry) (s : State) :
    (reportAll leave left s).pending = s.pending ∧ (reportAll leave left s).elapsed = s.elapsed ∧
    (reportAll leave left s).loader = s.loader ∧ (reportAll leave left s).clock = s.clock ∧
    (reportAll leave left s).sheets = s.sheets ∧ (reportAll leave left s).table = s.table ∧
    (reportAll leave left s).board = s.board ∧ (reportAll leave left s).planner = s.planner ∧
    (reportAll leave left s).engine = s.engine ∧ (reportAll leave left s).sense = s.sense ∧
    (reportAll leave left s).rx = s.rx := by
  induction left generalizing s with
  | nil => simp [reportAll]
  | cons e left ih =>
    rw [reportAll_cons]
    simp [ih]

theorem relayed_append {fs gs : List SendFrame} {s u t : State} (h : Relayed fs s u) (h' : Relayed gs u t)
    (energy : t.planner.energy = u.planner.energy) (sheets : t.sheets = u.sheets) (loader : t.loader = u.loader)
    (elapsed : t.elapsed = u.elapsed) : Relayed (fs ++ gs) s t := by
  rw [Relayed, List.foldl_append]
  rw [Relayed] at h h'
  rw [h', h]
  simp only [arbitrated_congr energy sheets loader, elapsed]

theorem reportsOf_cons (s : State) (e : Entry) (left : List Entry) : reportsOf s (e :: left) =
    (if s.loader.loaded.ttl = 0 then [] else [departureOf s e (e.lastSight.getD 0)]) ++ reportsOf s left := by
  unfold reportsOf
  split <;> rfl

theorem reportAll_relayed {leave : Entry → Int} {left : List Entry} (s : State)
    (times : ∀ e ∈ left, leave e = e.lastSight.getD 0) : Relayed (reportsOf s left) s (reportAll leave left s) := by
  induction left generalizing s with
  | nil => simp [reportsOf, reportAll, Relayed]
  | cons e left ih =>
    have first := reportDeparture_relayed s e (leave e)
    rw [times e List.mem_cons_self] at first
    have others := ih (s.reportDeparture e (leave e)) fun x hx => times x (List.mem_cons_of_mem e hx)
    have same : reportsOf (s.reportDeparture e (leave e)) left = reportsOf s left := by simp [reportsOf, departureOf]
    rw [reportsOf_cons, reportAll_cons]
    rw [times e List.mem_cons_self] at others same ⊢
    exact relayed_append first (same ▸ others) (by simp) (by simp) (by simp) (by simp)

theorem reportAll_counted {leave : Entry → Int} {ks : List Counter} (left : List Entry) (s : State)
    (apart : .relayDropped ∉ ks) : CountedOf ks (List.replicate left.length .departure ++
      List.replicate (reportsOf s left).length .passageOriginated) s (reportAll leave left s) := by
  induction left generalizing s with
  | nil => simpa [reportsOf, reportAll] using countedOf_of_counted (counted_nil (s := s) rfl)
  | cons e left ih =>
    obtain ⟨v, counted, moves⟩ := reportDeparture_counted s e (leave e)
    have first := countedOf_movesOnly (countedOf_of_counted (ks := ks) counted) moves
      fun k hk listed => apart (List.mem_singleton.1 listed ▸ hk)
    have same : (reportsOf (s.reportDeparture e (leave e)) left).length = (reportsOf s left).length := by
      simp [reportsOf]
      split <;> simp
    refine countedOf_perm (countedOf_append first (ih _)) (List.perm_iff_count.2 fun k => ?_)
    rw [same, reportsOf_cons]
    unfold departureCases
    split <;> simp [List.count_cons, List.count_append, List.count_replicate] <;> split_ifs <;> omega

theorem reportAll_movesOnly (leave : Entry → Int) (left : List Entry) (s : State) :
    MovesOnly [.departure, .passageOriginated, .relayDropped] s (reportAll leave left s) := by
  induction left generalizing s with
  | nil => exact movesOnly_of_counters rfl
  | cons e left ih =>
    refine movesOnly_trans (t := s.reportDeparture e (leave e)) ?_ (ih _)
    rw [reportDeparture_eq]
    split
    · exact movesOnly_count (movesOnly_of_counters rfl) (by decide)
    · exact movesOnly_trans (movesOnly_count (movesOnly_count (movesOnly_of_counters rfl) (by decide)) (by decide))
        (movesOnly_mono (by decide) (placeRelay_movesOnly _ _))

theorem reportAll_busy {leave : Entry → Int} {left : List Entry} {s : State} (busy : s.tx.state ≠ .idle) :
    (reportAll leave left s).tx.state ≠ .idle := by
  induction left generalizing s with
  | nil => exact busy
  | cons e left ih => exact ih (reportDeparture_busy busy)

/-- The sight-loss checks (R12): the lost entries go, and each is reported. -/
theorem sightLossChecks_eq (s : State) : s.sightLossChecks =
    reportAll (fun e => e.lastSight.getD s.now) (s.table.entries.filter (lostSight s))
      (withEntries s (s.table.entries.filter fun e => !lostSight s e)) := by
  rw [funext (lostSight_eq s)]
  rfl

theorem lostSight_time {s : State} {e : Entry} (lost : lostSight s e = true) (d : Int) :
    e.lastSight.getD d = e.lastSight.getD 0 := by
  unfold lostSight at lost
  cases sight : e.lastSight with
  | none => simp [sight] at lost
  | some u => rfl

/-! ### Fill passes (R5 to R8) -/

/-- The call a candidate stands for. -/
def callOf (x : Candidate) : Call := ⟨x.slot, x.day, x.run⟩

/-- A state with the table and the counters of a pass. -/
def withPass (s : State) (r : Table × Counters) : State := { s with table := r.1, counters := r.2 }

theorem passGroups_admits {c : Loaded} {day : Day} {now : Int} {gs : List (List Candidate)}
    (full : ∀ g ∈ gs, g ≠ []) (used : Nat) (r : Table × Counters) : ∃ taken lost,
      taken ++ lost <+: gs.flatten ∧
      Admits used (gs.map (·.map callOf)) (taken.map callOf) (lost.map callOf) ∧
      passGroups c day now gs used r = lost.foldl loseCandidate (taken.foldl (admitCandidate c day now) r) := by
  induction gs generalizing used r with
  | nil => exact ⟨[], [], by simp, by simp [Admits], rfl⟩
  | cons g gs ih =>
    have some_ : 0 < g.length := List.length_pos_iff.2 (full g List.mem_cons_self)
    rw [passGroups]
    by_cases fits : used + g.length ≤ Config.tableCapacity
    · rw [if_pos fits]
      obtain ⟨taken, lost, pre, takes, result⟩ := ih (fun x hx => full x (List.mem_cons_of_mem g hx)) (used + g.length)
        (g.foldl (admitCandidate c day now) r)
      rw [Admits, if_neg (by omega)] at takes
      obtain ⟨none, n, bound, own, room, stops⟩ := takes
      refine ⟨g ++ taken, lost, by simpa using pre, ?_, by rw [result, List.foldl_append]⟩
      have small : g.length ≤ 48 := le_trans (by omega) fits
      rw [Admits, if_neg (by simpa using fun _ => small)]
      refine ⟨none, n + 1, by simpa using bound, by simp [own], .inr ?_, fun x hx => ?_⟩
      · rcases room with rfl | room
        · have empty : taken = [] := by simpa using own
          simpa [empty] using fits
        · simpa [add_assoc] using room
      · have stop := stops x (by simpa using hx)
        simpa [add_assoc] using stop
    · rw [if_neg fits]
      by_cases free : used = 0
      · rw [if_pos free]
        have large : 48 < g.length := by simpa [free] using fits
        refine ⟨g.take 48, g.drop 48, ?_, ?_, rfl⟩
        · rw [List.take_append_drop, List.flatten_cons]
          exact List.prefix_append _ _
        · rw [Admits, if_pos ⟨free, g.map callOf, by simp, by simpa using large⟩]
          exact ⟨g.map callOf, by simp, by simp, by simp⟩
      · rw [if_neg free]
        refine ⟨[], [], by simp, ?_, rfl⟩
        rw [Admits, if_neg fun h => free h.1]
        refine ⟨rfl, 0, by simp, by simp, .inl rfl, fun x hx => ?_⟩
        cases hx
        simpa using fits

theorem groupCandidates_ne_nil {l : List Candidate} {g : List Candidate} (h : g ∈ groupCandidates l) : g ≠ [] := by
  induction l generalizing g with
  | nil => cases h
  | cons x rest ih =>
    rw [groupCandidates] at h
    split at h
    next => simp_all
    next more eq => exact absurd rfl (ih (g := []) (by rw [eq]; exact List.mem_cons_self))
    next y ys more eq =>
      split at h
      · rcases List.mem_cons.1 h with rfl | h
        · simp
        · exact ih (by rw [eq]; exact List.mem_cons_of_mem _ h)
      · rcases List.mem_cons.1 h with rfl | h
        · simp
        · exact ih (by rw [eq]; exact h)

/-- Two candidates of one slot with one S (R7). -/
def OneGroup (x y : Candidate) : Prop := x.slot = y.slot ∧ x.scheduled = y.scheduled

/-- The groups hold each one slot and S, and no two neighbours share both (R7). -/
theorem groupCandidates_together (l : List Candidate) :
    (∀ g ∈ groupCandidates l, ∀ x ∈ g, ∀ y ∈ g, OneGroup x y) ∧
      (groupCandidates l).IsChain fun g h => ∀ x ∈ g, ∀ y ∈ h, ¬ OneGroup x y := by
  induction l with
  | nil => simp [groupCandidates]
  | cons x rest ih =>
    obtain ⟨same, apart⟩ := ih
    rw [groupCandidates]
    split
    next => simp [OneGroup]
    next more eq => exact absurd rfl (groupCandidates_ne_nil (l := rest) (g := []) (by rw [eq]; exact List.mem_cons_self))
    next y ys more eq =>
      rw [eq] at same apart
      have own := same (y :: ys) List.mem_cons_self
      split
      next joins =>
        have near {z : Candidate} (hz : z ∈ y :: ys) : OneGroup x z := by
          obtain ⟨slot, time⟩ := own y List.mem_cons_self z hz
          exact ⟨joins.1.trans slot, joins.2.trans time⟩
        refine ⟨fun g hg => ?_, ?_⟩
        · rcases List.mem_cons.1 hg with rfl | hg
          · intro a ha b hb
            have left : OneGroup x a := (List.mem_cons.1 ha).elim (fun h => h ▸ ⟨rfl, rfl⟩) near
            have right : OneGroup x b := (List.mem_cons.1 hb).elim (fun h => h ▸ ⟨rfl, rfl⟩) near
            exact ⟨left.1.symm.trans right.1, left.2.symm.trans right.2⟩
          · exact same g (List.mem_cons_of_mem _ hg)
        · cases more with
          | nil => exact .singleton _
          | cons h more =>
            obtain ⟨first, others⟩ := List.isChain_cons_cons.1 apart
            refine .cons_cons (fun a ha b hb one => ?_) others
            rcases List.mem_cons.1 ha with rfl | ha
            · obtain ⟨slot, time⟩ := near List.mem_cons_self
              exact first y List.mem_cons_self b hb ⟨slot.symm.trans one.1, time.symm.trans one.2⟩
            · exact first a ha b hb one
      next parts =>
        refine ⟨fun g hg => ?_, .cons_cons (fun a ha b hb one => ?_) apart⟩
        · rcases List.mem_cons.1 hg with rfl | hg
          · simp [OneGroup]
          · exact same g hg
        · cases List.mem_singleton.1 ha
          obtain ⟨slot, time⟩ := own b hb y List.mem_cons_self
          exact parts ⟨one.1.trans slot, one.2.trans time⟩

/-! ### Candidates as calls (R6, R7) -/

theorem dayOffset_self (day : Day) : dayOffset day day = 0 := by simp [dayOffset]

theorem dayOffset_next (day : Day) : dayOffset day (day + 1#16) = 1 := by
  rw [dayOffset, add_comm, BitVec.add_sub_cancel]
  rfl

/-- The candidate a call of the state's sheets is. -/
def candidateOf (s : State) (x : Call) : Candidate :=
  ⟨x.slot, (s.loader.loaded.slots.get x.slot).tag, x.day, dayOffset s.clock.day x.day, x.run, x.comes s⟩

theorem mem_position {s : State} {mark : Int} {i : SlotIx} {day : Day} {sheet : Option Sheet} {x : Candidate} :
    x ∈ positionCandidates s.loader.loaded s.now mark i day (dayOffset s.clock.day day) sheet ↔
      x = candidateOf s (callOf x) ∧ x.slot = i ∧ x.day = day ∧ (∃ sh, sheet = some sh ∧ x.run ∈ sh.runs) ∧
        mark < x.scheduled ∧ x.scheduled ≤ s.clock.second + s.loader.loaded.horizon ∧
        ∀ k, x.run.terminal = some k → (s.loader.loaded.slots.get i).stopIndex ≤ k := by
  have serves : servesStop (s.loader.loaded.slots.get i).stopIndex x.run.terminal = true ↔
      ∀ k, x.run.terminal = some k → (s.loader.loaded.slots.get i).stopIndex ≤ k := by
    unfold servesStop
    cases x.run.terminal <;> simp
  unfold positionCandidates
  cases sheet with
  | none => simp
  | some sh =>
    simp only [List.mem_filter, List.mem_map, Bool.and_eq_true, decide_eq_true_eq, serves, State.now,
      Option.some.injEq, exists_eq_left']
    constructor
    · rintro ⟨⟨run, listed, rfl⟩, ⟨above, within⟩, reaches⟩
      exact ⟨rfl, rfl, rfl, listed, above, of_decide_eq_true within, reaches⟩
    · rintro ⟨shape, rfl, rfl, listed, above, within, reaches⟩
      exact ⟨⟨x.run, listed, shape.symm⟩, ⟨above, decide_eq_true within⟩, reaches⟩

theorem forDay_iff {h : SlotSheets} {day : Day} {run : Run} (apart : (h.sheets.map (·.day)).Nodup) :
    (∃ sh, h.forDay day = some sh ∧ run ∈ sh.runs) ↔ ∃ sh ∈ h.sheets, sh.day = day ∧ run ∈ sh.runs := by
  constructor
  · rintro ⟨sh, found, listed⟩
    exact ⟨sh, forDay_mem found, by simpa using List.find?_some found, listed⟩
  · rintro ⟨sh, held, rfl, listed⟩
    cases found : h.forDay sh.day with
    | none => exact absurd (List.find?_eq_none.1 found sh held) (by simp)
    | some other =>
      have same : other = sh :=
        List.inj_on_of_nodup_map apart (forDay_mem found) held (by simpa using List.find?_some found)
      exact ⟨other, rfl, same ▸ listed⟩

/-- The candidates of a pass are the calls that are due (R6). -/
theorem candidate_iff {s : State} (sound : s.SheetsSound) {x : Candidate} :
    x ∈ candidates s.loader.loaded s.clock.day s.now s.sheets.slots s.table ↔
      x = candidateOf s (callOf x) ∧ Due s s.sheets.slots s.table.entries s.table.marks (callOf x) := by
  have today (i : SlotIx) := mem_position (s := s) (mark := s.table.marks.get i) (i := i) (day := s.clock.day)
    (sheet := (s.sheets.slots.get i).forDay s.clock.day) (x := x)
  have next (i : SlotIx) := mem_position (s := s) (mark := s.table.marks.get i) (i := i) (day := s.clock.day + 1#16)
    (sheet := (s.sheets.slots.get i).forDay (s.clock.day + 1#16)) (x := x)
  simp only [dayOffset_self, dayOffset_next, forDay_iff (sound _).2.1] at today next
  have held : x.held s.table.entries = false ↔ ∀ e ∈ s.table.entries, ¬ IsRun e x.slot x.day x.run.number := by
    simp only [Candidate.held, List.any_eq_false, isRun_iff]
  have all (i : SlotIx) : i ∈ allSlots := (by decide : ∀ i : SlotIx, i ∈ allSlots) i
  simp only [mem_candidates, today, next, held, enabledSlots, List.mem_filter, all, true_and]
  constructor
  · rintro ⟨⟨i, enabled, h | h⟩, new⟩
    · obtain ⟨shape, rfl, day, sheet, above, within, reaches⟩ := h
      have comes : x.scheduled = (callOf x).comes s := congrArg Candidate.scheduled shape
      exact ⟨shape, enabled, .inl day, by simpa [callOf, day] using sheet, new, comes ▸ above, comes ▸ within, reaches⟩
    · obtain ⟨shape, rfl, day, sheet, above, within, reaches⟩ := h
      have comes : x.scheduled = (callOf x).comes s := congrArg Candidate.scheduled shape
      exact ⟨shape, enabled, .inr day, by simpa [callOf, day] using sheet, new, comes ▸ above, comes ▸ within, reaches⟩
  · rintro ⟨shape, enabled, day, sheet, new, above, within, reaches⟩
    have comes : x.scheduled = (callOf x).comes s := congrArg Candidate.scheduled shape
    rw [← comes] at above within
    refine ⟨⟨x.slot, enabled, day.imp (fun day => ?_) fun day => ?_⟩, new⟩
    · exact ⟨shape, rfl, day, by simpa [callOf, show x.day = _ from day] using sheet, above, within, reaches⟩
    · exact ⟨shape, rfl, day, by simpa [callOf, show x.day = _ from day] using sheet, above, within, reaches⟩

theorem candidates_inOrder {s : State} (sound : s.SheetsSound) :
    ((candidates s.loader.loaded s.clock.day s.now s.sheets.slots s.table).map callOf).Pairwise (Ahead s) := by
  have ahead (a b : Candidate) : candidateBefore a b = true ↔ a.scheduled < b.scheduled ∨ a.scheduled = b.scheduled ∧
      (a.tag < b.tag ∨ a.tag = b.tag ∧ (a.run.number < b.run.number ∨ a.run.number = b.run.number ∧
        a.offset ≤ b.offset)) := by
    simp only [candidateBefore, lexBefore_cons]
    simp only [lexBefore, and_true, Nat.cast_lt, Nat.cast_inj, le_iff_lt_or_eq]
  have sorted : (candidates s.loader.loaded s.clock.day s.now s.sheets.slots s.table).Pairwise
      fun a b => candidateBefore a b = true := by
    refine sortBy_pairwise (fun a b h => h) (fun a b h => ?_) (fun a b c h h' => ?_) _
    · have h' := mt (ahead a b).2 (by simp [h])
      rw [ahead]
      omega
    · rw [ahead] at h h' ⊢
      omega
  rw [List.pairwise_map]
  refine sorted.imp_of_mem fun {a b} ha hb h => ?_
  rw [ahead, (candidate_iff sound).1 ha |>.1, (candidate_iff sound).1 hb |>.1] at h
  exact h

/-- The groups of a pass are the due calls in pass order, parted by slot and S (R6, R7). -/
theorem passGroupsNow_grouped {s : State} (sound : s.SheetsSound) :
    Grouped s s.sheets.slots s.table.entries s.table.marks (s.passGroupsNow.map (·.map callOf)) := by
  have flat : (s.passGroupsNow.map (·.map callOf)).flatten =
      (candidates s.loader.loaded s.clock.day s.now s.sheets.slots s.table).map callOf := by
    rw [State.passGroupsNow, ← List.map_flatten, flatten_groupCandidates]
  have listed {g : List Candidate} (hg : g ∈ s.passGroupsNow) {x : Candidate} (hx : x ∈ g) :
      x.scheduled = (callOf x).comes s := by
    have member : x ∈ s.passGroupsNow.flatten := List.mem_flatten.2 ⟨g, hg, hx⟩
    rw [State.passGroupsNow, flatten_groupCandidates] at member
    exact congrArg Candidate.scheduled ((candidate_iff sound).1 member).1
  obtain ⟨same, apart⟩ := groupCandidates_together
    (candidates s.loader.loaded s.clock.day s.now s.sheets.slots s.table)
  refine ⟨?_, fun x => ?_, ?_, fun g hg => ?_, fun before g h after parts x hx y hy => ?_⟩
  · rw [flat, List.nodup_iff_pairwise_ne, List.pairwise_map]
    refine (candidates_apart (st := s.sheets) sound).imp fun {a b} other same => other ?_
    exact ⟨congrArg Call.slot same, congrArg Call.day same, congrArg (·.run.number) same⟩
  · rw [flat, List.mem_map]
    constructor
    · rintro ⟨y, hy, rfl⟩
      exact ((candidate_iff sound).1 hy).2
    · exact fun due => ⟨candidateOf s x, (candidate_iff sound).2 ⟨rfl, due⟩, rfl⟩
  · rw [flat]
    exact candidates_inOrder sound
  · obtain ⟨cs, hcs, rfl⟩ := List.mem_map.1 hg
    refine ⟨by simpa using groupCandidates_ne_nil hcs, fun x hx y hy => ?_⟩
    obtain ⟨a, ha, rfl⟩ := List.mem_map.1 hx
    obtain ⟨b, hb, rfl⟩ := List.mem_map.1 hy
    obtain ⟨slot, time⟩ := same cs hcs a ha b hb
    exact ⟨slot, by rw [← listed hcs ha, ← listed hcs hb, time]⟩
  · obtain ⟨front, back, whole, -, more⟩ := List.map_eq_append_iff.1 parts
    obtain ⟨cs, back', rfl, rfl, more'⟩ := List.map_eq_cons_iff.1 more
    obtain ⟨ds, back'', rfl, rfl, -⟩ := List.map_eq_cons_iff.1 more'
    obtain ⟨a, ha, rfl⟩ := List.mem_map.1 hx
    obtain ⟨b, hb, rfl⟩ := List.mem_map.1 hy
    rintro ⟨slot, time⟩
    refine List.isChain_iff_forall_rel_of_append_cons_cons.1 apart whole a ha b hb ⟨slot, ?_⟩
    rw [listed (by rw [whole]; simp) ha, listed (by rw [whole]; simp) hb]
    exact time

/-! ### What an admission leaves (R7, R8) -/

/-- The fill mark of each slot at the S of the last of some candidates (R7). -/
theorem marks_of_last (marks : Vector Int 6) (xs : List Candidate) (i : SlotIx) :
    (xs.foldl (fun m x => setMark m x.slot x.scheduled) marks).get i =
      match (xs.filter fun x => decide (x.slot = i)).getLast? with
      | none => marks.get i
      | some x => x.scheduled := by
  induction xs using List.reverseRecOn with
  | nil => rfl
  | append_singleton xs x ih =>
    rw [List.foldl_append, List.foldl_cons, List.foldl_nil, setMark_get, List.filter_append]
    by_cases own : x.slot = i
    · simp [own]
    · simpa [own, Ne.symm own] using ih

theorem admitCandidates_marks {c : Loaded} {day : Day} {now : Int} (xs : List Candidate) (r : Table × Counters) :
    (xs.foldl (admitCandidate c day now) r).1.marks = xs.foldl (fun m x => setMark m x.slot x.scheduled) r.1.marks := by
  induction xs generalizing r with
  | nil => rfl
  | cons x xs ih =>
    rw [List.foldl_cons, ih, (admitCandidate_cases c day now r x).1]
    rfl

theorem loseCandidates_marks (xs : List Candidate) (r : Table × Counters) :
    (xs.foldl loseCandidate r).1.marks = xs.foldl (fun m x => setMark m x.slot x.scheduled) r.1.marks := by
  induction xs generalizing r with
  | nil => rfl
  | cons x xs ih => exact ih (loseCandidate r x)

theorem loseCandidates_counted (s : State) (xs : List Candidate) (r : Table × Counters) :
    Counted (List.replicate xs.length .admissionLoss) (withPass s r) (withPass s (xs.foldl loseCandidate r)) := by
  induction xs generalizing r with
  | nil => exact counted_nil rfl
  | cons x xs ih => exact counted_trans (as := [_]) (counted_one rfl) (ih (loseCandidate r x))

/-- Candidates admitted one after another: each evaluated, those that stay at their places (R7, R8). -/
theorem admitCandidates_admits (s : State) (xs : List Candidate) (r : Table × Counters) :
    let r' := xs.foldl (admitCandidate s.loader.loaded s.clock.day s.now) r
    let stay := xs.filterMap fun x => evaluated s (admittedEntry x)
    r'.1.entries.Perm (r.1.entries ++ stay) ∧
      (r.1.entries.Pairwise (Precedes s.loader.loaded s.clock.day) →
        r'.1.entries.Pairwise (Precedes s.loader.loaded s.clock.day)) ∧
      r'.1.rebuild = r.1.rebuild ∧
      Counted (List.replicate xs.length .admission ++ List.replicate (xs.length - stay.length) .overdueRemoval)
        (withPass s r) (withPass s r') := by
  induction xs generalizing r with
  | nil => exact ⟨by simp, id, rfl, counted_nil rfl⟩
  | cons x xs ih =>
    obtain ⟨perm, order, rebuild, counted⟩ := ih (admitCandidate s.loader.loaded s.clock.day s.now r x)
    have room := List.length_filterMap_le (fun x => evaluated s (admittedEntry x)) xs
    simp only [List.foldl_cons]
    have weighed := evaluated_eq s (admittedEntry x)
    cases stays : evaluated s (admittedEntry x) with
    | none =>
      rw [stays] at weighed
      have step : admitCandidate s.loader.loaded s.clock.day s.now r x =
          ({ r.1 with marks := setMark r.1.marks x.slot x.scheduled }, (r.2.add .admission 1).add .overdueRemoval 1) := by
        rw [admitCandidate, ← weighed]
      have first : Counted [.admission, .overdueRemoval] (withPass s r)
          (withPass s (admitCandidate s.loader.loaded s.clock.day s.now r x)) := by
        rw [step]
        exact counted_of (cs := [.admission]) ((withPass s r).count .admission) (counted_one rfl) rfl
      simp only [List.filterMap_cons, stays]
      rw [step] at first perm order rebuild counted ⊢
      refine ⟨perm, order, rebuild, counted_perm (counted_trans first counted) (List.perm_iff_count.2 fun k => ?_)⟩
      simp only [List.count_append, List.count_cons, List.count_replicate, List.length_cons, List.count_nil]
      split_ifs <;> omega
    | some e =>
      rw [stays] at weighed
      have step : admitCandidate s.loader.loaded s.clock.day s.now r x =
          ({ r.1 with
            marks := setMark r.1.marks x.slot x.scheduled
            entries := insertBy (entryBefore s.loader.loaded s.clock.day) e r.1.entries }, r.2.add .admission 1) := by
        rw [admitCandidate, ← weighed]
      have first : Counted [.admission] (withPass s r)
          (withPass s (admitCandidate s.loader.loaded s.clock.day s.now r x)) := by
        rw [step]
        exact counted_one rfl
      simp only [List.filterMap_cons, stays]
      rw [step] at first perm order rebuild counted ⊢
      refine ⟨perm.trans ?_, fun h => order (insertBy_inOrder h), rebuild,
        counted_perm (counted_trans first counted) (List.perm_iff_count.2 fun k => ?_)⟩
      · exact ((insertBy_perm _ e r.1.entries).append_right _).trans List.perm_middle.symm
      · simp only [List.count_append, List.count_cons, List.count_replicate, List.length_cons, List.count_nil]
        split_ifs <;> omega

/-! ### The pass as a whole -/

/-- The counters a fill pass moves. -/
def fillCounters : List Counter := [.admission, .admissionLoss, .overdueRemoval]

theorem admitCandidates_movesOnly (s : State) (xs : List Candidate) (r : Table × Counters) : MovesOnly fillCounters
    (withPass s r) (withPass s (xs.foldl (admitCandidate s.loader.loaded s.clock.day s.now) r)) := by
  induction xs generalizing r with
  | nil => exact movesOnly_of_counters rfl
  | cons x xs ih =>
    refine movesOnly_trans ?_ (ih _)
    unfold admitCandidate
    split
    · exact movesOnly_count (t := (withPass s r).count .admission)
        (movesOnly_count (movesOnly_of_counters rfl) (by decide)) (by decide)
    · exact movesOnly_count (t := withPass s r) (movesOnly_of_counters rfl) (by decide)

theorem loseCandidates_movesOnly (s : State) (xs : List Candidate) (r : Table × Counters) :
    MovesOnly fillCounters (withPass s r) (withPass s (xs.foldl loseCandidate r)) := by
  induction xs generalizing r with
  | nil => exact movesOnly_of_counters rfl
  | cons x xs ih =>
    exact movesOnly_trans (movesOnly_count (t := withPass s r) (movesOnly_of_counters rfl) (by decide))
      (ih (loseCandidate r x))

/-- A pass leaves the table in order, and moves its own counters only. -/
theorem fillPass_keeps (s : State) : (InOrder s → InOrder s.fillPass) ∧ MovesOnly fillCounters s s.fillPass := by
  unfold State.fillPass
  split
  · obtain ⟨taken, lost, -, -, result⟩ := passResult_eq s
    obtain ⟨-, order, -, -⟩ := admitCandidates_admits s taken (s.table, s.counters)
    have moves := movesOnly_trans (admitCandidates_movesOnly s taken (s.table, s.counters))
      (loseCandidates_movesOnly s lost _)
    rw [result]
    refine ⟨fun h => ?_, moves⟩
    simpa [InOrder, loseCandidates_entries] using order h
  · exact ⟨id, movesOnly_of_counters rfl⟩

theorem fillOrOwe_keeps (s : State) : (InOrder s → InOrder s.fillOrOwe) ∧ MovesOnly fillCounters s s.fillOrOwe := by
  unfold State.fillOrOwe
  split
  · exact ⟨id, movesOnly_of_counters rfl⟩
  · exact fillPass_keeps s

/-- A pass admits by groups what is due, each admitted entry evaluated at once (R5 to R8). -/
theorem fillPass_fills {s : State} (valid : s.clock.timeValid = true) (sound : s.SheetsSound) : ∃ taken lost,
    Filled s.sheets.slots s.table.entries s.table.marks taken lost s.fillPass ∧
    s.fillPass.table.entries.Perm (s.table.entries ++ taken.filterMap fun x => evaluated s (entryOf s x)) ∧
    Counted (List.replicate taken.length .admission ++ List.replicate lost.length .admissionLoss ++
      List.replicate (taken.length - (taken.filterMap fun x => evaluated s (entryOf s x)).length) .overdueRemoval) s
        s.fillPass := by
  obtain ⟨taken, lost, pre, admits, result⟩ := passGroups_admits (c := s.loader.loaded) (day := s.clock.day)
    (now := s.now) (gs := s.passGroupsNow) (fun g hg => groupCandidates_ne_nil hg) s.table.entries.length
    (s.table, s.counters)
  have grouped := passGroupsNow_grouped sound
  have listed {x : Candidate} (hx : x ∈ taken ++ lost) : x = candidateOf s (callOf x) := by
    have member := pre.subset hx
    rw [State.passGroupsNow, flatten_groupCandidates] at member
    exact ((candidate_iff sound).1 member).1
  have own : (taken.map callOf).filterMap (fun x => evaluated s (entryOf s x)) =
      taken.filterMap fun x => evaluated s (admittedEntry x) := by
    rw [List.filterMap_map]
    refine List.filterMap_congr fun x hx => ?_
    have same : entryOf s (callOf x) = admittedEntry x := by
      rw [listed (List.mem_append_left lost hx)]
      rfl
    exact congrArg (evaluated s) same
  obtain ⟨perm, -, -, counted⟩ := admitCandidates_admits s taken (s.table, s.counters)
  have counted' := loseCandidates_counted s lost (taken.foldl (admitCandidate s.loader.loaded s.clock.day s.now)
    (s.table, s.counters))
  have passed : s.fillPass = { withPass s s.passResult with table := { s.passResult.1 with passOwed := false } } :=
    if_pos valid
  have passResult : s.passResult = lost.foldl loseCandidate
      (taken.foldl (admitCandidate s.loader.loaded s.clock.day s.now) (s.table, s.counters)) := result
  rw [passed, passResult]
  refine ⟨taken.map callOf, lost.map callOf, ⟨⟨_, grouped, admits⟩, rfl, fun i => ?_⟩, ?_, ?_⟩
  · have marks := marks_of_last s.table.marks (taken ++ lost) i
    rw [List.foldl_append, ← admitCandidates_marks (c := s.loader.loaded) (day := s.clock.day) (now := s.now) taken
      (s.table, s.counters), ← loseCandidates_marks lost] at marks
    refine marks.trans ?_
    rw [← List.map_append, List.filter_map, List.getLast?_map]
    cases last : ((taken ++ lost).filter fun x => decide (x.slot = i)).getLast? with
    | none =>
      have last' : ((taken ++ lost).filter ((fun x : Call => decide (x.slot = i)) ∘ callOf)).getLast? = none := last
      rw [last']
      rfl
    | some x =>
      have member := (List.mem_filter.1 (List.mem_of_getLast? last)).1
      have comes : x.scheduled = (callOf x).comes s := congrArg Candidate.scheduled (listed member)
      have last' : ((taken ++ lost).filter ((fun x : Call => decide (x.slot = i)) ∘ callOf)).getLast? = some x := last
      rw [last']
      exact comes
  · rw [own]
    exact (List.Perm.of_eq (loseCandidates_entries _ _)).trans perm
  · rw [own, List.length_map, List.length_map]
    refine counted_perm (counted_congr (counted_trans counted counted') rfl rfl) ?_
    rw [List.append_assoc, List.append_assoc]
    exact List.perm_append_comm.append_left _

/-! ### Rollover, flush, discards (R23, R25, R45) -/

theorem mapVector_eq {α β : Type} {n : Nat} (f : α → β) (v : Vector α n) : mapVector f v = v.map f :=
  Vector.ext fun i hi => by rw [mapVector_getElem, Vector.getElem_map]

/-- A rollover (R23). -/
theorem rollTable_rolls (s : State) :
    s.rollTable.table = { s.table with entries := overnight s.table.entries, marks := marksBack s.table.marks } ∧
      Counted (List.replicate (s.table.entries.length - (overnight s.table.entries).length) .rolloverRemoval) s
        s.rollTable := by
  have counters : s.rollTable.counters = (s.countMany .rolloverRemoval
      (s.table.entries.length - (overnight s.table.entries).length)).counters := by
    rw [← List.length_map (as := s.table.entries) Entry.dayBack]
    rfl
  refine ⟨?_, counted_many (cs := []) _ (counted_nil rfl) counters⟩
  rw [marksBack, ← mapVector_eq]
  rfl

/-- The fill marks after a flush: now, where a slot is enabled (R25). -/
def flushedMarks (s : State) : Vector Int 6 :=
  Vector.ofFn fun i => if (s.loader.loaded.slots.get i).enabled then (s.clock.second : Int) else s.table.marks.get i

theorem flushTable_flushes (s : State) :
    s.flushTable.table = { s.table with entries := [], marks := flushedMarks s, rebuild := none } ∧
      Counted (List.replicate s.table.entries.length .flushed) s s.flushTable := by
  refine ⟨?_, counted_many (cs := []) _ (counted_nil rfl) rfl⟩
  have marks : mapPlaces (fun i m => if (enabledSlots s.loader.loaded).any (·.val = i) then s.now else m) s.table.marks =
      flushedMarks s := Vector.ext fun i hi => by
    have listed : (enabledSlots s.loader.loaded).any (fun j => decide (j.val = i)) =
        (s.loader.loaded.slots.get ⟨i, hi⟩).enabled := by
      have all (j : SlotIx) : j ∈ allSlots := (by decide : ∀ j : SlotIx, j ∈ allSlots) j
      rw [Bool.eq_iff_iff]
      simp only [enabledSlots, List.any_filter, List.any_eq_true, all, true_and, Bool.and_eq_true, decide_eq_true_eq]
      constructor
      · rintro ⟨j, enabled, rfl⟩
        exact enabled
      · exact fun enabled => ⟨⟨i, hi⟩, enabled, rfl⟩
    rw [mapPlaces_getElem, listed, flushedMarks, Vector.getElem_ofFn]
    rfl
  rw [← marks]
  rfl

theorem keepDays_eq (day : Day) : SlotSheets.keepDays day = fun h =>
    ⟨h.sheets.filter fun sh => decide (sh.day = day ∨ sh.day = day + 1#16),
      h.assembly.filter fun a => decide (a.day = day ∨ a.day = day + 1#16)⟩ := by
  funext h
  simp only [SlotSheets.keepDays, heldDay, Bool.decide_or]

theorem sum_assemblies (l : List SlotSheets) : (l.map (·.assemblies)).sum = l.countP (·.assembly.isSome) := by
  induction l with
  | nil => rfl
  | cons h rest ih =>
    rw [List.map_cons, List.sum_cons, List.countP_cons, ih, SlotSheets.assemblies]
    omega

/-- The discards of a change of D (R45). -/
theorem changeDays_discards (s : State) : s.changeDays.sheets = discarded s.clock.day s.sheets ∧
    DiscardsCounted s.clock.day s s.changeDays := by
  have sheets : s.changeDays.sheets = discarded s.clock.day s.sheets := by
    unfold State.changeDays discarded
    simp only [State.countMany_frame, mapVector_eq, keepDays_eq, heldDay, Bool.decide_or]
  refine ⟨sheets, ?_⟩
  have slots : mapVector (SlotSheets.keepDays s.clock.day) s.sheets.slots = (discarded s.clock.day s.sheets).slots :=
    congrArg SheetStore.slots sheets
  have records : (s.sheets.publications.filter fun p => heldDay s.clock.day p.day) =
    (discarded s.clock.day s.sheets).publications := congrArg SheetStore.publications sheets
  have counted := countedOf_of_counted (ks := [.sheetExpired, .assemblyExpired, .publicationExpired])
    (counted_many (c := .publicationExpired) (t := s.changeDays) _
      (counted_many (c := .assemblyExpired) _ (counted_many (cs := []) (c := .sheetExpired) s (counted_nil rfl) rfl) rfl)
      rfl)
  rw [slots, records] at counted
  simpa only [DiscardsCounted, sumSlots, sum_assemblies, List.nil_append] using counted

/-! ### The commit that a cleared flag lets happen (R51) -/

/-- Some slots' assemblies rejected one after another (R53). -/
def rejectAll (is : List SlotIx) (s : State) : State := is.foldl State.rejectAssembly s

theorem emptied_cons (slots : Vector SlotSheets 6) (i : SlotIx) (is : List SlotIx) :
    emptied (emptied slots [i]) is = emptied slots (i :: is) := slots_ext fun j => by
  simp only [emptied_get, List.mem_cons, List.not_mem_nil, or_false]
  by_cases own : j = i <;> by_cases listed : j ∈ is <;> simp [own, listed]

theorem rejectAssembly_sheets (s : State) (i : SlotIx) :
    (s.rejectAssembly i).sheets = { s.sheets with slots := emptied s.sheets.slots [i] } := by
  have slots : (s.sheets.setAssembly i none).slots = emptied s.sheets.slots [i] := slots_ext fun j => by
    rw [setAssembly_get, emptied_get]
    by_cases own : j = i <;> simp [own]
  rw [← slots]
  simp [State.rejectAssembly, SheetStore.setAssembly, SheetStore.setSlot]

theorem rejectAll_rejects (is : List SlotIx) (s : State) :
    rejectAll is s = { s with
      sheets := { s.sheets with slots := emptied s.sheets.slots is }, counters := (rejectAll is s).counters } ∧
      Counted (List.replicate is.length .sheetRejected) s (rejectAll is s) := by
  induction is generalizing s with
  | nil =>
    have none : emptied s.sheets.slots [] = s.sheets.slots := slots_ext fun j => by simp [emptied_get]
    rw [none]
    exact ⟨rfl, counted_nil rfl⟩
  | cons i is ih =>
    obtain ⟨shape, counted⟩ := ih (s.rejectAssembly i)
    refine ⟨?_, counted_trans (as := [_]) (counted_one rfl) counted⟩
    rw [rejectAssembly_sheets, emptied_cons] at shape
    exact shape

/-- The assemblies of `before`, all failing validation, go before the rest is looked at (R51). -/
theorem commitWaiting_rejects {before rest : List SlotIx} {s : State} (apart : before.Nodup)
    (bad : ∀ j ∈ before, ∃ a, (s.sheets.slots.get j).assembly = some a ∧ ¬ Good (s.sheets.slots.get j) a) :
    commitWaiting (before ++ rest) s = commitWaiting rest (rejectAll before s) := by
  induction before generalizing s with
  | nil => rfl
  | cons i before ih =>
    obtain ⟨out, apart'⟩ := List.nodup_cons.1 apart
    obtain ⟨a, held, fails⟩ := bad i List.mem_cons_self
    rw [List.cons_append, commitWaiting, held]
    simp only [mt good_iff.2 fails]
    refine ih apart' fun j hj => ?_
    have other : j ≠ i := fun same => out (same ▸ hj)
    simpa [rejectAssembly_sheets, emptied_get, other] using bad j (List.mem_cons_of_mem i hj)

/-- The flag has cleared: the waiting assemblies are looked at in their order (R51). -/
theorem tryCommit_released {s : State} (clear : s.table.rebuild = none) (apart : s.sheets.waiting.Nodup)
    (held : ∀ j ∈ s.sheets.waiting, ∃ a, (s.sheets.slots.get j).assembly = some a) :
    Released s.sheets s s.tryCommit := by
  have looked : s.tryCommit = commitWaiting s.sheets.waiting s := if_neg (by simp [clear])
  rw [looked]
  have bad_some {l : List SlotIx} (sub : ∀ j ∈ l, j ∈ s.sheets.waiting)
      (bad : ∀ j ∈ l, ∀ a, (s.sheets.slots.get j).assembly = some a → ¬ Good (s.sheets.slots.get j) a) :
      ∀ j ∈ l, ∃ a, (s.sheets.slots.get j).assembly = some a ∧ ¬ Good (s.sheets.slots.get j) a := fun j hj => by
    obtain ⟨a, ha⟩ := held j (sub j hj)
    exact ⟨a, ha, bad j hj a ha⟩
  refine ⟨fun bad => ?_, fun before i after a waiting bad own good => ?_⟩
  · obtain ⟨shape, counted⟩ := rejectAll_rejects s.sheets.waiting s
    have all := commitWaiting_rejects (rest := []) apart (bad_some (fun _ h => h) bad)
    rw [List.append_nil] at all
    rw [all, commitWaiting]
    generalize rejectAll s.sheets.waiting s = u at shape counted
    refine ⟨?_, ?_, ?_, countedOf_of_counted (counted_congr counted rfl rfl)⟩
    · rw [shape]
    · rw [shape]
    · rw [shape]
      exact clear
  · rw [waiting] at apart
    have sub : ∀ j ∈ before, j ∈ s.sheets.waiting := fun j hj => waiting ▸ List.mem_append_left _ hj
    have out : i ∉ before := fun hi => (List.nodup_append.1 apart).2.2 i hi i List.mem_cons_self rfl
    obtain ⟨shape, counted⟩ := rejectAll_rejects before s
    rw [waiting, commitWaiting_rejects (List.nodup_append.1 apart).1 (bad_some sub bad), commitWaiting]
    generalize rejectAll before s = u at shape counted
    have sheets : u.sheets = { s.sheets with slots := emptied s.sheets.slots before } := congrArg State.sheets shape
    have slot : u.sheets.slots.get i = s.sheets.slots.get i := by
      rw [sheets, emptied_get, if_neg out]
    rw [slot, own]
    simp only [good_iff.1 good, if_true]
    refine commitAssembly_commits (st := { s.sheets with slots := emptied s.sheets.slots before, waiting := after })
      (fun x => by rw [sheets]) ?_ ?_ (by rw [shape]) (countedOf_of_counted counted)
    · rw [sheets]
    · rw [sheets]

/-- The listed cases stay counted where none of them is among the counters moved before and after. -/
theorem countedOf_within {ks cs ds es : List Counter} {r s t u : State} (quiet : MovesOnly ds r s)
    (apart : ∀ k ∈ ks, k ∉ ds) (h : CountedOf ks cs s t) (quiet' : MovesOnly es t u) (apart' : ∀ k ∈ ks, k ∉ es) :
    CountedOf ks cs r u := by
  intro k hk bound
  have same := quiet k (apart k hk)
  rw [quiet' k (apart' k hk), ← same]
  exact h k hk (same ▸ bound)

/-- What the cleared flag lets happen goes by the sheets, the send side, the flag and the commit's counters. -/
theorem released_congr {st : SheetStore} {ds es : List Counter} {r s t u : State}
    (h : Released st s t) (before : s.tx = r.tx) (quiet : MovesOnly ds r s) (apart : ∀ k ∈ commitCounters, k ∉ ds)
    (sheets : u.sheets = t.sheets) (tx : u.tx = t.tx) (rebuild : u.table.rebuild = t.table.rebuild)
    (elapsed : u.elapsed = t.elapsed) (quiet' : MovesOnly es t u) (apart' : ∀ k ∈ commitCounters, k ∉ es) :
    Released st r u := by
  refine ⟨fun bad => ?_, fun pre i post a waiting bad own good => ?_⟩
  · obtain ⟨left, sent, clear, counted⟩ := h.1 bad
    exact ⟨sheets.trans left, tx.trans (sent.trans before), rebuild.trans clear,
      countedOf_within quiet apart counted quiet' apart'⟩
  · obtain ⟨left, sent, started, counted⟩ := h.2 pre i post a waiting bad own good
    rw [← elapsed, before] at left sent counted
    exact ⟨sheets.trans left, tx.trans sent, rebuild.trans started,
      countedOf_within quiet apart counted quiet' apart'⟩

end Sys2Proof.Proofs
end

section
/-! PROOF. The table's turn: sight-loss checks, fill pass and evaluations in each of their orders, and what one of them
leaves to the next. -/

namespace Sys2Proof.Proofs

open Sys2Proof Sys2Proof.Machine Sys2Proof.Claims

/-! ### One part of the turn after another -/

/-- An admitted entry is none whose bus is lost, nor has it an observation (R8). -/
theorem admitted_fresh {s : State} {x : Call} {e : Entry} (h : evaluated s (entryOf s x) = some e) :
    lostSight s e = false ∧ outdated s e = false ∧ evaluated s e = some e := by
  have again := evaluated_again (s := s) (e := entryOf s x) rfl (by simp [entryOf]) h
  have none : e.observation = none := by
    obtain ⟨-, same | gone, -⟩ := evaluate_some (evaluated_eq s _ ▸ h)
    · exact same
    · exact gone
  have sight : e.lastSight = .none := (evaluated_keeps h).2.2.1
  exact ⟨by simp [lostSight, sight], by simp [outdated, none], again⟩

/-- The entries some calls are admitted as. -/
def admittedOf (s : State) (taken : List Call) : List Entry := taken.filterMap fun x => evaluated s (entryOf s x)

theorem admittedOf_filter (s : State) (taken : List Call) :
    (admittedOf s taken).filter (lostSight s) = [] ∧
      ((admittedOf s taken).filter fun e => !lostSight s e) = admittedOf s taken ∧
      (admittedOf s taken).countP (outdated s) = 0 ∧ (admittedOf s taken).filterMap (evaluated s) = admittedOf s taken := by
  have fresh (e : Entry) (he : e ∈ admittedOf s taken) :
      lostSight s e = false ∧ outdated s e = false ∧ evaluated s e = some e := by
    obtain ⟨x, -, hx⟩ := List.mem_filterMap.1 he
    exact admitted_fresh hx
  refine ⟨?_, ?_, ?_, ?_⟩
  · exact List.filter_eq_nil_iff.2 fun e he => by simp [(fresh e he).1]
  · exact List.filter_eq_self.2 fun e he => by simp [(fresh e he).1]
  · exact List.countP_eq_zero.2 fun e he => by simp [(fresh e he).2.1]
  · exact (List.filterMap_congr fun e he => (fresh e he).2.2).trans List.filterMap_some

theorem insertBy_filter {α : Type} {before : α → α → Bool} {p : α → Bool} {a : α} (out : p a = false) (l : List α) :
    (insertBy before a l).filter p = l.filter p := by
  induction l with
  | nil => simp [insertBy, out]
  | cons b rest ih =>
    rw [insertBy]
    split
    · simp [out]
    · simp [List.filter_cons, ih]

/-- A pass leaves the lost entries among the others, in their order. -/
theorem admitCandidates_lost (s : State) (xs : List Candidate) (r : Table × Counters) :
    ((xs.foldl (admitCandidate s.loader.loaded s.clock.day s.now) r).1.entries.filter (lostSight s)) =
      r.1.entries.filter (lostSight s) := by
  induction xs generalizing r with
  | nil => rfl
  | cons x xs ih =>
    rw [List.foldl_cons, ih]
    unfold admitCandidate
    rw [← evaluated_eq]
    cases stays : evaluated s (admittedEntry x) with
    | none => rfl
    | some e =>
      have sight : e.lastSight = none := (evaluated_keeps stays).2.2.1
      exact insertBy_filter (by simp [lostSight, sight]) _

theorem fillPass_lost (s : State) :
    s.fillPass.table.entries.filter (lostSight s) = s.table.entries.filter (lostSight s) := by
  unfold State.fillPass
  split
  · obtain ⟨taken, lost, -, -, result⟩ := passResult_eq s
    rw [result]
    exact (congrArg _ (loseCandidates_entries lost _)).trans (admitCandidates_lost s taken _)
  · rfl

/-- What an occasion of a fill pass leaves (R5 to R8, R20). -/
structure Fills (s v : State) (taken lost : List Call) : Prop where
  table : if s.table.rebuild.isSome then taken = [] ∧ lost = [] ∧ v.table.passOwed = true ∧ v.table.marks = s.table.marks
    else Filled s.sheets.slots s.table.entries s.table.marks taken lost v
  entries : v.table.entries.Perm (s.table.entries ++ admittedOf s taken)
  order : v.table.entries.filter (lostSight s) = s.table.entries.filter (lostSight s)
  counted : Counted (List.replicate taken.length .admission ++ List.replicate lost.length .admissionLoss ++
    List.replicate (taken.length - (admittedOf s taken).length) .overdueRemoval) s v
  moves : MovesOnly fillCounters s v

theorem fillPass_is {s : State} (valid : s.clock.timeValid = true) (sound : s.SheetsSound)
    (clear : s.table.rebuild.isSome = false) : ∃ taken lost, Fills s s.fillPass taken lost := by
  obtain ⟨taken, lost, filled, perm, counted⟩ := fillPass_fills valid sound
  exact ⟨taken, lost, by simpa [clear] using filled, perm, fillPass_lost s, counted, (fillPass_keeps s).2⟩

theorem fillOrOwe_is {s : State} (valid : s.clock.timeValid = true) (sound : s.SheetsSound) :
    ∃ taken lost, Fills s s.fillOrOwe taken lost := by
  unfold State.fillOrOwe
  cases flies : s.table.rebuild.isSome with
  | true =>
    refine ⟨[], [], by simp [flies], by simp [admittedOf], rfl, counted_nil rfl, movesOnly_of_counters rfl⟩
  | false => simpa using fillPass_is valid sound flies

theorem due_congr {s t : State} (loader : t.loader = s.loader) (clock : t.clock = s.clock) {slots : Vector SlotSheets 6}
    {held held' : List Entry} (perm : held'.Perm held) {marks : Vector Int 6} {x : Call} :
    Due t slots held' marks x ↔ Due s slots held marks x := by
  simp only [Due, Call.comes, loader, clock, perm.mem_iff]

/-- A pass goes by the loaded values, the clock and what it finds. -/
theorem filled_congr {s t : State} {slots : Vector SlotSheets 6} {held held' : List Entry} {marks : Vector Int 6}
    {taken lost : List Call} (h : Filled slots held marks taken lost s) (perm : held'.Perm held)
    (loader : t.loader = s.loader) (clock : t.clock = s.clock) (owed : t.table.passOwed = s.table.passOwed)
    (after : t.table.marks = s.table.marks) : Filled slots held' marks taken lost t := by
  obtain ⟨⟨gs, ⟨nodup, mem, order, groups, apart⟩, admits⟩, paid, marked⟩ := h
  refine ⟨⟨gs, ⟨nodup, fun x => (mem x).trans (due_congr loader clock perm).symm, ?_, ?_, ?_⟩, ?_⟩, owed.trans paid, ?_⟩
  · have same : Ahead t = Ahead s := by
      funext x y
      simp only [Ahead, Call.comes, loader, clock]
    rwa [same]
  · simpa only [Together, Call.comes, loader, clock] using groups
  · simpa only [Together, Call.comes, loader, clock] using apart
  · rwa [perm.length_eq]
  · simpa only [Call.comes, loader, clock, after] using marked

theorem admittedOf_congr {s t : State} (loader : t.loader = s.loader) (clock : t.clock = s.clock) (taken : List Call) :
    admittedOf t taken = admittedOf s taken := by
  simp only [admittedOf, evaluated_congr loader (congrArg Clock.second clock), entryOf, Call.comes, loader, clock]

/-- What the sight-loss checks leave (R12, R13). -/
theorem sightLossChecks_departs (s : State) :
    s.sightLossChecks.table = { s.table with entries := s.table.entries.filter fun e => !lostSight s e } ∧
      (∀ ks, .relayDropped ∉ ks → CountedOf ks (List.replicate (s.table.entries.filter (lostSight s)).length .departure ++
        List.replicate (reportsOf s (s.table.entries.filter (lostSight s))).length .passageOriginated) s
          s.sightLossChecks) ∧
      Relayed (reportsOf s (s.table.entries.filter (lostSight s))) s s.sightLossChecks := by
  rw [sightLossChecks_eq]
  refine ⟨by simp [withEntries], fun ks apart => ?_, ?_⟩
  · exact reportAll_counted (leave := fun e => e.lastSight.getD s.now) (s.table.entries.filter (lostSight s))
      (withEntries s (s.table.entries.filter fun e => !lostSight s e)) apart
  · exact reportAll_relayed (withEntries s (s.table.entries.filter fun e => !lostSight s e))
      fun e he => lostSight_time (List.mem_filter.1 he).2 s.now

/-! ### A lost bus and an evaluation -/

theorem filter_filterMap_comm {α : Type} {f : α → Option α} {p : α → Bool} (same : ∀ a b, f a = some b → p b = p a)
    (l : List α) : (l.filterMap f).filter p = (l.filter p).filterMap f := by
  induction l with
  | nil => rfl
  | cons a rest ih =>
    cases stays : f a with
    | none =>
      by_cases fits : p a = true <;> simp [stays, fits, ih]
    | some b =>
      by_cases fits : p a = true <;> simp [stays, same a b stays, fits, ih]

theorem evaluated_lostSight {s : State} {e e' : Entry} (h : evaluated s e = some e') : lostSight s e' = lostSight s e := by
  obtain ⟨-, -, sight, waits⟩ := evaluated_keeps h
  simp [lostSight, sight, waits]

theorem lostSight_waits {s : State} {e : Entry} (lost : lostSight s e = true) : e.state = .atStop := by
  unfold lostSight at lost
  split at lost
  · cases lost
  · exact (of_decide_eq_true lost).1

/-- An entry whose bus is lost outlasts its evaluation. -/
theorem evaluated_lost (s : State) (l : List Entry) : List.Forall₂ (fun e e' => evaluated s e = some e')
    (l.filter (lostSight s)) ((l.filterMap (evaluated s)).filter (lostSight s)) := by
  rw [filter_filterMap_comm fun e e' => evaluated_lostSight]
  have waits : ∀ e ∈ l.filter (lostSight s), e.state = .atStop := fun e he => lostSight_waits (List.mem_filter.1 he).2
  generalize l.filter (lostSight s) = m at waits
  induction m with
  | nil => exact .nil
  | cons e rest ih =>
    obtain ⟨e', he'⟩ := evaluated_atStop (s := s) (waits e List.mem_cons_self)
    rw [List.filterMap_cons, he']
    exact .cons he' (ih fun x hx => waits x (List.mem_cons_of_mem e hx))

/-- An entry whose bus is lost has no observation that an evaluation drops (R28). -/
theorem countP_outdated (s : State) (l : List Entry) :
    (l.filter fun e => !lostSight s e).countP (outdated s) = l.countP (outdated s) := by
  rw [List.countP_filter]
  refine List.countP_congr fun e _ => ?_
  have away : outdated s e = true → lostSight s e = false := fun old => by
    by_contra lost
    have waits := lostSight_waits (s := s) (e := e) (by simpa using lost)
    rw [outdated_eq, stale_iff] at old
    exact old.1 waits
  simpa using away

theorem length_kept (s : State) (l : List Entry) :
    (l.filter fun e => !lostSight s e).length + (l.filter (lostSight s)).length = l.length := by
  have split := List.length_eq_length_filter_add (l := l) (lostSight s)
  omega

/-! ### The turn in each of its orders -/

/-- The counters a turn of the table is told by. -/
def turnCounters : List Counter := [.admission, .admissionLoss, .overdueRemoval, .observationExpired, .departure]

/-- Loaded values and clock stand. -/
structure SameNow (s u : State) : Prop where
  loader : u.loader = s.loader
  clock : u.clock = s.clock

theorem SameNow.now {s u : State} (same : SameNow s u) :
    evaluated u = evaluated s ∧ outdated u = outdated s ∧ lostSight u = lostSight s ∧
      (∀ taken, admittedOf u taken = admittedOf s taken) ∧ ∀ left, reportsOf u left = reportsOf s left :=
  ⟨evaluated_congr same.loader (congrArg Clock.second same.clock),
    outdated_congr same.loader (congrArg Clock.second same.clock),
    lostSight_congr same.loader (congrArg Clock.second same.clock), admittedOf_congr same.loader same.clock,
    fun left => by simp only [reportsOf, departureOf, same.loader, same.clock]⟩

theorem SameNow.trans {s u v : State} (h : SameNow s u) (h' : SameNow u v) : SameNow s v :=
  ⟨h'.loader.trans h.loader, h'.clock.trans h.clock⟩

/-- All that the relay of a report goes by stands, and the sheets with it. -/
structure SameFrame (s u : State) : Prop extends SameNow s u where
  elapsed : u.elapsed = s.elapsed
  sheets : u.sheets = s.sheets
  energy : u.planner.energy = s.planner.energy

/-- So many cases of each of them. -/
def turnCases (taken lost gone old left : Nat) : List Counter :=
  List.replicate taken .admission ++ List.replicate lost .admissionLoss ++ List.replicate gone .overdueRemoval ++
    List.replicate old .observationExpired ++ List.replicate left .departure

theorem turned_of {owes : Bool} {slots : Vector SlotSheets 6} {held before : List Entry} {marks : Vector Int 6}
    {s t : State} {taken lost : List Call} {cs : List Counter}
    (filled : if owes then taken = [] ∧ lost = [] ∧ t.table.passOwed = true ∧ t.table.marks = marks
      else Filled slots held marks taken lost t) (same : SameNow s t)
    (perm : t.table.entries.Perm (((before.filter fun e => !lostSight s e).filterMap (evaluated s)) ++
      admittedOf s taken)) (counted : CountedOf turnCounters cs s t)
    (counts : ∀ k ∈ turnCounters, cs.count k = (turnCases taken.length lost.length
      ((before.filter fun e => !lostSight s e).length + taken.length - t.table.entries.length)
      (before.countP (outdated s)) (before.filter (lostSight s)).length).count k) :
    Turned owes slots held before marks s t := by
  obtain ⟨ev, od, ls, adm, -⟩ := same.now
  refine ⟨taken, lost, filled, ?_, ?_⟩
  · simp only [ev, ls, List.filterMap_append, List.filterMap_map]
    have own : taken.filterMap (evaluated s ∘ entryOf t) = admittedOf s taken := by
      rw [← adm, admittedOf, ev]
      rfl
    rw [own]
    exact perm
  · intro k hk bound
    have total := length_kept s before
    simp only [od, ls, countP_outdated, List.length_append, List.length_map]
    rw [counted k hk bound, counts k hk, show before.length - (before.filter fun e => !lostSight s e).length =
      (before.filter (lostSight s)).length by omega]
    rfl

theorem lostDepart_of {ordered : Prop} {before left : List Entry} {s t : State} (same : SameFrame s t)
    (perm : left.Perm (before.filter (lostSight s))) (inOrder : ordered → left = before.filter (lostSight s))
    (counted : CountedOf [.departure, .passageOriginated] (List.replicate left.length .departure ++
      List.replicate (reportsOf s left).length .passageOriginated) s t) (relayed : Relayed (reportsOf s left) s t) :
    LostDepart ordered before s t := by
  obtain ⟨-, -, ls, -, reports⟩ := same.now
  rw [← reports] at counted relayed
  simp only [reportsOf, same.loader] at counted relayed
  exact ⟨left, by rwa [ls], fun h => by rw [ls]; exact inOrder h, counted, relayed⟩

/-- The parts of the turn, the pass at its place (assumption log 10). -/
def turnAll (pass : PassPlace) (s : State) : State :=
  match pass with
  | .first => s.fillOrOwe.sightLossChecks.evaluateAll
  | .afterChecks => s.sightLossChecks.fillOrOwe.evaluateAll
  | .afterEvaluations => s.evaluateAll.fillOrOwe.sightLossChecks
  | .last => s.sightLossChecks.evaluateAll.fillOrOwe

/-- What the pass finds in the table at its place. -/
def heldAt (pass : PassPlace) (s : State) : List Entry :=
  match pass with
  | .first => s.table.entries
  | .afterChecks => s.table.entries.filter fun e => !lostSight s e
  | .afterEvaluations => s.table.entries.filterMap (evaluated s)
  | .last => (s.table.entries.filter fun e => !lostSight s e).filterMap (evaluated s)

theorem sightLossChecks_frame (s : State) : SameFrame s s.sightLossChecks ∧ s.sightLossChecks.pending = s.pending ∧
    s.sightLossChecks.board = s.board ∧ s.sightLossChecks.planner = s.planner ∧ s.sightLossChecks.engine = s.engine ∧
    s.sightLossChecks.sense = s.sense ∧ s.sightLossChecks.rx = s.rx := by
  rw [sightLossChecks_eq]
  exact ⟨⟨⟨by simp [withEntries], by simp [withEntries]⟩, by simp [withEntries], by simp [withEntries],
    by simp [withEntries]⟩, by simp [withEntries], by simp [withEntries], by simp [withEntries], by simp [withEntries],
    by simp [withEntries], by simp [withEntries]⟩

theorem fillOrOwe_same (s : State) : SameFrame s s.fillOrOwe := ⟨⟨by simp, by simp⟩, by simp, by simp, by simp⟩

theorem evaluateAll_same (s : State) : SameFrame s s.evaluateAll := ⟨⟨by simp, by simp⟩, by simp, by simp, by simp⟩

theorem SameFrame.trans {s u v : State} (h : SameFrame s u) (h' : SameFrame u v) : SameFrame s v :=
  ⟨h.toSameNow.trans h'.toSameNow, h'.elapsed.trans h.elapsed, h'.sheets.trans h.sheets, h'.energy.trans h.energy⟩

theorem SameFrame.sound {s u : State} (h : SameFrame s u) (sound : s.SheetsSound) : u.SheetsSound := by
  rw [State.SheetsSound, h.sheets]
  exact sound

/-- The evaluations after the others: what they leave, and what all count. -/
theorem turned_evaluateAll {owes : Bool} {slots : Vector SlotSheets 6} {held before : List Entry} {marks : Vector Int 6}
    {s v : State} {taken lost : List Call} {cs : List Counter} (same : SameNow s v)
    (filled : if owes then taken = [] ∧ lost = [] ∧ v.table.passOwed = true ∧ v.table.marks = marks
      else Filled slots held marks taken lost v)
    (perm : v.table.entries.Perm ((before.filter fun e => !lostSight s e) ++ admittedOf s taken))
    (counted : CountedOf turnCounters cs s v)
    (counts : ∀ k ∈ turnCounters, cs.count k = (turnCases taken.length lost.length
      (taken.length - (admittedOf s taken).length) 0 (before.filter (lostSight s)).length).count k) :
    Turned owes slots held before marks s v.evaluateAll := by
  obtain ⟨ev, od, ls, adm, -⟩ := same.now
  obtain ⟨-, -, fresh, stay⟩ := admittedOf_filter s taken
  have table := evaluateAll_orders v
  rw [ev] at table
  have after : v.evaluateAll.table.entries.Perm
      ((before.filter fun e => !lostSight s e).filterMap (evaluated s) ++ admittedOf s taken) := by
    rw [table]
    refine (sortBy_perm _ _).trans ((perm.filterMap _).trans (.of_eq ?_))
    rw [List.filterMap_append, stay]
  refine turned_of (lost := lost) ?_ (same.trans (evaluateAll_same v).toSameNow) after
    (countedOf_trans counted (evaluateAll_counted v)) fun k hk => ?_
  · cases owes with
    | true => simpa [table] using filled
    | false =>
      exact filled_congr (s := v) (by simpa using filled) (.refl _) (by simp) (by simp) (by rw [table]) (by rw [table])
  · have old : v.table.entries.countP (outdated s) = before.countP (outdated s) := by
      rw [perm.countP_eq, List.countP_append, fresh, countP_outdated, Nat.add_zero]
    have shorter : (v.table.entries.filterMap (evaluated s)).length = v.evaluateAll.table.entries.length := by
      rw [table]
      exact (sortBy_perm _ _).length_eq.symm
    have most := List.length_filterMap_le (fun x => evaluated s (entryOf s x)) taken
    have fewer := List.length_filterMap_le (evaluated s) (before.filter fun e => !lostSight s e)
    have total := perm.length_eq
    have total' := after.length_eq
    rw [List.length_append] at total total'
    have same_ : (admittedOf s taken).length = (taken.filterMap fun x => evaluated s (entryOf s x)).length := rfl
    rw [List.count_append, counts k hk, od, ev, old, shorter]
    simp only [turnCases, List.count_append, List.count_replicate]
    split_ifs <;> omega

theorem departures_apart (s : State) (left : List Entry) (k : Counter) (hk : k ∈ turnCounters) :
    (List.replicate left.length Counter.departure ++
      List.replicate (reportsOf s left).length Counter.passageOriginated).count k =
        (List.replicate left.length Counter.departure).count k := by
  have other : Counter.passageOriginated ≠ k := by
    rintro rfl
    simp [turnCounters] at hk
  simp [List.count_append, List.count_replicate, other]

theorem evaluateAll_movesOnly (s : State) : MovesOnly [.observationExpired, .overdueRemoval] s s.evaluateAll := by
  have every : s.evaluateAll.counters = ((s.countMany .observationExpired
      (s.table.entries.countP fun e => e.stale s.loader.loaded s.now)).countMany .overdueRemoval
        (s.table.entries.length - (s.table.entries.filterMap fun e => e.evaluate s.loader.loaded s.now).length)).counters := by
    simp [State.evaluateAll, evaluateWhere, State.countMany]
  exact movesOnly_trans (movesOnly_countMany (movesOnly_countMany (movesOnly_of_counters rfl) (by decide)) (by decide))
    (movesOnly_of_counters every)

/-- The departures of the checks, with what goes before and after them. -/
theorem lostDepart_within {ordered : Prop} {before left : List Entry} {ds es : List Counter} {s u v t : State}
    (first : SameFrame s v) (last : SameFrame v t)
    (perm : left.Perm (before.filter (lostSight s))) (inOrder : ordered → left = before.filter (lostSight s))
    (counted : CountedOf [.departure, .passageOriginated] (List.replicate left.length .departure ++
      List.replicate (reportsOf s left).length .passageOriginated) u v) (relayed : Relayed (reportsOf s left) u v)
    (ready : u.tx = s.tx) (quiet : MovesOnly ds s u)
    (apart : ∀ k ∈ [Counter.departure, Counter.passageOriginated], k ∉ ds) (sent : t.tx = v.tx) (quiet' : MovesOnly es v t)
    (apart' : ∀ k ∈ [Counter.departure, Counter.passageOriginated], k ∉ es) : LostDepart ordered before s t := by
  refine lostDepart_of (first.trans last) perm inOrder (countedOf_within quiet apart counted quiet' apart') ?_
  have sent' := relayed_congr relayed sent last.energy last.sheets last.loader last.elapsed
  rw [Relayed, ready] at sent'
  exact sent'

/-- The pass, the checks, the evaluations. -/
theorem turn_first {s : State} (valid : s.clock.timeValid = true) (sound : s.SheetsSound) :
    Turned s.table.rebuild.isSome s.sheets.slots s.table.entries s.table.entries s.table.marks s
        s.fillOrOwe.sightLossChecks.evaluateAll ∧
      LostDepart True s.table.entries s s.fillOrOwe.sightLossChecks.evaluateAll := by
  obtain ⟨taken, lost, fills⟩ := fillOrOwe_is valid sound
  have first := fillOrOwe_same s
  have tx : s.fillOrOwe.tx = s.tx := by simp
  generalize s.fillOrOwe = u at fills first tx
  obtain ⟨table, counted, relayed⟩ := sightLossChecks_departs u
  obtain ⟨second, -⟩ := sightLossChecks_frame u
  obtain ⟨-, -, ls, -, reports⟩ := first.now
  obtain ⟨none, all, -, -⟩ := admittedOf_filter s taken
  simp only [ls, fills.order, reports] at table counted relayed
  generalize u.sightLossChecks = v at table counted relayed second
  have same := first.trans second
  refine ⟨turned_evaluateAll (taken := taken) (lost := lost) same.toSameNow ?_ ?_
    (countedOf_append (countedOf_of_counted fills.counted) (counted turnCounters (by decide))) fun k hk => ?_, ?_⟩
  · have filled := fills.table
    split at filled
    next flies =>
      rw [if_pos flies, table]
      exact filled
    next clear =>
      rw [if_neg clear]
      exact filled_congr filled (.refl _) second.loader second.clock (by rw [table]) (by rw [table])
  · rw [table]
    have kept := fills.entries.filter fun e => !lostSight s e
    rwa [List.filter_append, all] at kept
  · rw [List.count_append, departures_apart s _ k hk]
    simp only [turnCases, List.count_append, List.count_replicate]
    split_ifs <;> omega
  · exact lostDepart_within same (evaluateAll_same v) (.refl _) (fun _ => rfl) (counted _ (by decide)) relayed tx
      fills.moves (by decide) (by simp) (evaluateAll_movesOnly v) (by decide)

theorem filled_owing {owes : Bool} {slots : Vector SlotSheets 6} {held held' : List Entry} {marks : Vector Int 6}
    {taken lost : List Call} {s t : State}
    (h : if owes then taken = [] ∧ lost = [] ∧ s.table.passOwed = true ∧ s.table.marks = marks
      else Filled slots held marks taken lost s) (perm : held'.Perm held) (same : SameFrame s t)
    (owed : t.table.passOwed = s.table.passOwed) (after : t.table.marks = s.table.marks) :
    if owes then taken = [] ∧ lost = [] ∧ t.table.passOwed = true ∧ t.table.marks = marks
      else Filled slots held' marks taken lost t := by
  cases owes with
  | true => simpa [owed, after] using h
  | false => exact filled_congr (s := s) (by simpa using h) perm same.loader same.clock owed after

/-- The checks, the pass, the evaluations. -/
theorem turn_afterChecks {s : State} (valid : s.clock.timeValid = true) (sound : s.SheetsSound) :
    Turned s.table.rebuild.isSome s.sheets.slots (s.table.entries.filter fun e => !lostSight s e) s.table.entries
        s.table.marks s s.sightLossChecks.fillOrOwe.evaluateAll ∧
      LostDepart True s.table.entries s s.sightLossChecks.fillOrOwe.evaluateAll := by
  obtain ⟨table, counted, relayed⟩ := sightLossChecks_departs s
  obtain ⟨first, -⟩ := sightLossChecks_frame s
  generalize s.sightLossChecks = u at table counted relayed first
  obtain ⟨taken, lost, fills⟩ := fillOrOwe_is (s := u) (by rw [first.clock]; exact valid) (first.sound sound)
  have second := fillOrOwe_same u
  have tx : u.fillOrOwe.tx = u.tx := by simp
  generalize u.fillOrOwe = v at fills second tx
  obtain ⟨-, -, -, adm, -⟩ := first.now
  obtain ⟨filled, entries, -, counts, moves⟩ := fills
  rw [adm] at entries counts
  rw [table, first.sheets] at filled
  rw [table] at entries
  have same := first.trans second
  refine ⟨turned_evaluateAll (taken := taken) (lost := lost) same.toSameNow filled entries
    (countedOf_trans (counted turnCounters (by decide)) counts) fun k hk => ?_, ?_⟩
  · rw [List.count_append, departures_apart s _ k hk]
    simp only [turnCases, List.count_append, List.count_replicate]
    split_ifs <;> omega
  · exact lostDepart_within (u := s) (ds := []) first (second.trans (evaluateAll_same v)) (.refl _) (fun _ => rfl)
      (counted _ (by decide)) relayed rfl (movesOnly_of_counters rfl) (by decide) (by simp [tx])
      (movesOnly_trans (movesOnly_mono (ds := .observationExpired :: fillCounters) (by decide) moves)
        (movesOnly_mono (by decide) (evaluateAll_movesOnly v))) (by decide)

/-- The checks, the evaluations, the pass. -/
theorem turn_last {s : State} (valid : s.clock.timeValid = true) (sound : s.SheetsSound) :
    Turned s.table.rebuild.isSome s.sheets.slots
        ((s.table.entries.filter fun e => !lostSight s e).filterMap (evaluated s)) s.table.entries
        s.table.marks s s.sightLossChecks.evaluateAll.fillOrOwe ∧
      LostDepart True s.table.entries s s.sightLossChecks.evaluateAll.fillOrOwe := by
  obtain ⟨table, counted, relayed⟩ := sightLossChecks_departs s
  obtain ⟨first, -⟩ := sightLossChecks_frame s
  generalize s.sightLossChecks = u at table counted relayed first
  have second := evaluateAll_same u
  have utable := evaluateAll_orders u
  have ucounted := evaluateAll_counted u
  have tx : u.evaluateAll.tx = u.tx := by simp
  have umoves := evaluateAll_movesOnly u
  generalize u.evaluateAll = v at second utable ucounted tx umoves
  have same := first.trans second
  obtain ⟨taken, lost, fills⟩ := fillOrOwe_is (s := v) (by rw [same.clock]; exact valid) (same.sound sound)
  have third := fillOrOwe_same v
  have tx' : v.fillOrOwe.tx = v.tx := by simp
  generalize v.fillOrOwe = w at fills third tx'
  obtain ⟨ev, od, ls, -, -⟩ := first.now
  obtain ⟨-, -, -, adm, -⟩ := same.now
  obtain ⟨filled, entries, -, counts, moves⟩ := fills
  rw [adm] at entries counts
  rw [ev, table] at utable
  rw [ev, od, table, countP_outdated] at ucounted
  have weighed : v.table.entries.Perm ((s.table.entries.filter fun e => !lostSight s e).filterMap (evaluated s)) := by
    rw [utable]
    exact sortBy_perm _ _
  have after := entries.trans (weighed.append_right _)
  rw [utable, same.sheets] at filled
  have total := after.length_eq
  have most := List.length_filterMap_le (fun x => evaluated s (entryOf s x)) taken
  have fewer := List.length_filterMap_le (evaluated s) (s.table.entries.filter fun e => !lostSight s e)
  have own : (admittedOf s taken).length = (taken.filterMap fun x => evaluated s (entryOf s x)).length := rfl
  rw [List.length_append] at total
  refine ⟨turned_of (taken := taken) (lost := lost) (filled_owing filled (sortBy_perm _ _).symm ⟨⟨rfl, rfl⟩, rfl, rfl, rfl⟩
    rfl rfl) (same.trans third).toSameNow after (countedOf_trans (countedOf_trans (counted turnCounters (by decide)) ucounted)
      counts) fun k hk => ?_, ?_⟩
  · rw [List.count_append, List.count_append, departures_apart s _ k hk]
    simp only [turnCases, List.count_append, List.count_replicate]
    split_ifs <;> omega
  · exact lostDepart_within (u := s) (ds := []) first (second.trans third) (.refl _) (fun _ => rfl)
      (counted _ (by decide)) relayed rfl (movesOnly_of_counters rfl) (by decide) (by rw [tx', tx])
      (movesOnly_trans (movesOnly_mono (ds := .observationExpired :: fillCounters) (by decide) umoves)
        (movesOnly_mono (by decide) moves)) (by decide)

/-- An evaluation before the checks changes no report: it keeps slot, run, day, S and last sight (R13, R27). -/
theorem reportsOf_evaluated {s : State} {left left' : List Entry}
    (h : List.Forall₂ (fun e' e => evaluated s e = some e') left' left) : reportsOf s left' = reportsOf s left := by
  have same : (left'.map fun e => departureOf s e (e.lastSight.getD 0)) =
      left.map fun e => departureOf s e (e.lastSight.getD 0) := by
    induction h with
    | nil => rfl
    | cons weighed _ ih =>
      obtain ⟨⟨slot, day, run⟩, scheduled, sight, -⟩ := evaluated_keeps weighed
      rw [List.map_cons, List.map_cons, ih]
      simp only [departureOf, slot, day, run, scheduled, sight]
  rw [reportsOf, reportsOf, same]

/-- The evaluations, the pass, the checks. -/
theorem turn_afterEvaluations {s : State} (valid : s.clock.timeValid = true) (sound : s.SheetsSound) :
    Turned s.table.rebuild.isSome s.sheets.slots (s.table.entries.filterMap (evaluated s)) s.table.entries
        s.table.marks s s.evaluateAll.fillOrOwe.sightLossChecks ∧
      LostDepart False s.table.entries s s.evaluateAll.fillOrOwe.sightLossChecks := by
  have first := evaluateAll_same s
  have utable := evaluateAll_orders s
  have ucounted := evaluateAll_counted s
  have tx : s.evaluateAll.tx = s.tx := by simp
  have umoves := evaluateAll_movesOnly s
  generalize s.evaluateAll = u at first utable ucounted tx umoves
  obtain ⟨taken, lost, fills⟩ := fillOrOwe_is (s := u) (by rw [first.clock]; exact valid) (first.sound sound)
  have second := fillOrOwe_same u
  have tx' : u.fillOrOwe.tx = u.tx := by simp
  generalize u.fillOrOwe = v at fills second tx'
  have same := first.trans second
  obtain ⟨table, counted, relayed⟩ := sightLossChecks_departs v
  obtain ⟨third, -⟩ := sightLossChecks_frame v
  generalize v.sightLossChecks = w at table counted relayed third
  obtain ⟨-, -, ls, adm, -⟩ := first.now
  obtain ⟨-, -, ls', -, reports⟩ := same.now
  obtain ⟨filled, entries, order, counts, moves⟩ := fills
  rw [adm] at entries counts
  rw [ls] at order
  simp only [ls', order, reports] at table counted relayed
  rw [utable, first.sheets] at filled
  obtain ⟨-, stay, -, -⟩ := admittedOf_filter s taken
  have weighed : u.table.entries.Perm (s.table.entries.filterMap (evaluated s)) := by
    rw [utable]
    exact sortBy_perm _ _
  have lasting := filter_filterMap_comm (f := evaluated s) (p := fun e => !lostSight s e)
    (fun e e' h => congrArg _ (evaluated_lostSight h)) s.table.entries
  have after : w.table.entries.Perm
      ((s.table.entries.filter fun e => !lostSight s e).filterMap (evaluated s) ++ admittedOf s taken) := by
    rw [table, ← lasting]
    have kept := (entries.trans (weighed.append_right _)).filter fun e => !lostSight s e
    rwa [List.filter_append, stay] at kept
  have gone := (weighed.filter (lostSight s))
  obtain ⟨left, pairs, perm⟩ := List.perm_comp_forall₂ gone (evaluated_lost s s.table.entries).flip
  rw [reportsOf_evaluated pairs] at relayed
  simp only [reportsOf_evaluated pairs, pairs.length_eq] at counted
  have split := length_kept s (s.table.entries.filterMap (evaluated s))
  rw [lasting, ← (evaluated_lost s s.table.entries).length_eq] at split
  have total := after.length_eq
  have most := List.length_filterMap_le (fun x => evaluated s (entryOf s x)) taken
  have fewer := List.length_filterMap_le (evaluated s) s.table.entries
  have fewer' := List.length_filterMap_le (evaluated s) (s.table.entries.filter fun e => !lostSight s e)
  have own : (admittedOf s taken).length = (taken.filterMap fun x => evaluated s (entryOf s x)).length := rfl
  have before := length_kept s s.table.entries
  have leaves := perm.length_eq
  rw [List.length_append] at total
  refine ⟨turned_of (taken := taken) (lost := lost) (filled_owing filled (sortBy_perm _ _).symm third
    (by rw [table]) (by rw [table])) (same.trans third).toSameNow after
      (countedOf_append (countedOf_of_counted (counted_trans ucounted counts)) (counted turnCounters (by decide)))
        fun k hk => ?_, ?_⟩
  · have left_ := departures_apart s left k hk
    rw [List.count_append, List.count_append, left_]
    simp only [turnCases, List.count_append, List.count_replicate]
    split_ifs <;> omega
  · exact lostDepart_within (es := []) (same.trans third) ⟨⟨rfl, rfl⟩, rfl, rfl, rfl⟩ perm (fun h => h.elim)
      (counted _ (by decide)) relayed (by rw [tx', tx])
      (movesOnly_trans (movesOnly_mono (ds := .observationExpired :: fillCounters) (by decide) umoves)
        (movesOnly_mono (by decide) moves)) (by decide) rfl (movesOnly_of_counters rfl) (by decide)

/-- The turn with the pass at its place, whatever the place (assumption log 10). -/
theorem turnAll_turns (pass : PassPlace) {s : State} (valid : s.clock.timeValid = true) (sound : s.SheetsSound) :
    Turned s.table.rebuild.isSome s.sheets.slots (heldAt pass s) s.table.entries s.table.marks s (turnAll pass s) ∧
      LostDepart (pass ≠ .afterEvaluations) s.table.entries s (turnAll pass s) := by
  cases pass with
  | first => simpa [turnAll, heldAt] using turn_first valid sound
  | afterChecks => simpa [turnAll, heldAt] using turn_afterChecks valid sound
  | afterEvaluations => simpa [turnAll, heldAt] using turn_afterEvaluations valid sound
  | last => simpa [turnAll, heldAt] using turn_last valid sound

/-- The turn goes by its own counters, and by the loaded values, the clock and the table it ends with. -/
theorem turned_within {owes : Bool} {slots : Vector SlotSheets 6} {held before : List Entry} {marks : Vector Int 6}
    {ds es : List Counter} {r s t u : State} (quiet : MovesOnly ds r s) (apart : ∀ k ∈ turnCounters, k ∉ ds)
    (h : Turned owes slots held before marks s t) (quiet' : MovesOnly es t u) (apart' : ∀ k ∈ turnCounters, k ∉ es)
    (same : SameNow t u) (entries : u.table.entries = t.table.entries) (owed : u.table.passOwed = t.table.passOwed)
    (after : u.table.marks = t.table.marks) : Turned owes slots held before marks r u := by
  obtain ⟨taken, lost, filled, perm, counted⟩ := h
  obtain ⟨ev, od, ls, -, -⟩ := same.now
  have entry : entryOf u = entryOf t := by
    funext x
    simp only [entryOf, Call.comes, same.loader, same.clock]
  refine ⟨taken, lost, ?_, ?_, ?_⟩
  · cases owes with
    | true => simpa [owed, after] using filled
    | false => exact filled_congr (s := t) (by simpa using filled) (.refl _) same.loader same.clock owed after
  · simpa only [entries, ev, ls, entry] using perm
  · simpa only [entries, ls, od, entry, turnCounters] using countedOf_within quiet apart counted quiet' apart'

theorem lostDepart_congr {ordered : Prop} {before : List Entry} {ds es : List Counter} {r s t u : State}
    (loader : s.loader = r.loader) (tx : s.tx = r.tx) (quiet : MovesOnly ds r s)
    (apart : ∀ k ∈ [Counter.departure, Counter.passageOriginated], k ∉ ds) (h : LostDepart ordered before s t)
    (same : SameFrame t u) (sent : u.tx = t.tx) (quiet' : MovesOnly es t u)
    (apart' : ∀ k ∈ [Counter.departure, Counter.passageOriginated], k ∉ es) : LostDepart ordered before r u := by
  obtain ⟨left, perm, inOrder, counted, relayed⟩ := h
  obtain ⟨-, -, ls, -, -⟩ := same.now
  have frame : departureOf u = departureOf t := by
    funext e leave
    simp only [departureOf, same.loader, same.clock]
  rw [loader] at counted relayed
  refine ⟨left, by rwa [ls], by rwa [ls], ?_⟩
  rw [frame]
  refine ⟨countedOf_within quiet apart counted quiet' apart', ?_⟩
  have sent' := relayed_congr relayed sent same.energy same.sheets same.loader same.elapsed
  rw [Relayed, tx] at sent'
  exact sent'

end Sys2Proof.Proofs
end

section
/-! PROOF. The adoption of a CLOCK frame: clock and timers, the table's turn, the store's discards, the notices' expiry
and the board (O21, O39). -/

namespace Sys2Proof.Proofs

open Sys2Proof Sys2Proof.Machine Sys2Proof.Claims

/-! ### What the table's operations may count -/

/-- The counters that an adoption or a counted second moves in table and store. -/
def bodyCounters : List Counter :=
  [.admission, .admissionLoss, .overdueRemoval, .observationExpired, .departure, .passageOriginated, .relayDropped,
    .rolloverRemoval, .flushed, .sheetExpired, .assemblyExpired, .publicationExpired, .sheetCommitted, .sheetRejected,
    .publicationRequested, .publicationMerged, .publicationRefused]

theorem sightLossChecks_movesOnly (s : State) :
    MovesOnly [.departure, .passageOriginated, .relayDropped] s s.sightLossChecks := by
  rw [sightLossChecks_eq]
  exact movesOnly_trans (t := withEntries s _) (movesOnly_of_counters rfl) (reportAll_movesOnly _ _ _)

theorem rollTable_movesOnly (s : State) : MovesOnly [.rolloverRemoval] s s.rollTable :=
  movesOnly_countMany (movesOnly_of_counters rfl) (by decide)

theorem flushTable_movesOnly (s : State) : MovesOnly [.flushed] s s.flushTable :=
  movesOnly_countMany (movesOnly_of_counters rfl) (by decide)

theorem changeDays_movesOnly (s : State) :
    MovesOnly [.sheetExpired, .assemblyExpired, .publicationExpired] s s.changeDays :=
  movesOnly_countMany (movesOnly_countMany (movesOnly_countMany (movesOnly_of_counters rfl) (by decide)) (by decide))
    (by decide)

theorem turnAll_movesOnly (pass : PassPlace) (s : State) : MovesOnly
    [.admission, .admissionLoss, .overdueRemoval, .observationExpired, .departure, .passageOriginated, .relayDropped]
      s (turnAll pass s) := by
  have fill (u : State) := movesOnly_mono (ds := [.admission, .admissionLoss, .overdueRemoval, .observationExpired,
    .departure, .passageOriginated, .relayDropped]) (by decide) (fillOrOwe_keeps u).2
  have checks (u : State) := movesOnly_mono (ds := [.admission, .admissionLoss, .overdueRemoval, .observationExpired,
    .departure, .passageOriginated, .relayDropped]) (by decide) (sightLossChecks_movesOnly u)
  have tick (u : State) := movesOnly_mono (ds := [.admission, .admissionLoss, .overdueRemoval, .observationExpired,
    .departure, .passageOriginated, .relayDropped]) (by decide) (evaluateAll_movesOnly u)
  cases pass with
  | first => exact movesOnly_trans (movesOnly_trans (fill _) (checks _)) (tick _)
  | afterChecks => exact movesOnly_trans (movesOnly_trans (checks _) (fill _)) (tick _)
  | afterEvaluations => exact movesOnly_trans (movesOnly_trans (tick _) (fill _)) (checks _)
  | last => exact movesOnly_trans (movesOnly_trans (checks _) (tick _)) (fill _)

theorem evaluateAll_inOrder (s : State) : InOrder s.evaluateAll := by
  rw [InOrder, evaluateAll_orders]
  simpa using orderEntries_pairwise s.loader.loaded s.clock.day _

theorem sightLossChecks_inOrder {s : State} (h : InOrder s) : InOrder s.sightLossChecks := by
  have table := (sightLossChecks_departs s).1
  have same := (sightLossChecks_frame s).1
  rw [InOrder, table, same.loader, same.clock]
  exact h.filter _

/-- At its end the table is in order, wherever the pass stood. -/
theorem turnAll_inOrder (pass : PassPlace) (s : State) : InOrder (turnAll pass s) := by
  cases pass with
  | first => exact evaluateAll_inOrder _
  | afterChecks => exact evaluateAll_inOrder _
  | afterEvaluations => exact sightLossChecks_inOrder ((fillOrOwe_keeps _).1 (evaluateAll_inOrder _))
  | last => exact (fillOrOwe_keeps _).1 (evaluateAll_inOrder _)

@[simp] theorem turnAll_frame (pass : PassPlace) (s : State) :
    (turnAll pass s).pending = s.pending ∧ (turnAll pass s).elapsed = s.elapsed ∧
    (turnAll pass s).loader = s.loader ∧ (turnAll pass s).clock = s.clock ∧ (turnAll pass s).sheets = s.sheets ∧
    (turnAll pass s).table.rebuild = s.table.rebuild ∧ (turnAll pass s).board = s.board ∧
    (turnAll pass s).planner = s.planner ∧ (turnAll pass s).engine = s.engine ∧ (turnAll pass s).sense = s.sense ∧
    (turnAll pass s).rx = s.rx := by
  cases pass <;> simp [turnAll]

theorem turnAll_busy {pass : PassPlace} {s : State} (busy : s.tx.state ≠ .idle) : (turnAll pass s).tx.state ≠ .idle := by
  have checks {u : State} (h : u.tx.state ≠ .idle) : u.sightLossChecks.tx.state ≠ .idle := by
    rw [sightLossChecks_eq]
    exact reportAll_busy h
  cases pass with
  | first => simpa [turnAll] using checks (u := s.fillOrOwe) (by simpa using busy)
  | afterChecks => simpa [turnAll] using checks busy
  | afterEvaluations => exact checks (by simpa using busy)
  | last => simpa [turnAll] using checks busy

/-! ### The end of an adoption: notices, board, port and radio -/

/-- Notices expired, the board composed, and the command's end. -/
def reshown (s : State) : State := s.expireNotices.compose.finish

theorem expireNotices_movesOnly (s : State) : MovesOnly [.noticeExpired] s s.expireNotices := by
  unfold State.expireNotices
  dsimp only
  split
  · exact movesOnly_of_counters rfl
  · exact movesOnly_countMany (movesOnly_of_counters (by simp)) (by decide)

/-- What the end of an adoption leaves, once the table has turned in state `v` (R40, R77). -/
theorem reshown_shows {s v : State} {dt : Nat} {rest : List ReceivedFrame} (sound : s.RadioSound)
    (started : s.started = true) (elapsed : v.elapsed = s.elapsed + dt)
    (loader : v.loader = s.loader) (rx : v.rx = { s.rx with queue := rest })
    (busy : s.tx.state ≠ .idle → v.tx.state ≠ .idle) :
    SameFrame v (reshown v) ∧ (reshown v).tx = v.tx ∧ (reshown v).table = v.table ∧
      MovesOnly boardCounters v.expireNotices (reshown v) ∧ MovesOnly (.noticeExpired :: boardCounters) v (reshown v) ∧
      RxSettles rest s (reshown v) ∧
      (reshown v).board = { v.expireNotices.board with targets := (reshown v).composedTargets } := by
  have counters : v.expireNotices.compose.finish.counters = v.expireNotices.compose.counters :=
    finish_counters_of_sound (queue := rest) sound (by simpa using loader) (by simpa using rx) (by simpa using busy)
      (by simp [elapsed])
  have targets : (reshown v).composedTargets = v.expireNotices.composedTargets :=
    composedTargets_congr (by simp [reshown]) (by simp [reshown]) (by simp [reshown]) (by simp [reshown])
      (by simp [reshown]) (by simp [reshown]) (by simp [reshown])
  have shows : (reshown v).board = { v.expireNotices.board with targets := (reshown v).composedTargets } := by
    rw [targets, ← compose_board]
    simp [reshown]
  have composed : MovesOnly boardCounters v.expireNotices (reshown v) := fun k hk =>
    (State.counter_congr counters k).trans (compose_movesOnly _ k hk)
  refine ⟨⟨⟨by simp [reshown], by simp [reshown]⟩, by simp [reshown], by simp [reshown], by simp [reshown]⟩,
    by simp [reshown], by simp [reshown], composed, movesOnly_trans (movesOnly_mono (by decide)
      (expireNotices_movesOnly v)) (movesOnly_mono (by decide) composed), ?_, shows⟩
  exact rxSettles_finish (by simpa [State.started, loader] using started) (by simpa using rx)

/-- The notices' expiry is what the end of an adoption shows of the store (R90, R91). -/
theorem noticesExpire_of {s v t : State} {cs ds : List Counter} (rotation : s.RotationSound) (board : v.board = s.board)
    (quiet : MovesOnly cs s v) (apart : .noticeExpired ∉ cs) (quiet' : MovesOnly ds v.expireNotices t)
    (apart' : .noticeExpired ∉ ds) : NoticesExpire v.clock v.elapsed s t v.expireNotices.board := by
  have settled : v.RotationSound := by
    rw [State.RotationSound, board]
    exact rotation
  obtain ⟨notices, settles, counted⟩ := expireNotices_expires settled
  rw [board] at notices settles counted
  exact ⟨notices, settles, countedOf_within quiet (by simpa using apart) (countedOf_of_counted counted) quiet'
    (by simpa using apart')⟩

/-! ### The adoption in clock and timers (R67 to R74) -/

/-- The clock's own counters (R66 to R72). -/
def clockCounters : List Counter := [.clockAdopted, .firstAdoption, .stepForward, .stepBack, .nextDayAdoption, .dayJump,
  .clockMalformed, .clockOutranked, .clockAgreeing]

/-- The present time as the model's moment. -/
def momentOf (p : Present) : Moment := ⟨p.day, p.ms⟩

/-- Stratum and time set from a frame, the kind of the adoption counted. -/
def retimed (s : State) (p : Present) (c : Nat) (kind : Counter) : State :=
  ((s.takeStratum c).count kind).setTime (momentOf p)

/-- The first adoption's clock and timers, started in the order chosen (R69, R54, R74). -/
def firstTimed (s : State) (p : Present) (c : Nat) (offerFirst : Bool) : State :=
  let timed := State.setTime { s.takeStratum c with clock := { (s.takeStratum c).clock with timeValid := true } }
    (momentOf p)
  (if offerFirst then timed.startOffers.startBeacon else timed.startBeacon.startOffers).count .firstAdoption

/-- The order of a clock step's checks and pass as the place of the pass (R24). -/
def stepPlace (passFirst : Bool) : PassPlace := if passFirst then .first else .afterChecks

/-- The clock at the head of an adoption. -/
def adoptedClock (s : State) (p : Present) (c : Nat) (beacon : Option Nat) : Clock :=
  ⟨true, p.day, p.ms / 1000, p.ms % 1000, c, some s.elapsed, if c < 7 then some (s.elapsed + 21600000) else none, beacon⟩

/-- A state with the clock set from a frame, and its two cases counted; table, board and engine are as they were. -/
structure Retimed (s u : State) (p : Present) (c : Nat) (kind : Counter) : Prop where
  pending : u.pending = s.pending
  elapsed : u.elapsed = s.elapsed
  loader : u.loader = s.loader
  table : u.table = s.table
  board : u.board = s.board
  planner : u.planner = s.planner
  engine : u.engine = s.engine
  sense : u.sense = s.sense
  rx : u.rx = s.rx
  send : u.tx.state = s.tx.state
  clock : u.clock = adoptedClock s p c u.clock.beaconTimer
  counted : Counted [.clockAdopted, kind] s u
  moves : MovesOnly [.clockAdopted, kind] s u

theorem retimed_is {s : State} (p : Present) (c : Nat) (kind : Counter) (valid : s.clock.timeValid = true) :
    Retimed s (retimed s p c kind) p c kind := by
  refine ⟨by simp [retimed], by simp [retimed], by simp [retimed], by simp [retimed], by simp [retimed],
    by simp [retimed], by simp [retimed], by simp [retimed], by simp [retimed], by simp [retimed], ?_, ?_, ?_⟩
  · simp [retimed, State.setTime, State.takeStratum, momentOf, adoptedClock, State.after, Config.agingSeconds, valid]
  · exact counted_of (cs := [.clockAdopted]) (s.takeStratum c) (counted_one rfl) rfl
  · exact movesOnly_trans (t := s.takeStratum c) (movesOnly_count (t := s) (movesOnly_of_counters rfl) (by simp))
      (movesOnly_count (t := s.takeStratum c) (movesOnly_of_counters rfl) (by simp))

theorem firstTimed_is (s : State) (p : Present) (c : Nat) (offerFirst : Bool) :
    Retimed s (firstTimed s p c offerFirst) p c .firstAdoption := by
  have counters : (firstTimed s p c offerFirst).counters = ((s.takeStratum c).count .firstAdoption).counters := by
    cases offerFirst <;> rfl
  constructor
  case clock =>
    cases offerFirst <;> simp [firstTimed, State.startBeacon, State.startOffers, State.afterDraw, State.setTime,
      State.takeStratum, momentOf, adoptedClock, State.after, Config.agingSeconds]
  case counted => exact counted_of (cs := [.clockAdopted]) (s.takeStratum c) (counted_one rfl) counters
  case moves =>
    exact fun k hk => (State.counter_congr counters k).trans
      (movesOnly_trans (t := s.takeStratum c) (movesOnly_count (t := s) (movesOnly_of_counters rfl) (by simp))
        (movesOnly_count (t := s.takeStratum c) (movesOnly_of_counters rfl) (by simp)) k hk)
  all_goals cases offerFirst <;> simp [firstTimed]

/-- The draws of the first adoption stay within their bounds, in either order (R54, R74). -/
theorem firstTimed_timers (s : State) (p : Present) (c : Nat) (offerFirst : Bool) :
    let u := firstTimed s p c offerFirst
    let i := s.loader.loaded.clockInterval
    (∃ x, u.clock.beaconTimer = some (s.elapsed + 1000 * x) ∧ i - i / 4 ≤ x ∧ x ≤ i + i / 4) ∧
      (∃ x, u.sheets.offerTimer = some (s.elapsed + 1000 * x) ∧ 5 ≤ x ∧ x ≤ 15) ∧
      u.sheets = { s.sheets with offerTimer := u.sheets.offerTimer } := by
  have beacon (v : State) (i : Nat) : i - i / 4 ≤ v.jittered i ∧ v.jittered i ≤ i + i / 4 := by
    rw [jittered_eq, redrawn]
    have below := Nat.mod_lt (lfsrSteps 16 v.tx.lfsr).toNat (show 0 < 2 * (i / 4) + 1 by omega)
    omega
  have offer (v : State) : 5 ≤ (v.drawValue 5 11).toNat ∧ (v.drawValue 5 11).toNat ≤ 15 := by
    rw [State.drawValue]
    have below := Nat.mod_lt v.drawn.toNat (show 0 < 11 by decide)
    omega
  intro u i
  let timed := State.setTime { s.takeStratum c with clock := { (s.takeStratum c).clock with timeValid := true } }
    (momentOf p)
  cases offerFirst with
  | true =>
    exact ⟨⟨timed.startOffers.jittered i, rfl, beacon _ i⟩, ⟨(timed.drawValue 5 11).toNat, rfl, offer _⟩, rfl⟩
  | false =>
    exact ⟨⟨timed.jittered i, rfl, beacon _ i⟩, ⟨(timed.startBeacon.drawValue 5 11).toNat, rfl, offer _⟩, rfl⟩

/-! ### The four kinds (R69 to R72) -/

/-- The state in which the clock is set, by the kind of the adoption. -/
def clockSet (s : State) (p : Present) (c : Nat) (offerFirst : Bool) : State :=
  if s.clock.timeValid = false then firstTimed s p c offerFirst
  else retimed s p c (adoptionKind s.clock s.clock.ownMs p)

/-- The state whose re-evaluation ends an adoption: what its kind makes of table and store, once the clock is set (R69 to
R72). -/
def adoptedState (s : State) (p : Present) (c : Nat) (offerFirst passFirst : Bool) : State :=
  if s.clock.timeValid = false then (clockSet s p c offerFirst).flushTable.fillPass.evaluateAll
  else if p.day = s.clock.day then turnAll (stepPlace passFirst) (clockSet s p c offerFirst)
  else if p.day = s.clock.day + 1#16 then
    turnAll (stepPlace passFirst) (clockSet s p c offerFirst).rollTable.changeDays
  else ((clockSet s p c offerFirst).changeDays.flushTable.fillAndCommit (!passFirst)).evaluateAll

theorem adopt_eq (s : State) (f : ClockFields) (p : Present) (offerFirst passFirst : Bool) :
    s.adopt f (momentOf p) offerFirst passFirst =
      reshown (adoptedState s p (f.stratum + 1) offerFirst passFirst) := by
  have shown (v : State) : v.reevaluate.finish = reshown v.evaluateAll := rfl
  have step (v : State) : (v.stepTable passFirst).evaluateAll = turnAll (stepPlace passFirst) v := by
    cases passFirst <;> rfl
  rw [State.adopt, shown]
  congr 1
  unfold State.adoptTime adoptedState
  simp only [State.takeStratum_frame, show (momentOf p).day = p.day from rfl]
  by_cases invalid : s.clock.timeValid = false
  · rw [if_pos invalid, if_pos invalid, clockSet, if_pos invalid]
    rfl
  rw [if_neg invalid, if_neg invalid, clockSet, if_neg invalid, adoptionKind, if_neg invalid]
  by_cases today : p.day = s.clock.day
  · rw [if_pos today, if_pos today, if_pos today]
    exact step _
  rw [if_neg today, if_neg today, if_neg today]
  by_cases next : p.day = s.clock.day + 1#16
  · rw [if_pos next, if_pos next, if_pos next]
    exact step _
  · rw [if_neg next, if_neg next, if_neg next]
    rfl

theorem takeClock_adopts {s : State} {f : ClockFields} {stamp : Nat} {a b : Bool} (good : ¬ f.malformed = true)
    (taken : adopts s.clock f (presentTime f (s.elapsed - stamp)) = true) : s.takeClock f stamp a b =
      reshown (adoptedState s (presentOf f (s.elapsed - stamp)) (f.stratum + 1) a b) := by
  rw [← adopt_eq, State.takeClock, if_neg good]
  exact if_pos taken

/-- An adopted frame: the run of the command (R67). -/
theorem clockFrame_adopts {s : State} {dt : Nat} {a b : Bool} {g : ReceivedFrame} {rest : List ReceivedFrame}
    (head : AtHead .clock g rest s) (formed : (readClock g.body).stratum ≠ 7) (within : (readClock g.body).second ≤ 86399)
    (adopted : Adopted s.clock (s.clock.second * 1000 + s.clock.phase + dt) (readClock g.body)
      (presentOf (readClock g.body) (s.elapsed + dt - g.stamp))) :
    exec (.clockFrame dt a b) s = .next (reshown (adoptedState (headTaken s dt rest)
      (presentOf (readClock g.body) (s.elapsed + dt - g.stamp)) ((readClock g.body).stratum + 1) a b)) := by
  have good : ¬ (readClock g.body).malformed = true := by
    rw [clock_malformed_iff]
    omega
  exact (clockFrame_run head).trans (congrArg Host.Outcome.next
    (takeClock_adopts good (adopts_iff.2 (headTaken_adopted.2 adopted))))

/-! ### What the table and the store do with an adoption -/

/-- Table and store have taken an adoption: the table is in order, and nothing else but the send side has moved. -/
structure Bodied (u w : State) : Prop where
  pending : w.pending = u.pending
  elapsed : w.elapsed = u.elapsed
  loader : w.loader = u.loader
  clock : w.clock = u.clock
  board : w.board = u.board
  planner : w.planner = u.planner
  engine : w.engine = u.engine
  sense : w.sense = u.sense
  rx : w.rx = u.rx
  offer : w.sheets.offerTimer = u.sheets.offerTimer
  busy : u.tx.state ≠ .idle → w.tx.state ≠ .idle
  moves : MovesOnly bodyCounters u w
  order : InOrder w

theorem turnAll_bodied (pass : PassPlace) (u : State) : Bodied u (turnAll pass u) :=
  ⟨by simp, by simp, by simp, by simp, by simp, by simp, by simp, by simp, by simp, by simp, turnAll_busy,
    movesOnly_mono (by decide) (turnAll_movesOnly pass u), turnAll_inOrder pass u⟩

theorem rolled_bodied (pass : PassPlace) (u : State) : Bodied u (turnAll pass u.rollTable.changeDays) :=
  ⟨by simp, by simp, by simp, by simp, by simp, by simp, by simp, by simp, by simp, by simp,
    fun busy => turnAll_busy (by simpa using busy),
    movesOnly_trans (movesOnly_trans (movesOnly_mono (by decide) (rollTable_movesOnly u))
      (movesOnly_mono (by decide) (changeDays_movesOnly _))) (movesOnly_mono (by decide) (turnAll_movesOnly pass _)),
    turnAll_inOrder pass _⟩

theorem flushed_bodied (u : State) : Bodied u u.flushTable.fillPass.evaluateAll :=
  ⟨by simp, by simp, by simp, by simp, by simp, by simp, by simp, by simp, by simp, by simp, fun busy => by simpa using busy,
    movesOnly_trans (movesOnly_trans (movesOnly_mono (by decide) (flushTable_movesOnly u))
      (movesOnly_mono (by decide) (fillPass_keeps _).2)) (movesOnly_mono (by decide) (evaluateAll_movesOnly _)),
    evaluateAll_inOrder _⟩

theorem fillAndCommit_movesOnly (s : State) (commitFirst : Bool) :
    MovesOnly (fillCounters ++ commitCounters) s (s.fillAndCommit commitFirst) := by
  have fill (u : State) := movesOnly_mono (ds := fillCounters ++ commitCounters) (by decide) (fillPass_keeps u).2
  have commit (u : State) := movesOnly_mono (ds := fillCounters ++ commitCounters) (by decide) (tryCommit_movesOnly u)
  cases commitFirst with
  | true => exact movesOnly_trans (commit _) (fill _)
  | false => exact movesOnly_trans (fill _) (commit _)

theorem tryCommit_send (s : State) : s.tryCommit.tx.state = s.tx.state := by
  have waiting (l : List SlotIx) (u : State) : (commitWaiting l u).tx.state = u.tx.state := by
    induction l generalizing u with
    | nil => rfl
    | cons i rest ih =>
      unfold commitWaiting
      split
      · exact ih u
      · split
        · simp
        · rw [ih]
          simp
  unfold State.tryCommit
  split
  · rfl
  · exact waiting _ s

theorem fillAndCommit_send (s : State) (commitFirst : Bool) : (s.fillAndCommit commitFirst).tx.state = s.tx.state := by
  cases commitFirst <;> simp [State.fillAndCommit, tryCommit_send]

theorem jumped_bodied (commitFirst : Bool) (u : State) :
    Bodied u (u.changeDays.flushTable.fillAndCommit commitFirst).evaluateAll :=
  ⟨by simp, by simp, by simp, by simp, by simp, by simp, by simp, by simp, by simp, by simp,
    fun busy => by simpa [fillAndCommit_send] using busy,
    movesOnly_trans (movesOnly_trans (movesOnly_trans (movesOnly_mono (by decide) (changeDays_movesOnly u))
      (movesOnly_mono (by decide) (flushTable_movesOnly _))) (movesOnly_mono (by decide) (fillAndCommit_movesOnly _ _)))
        (movesOnly_mono (by decide) (evaluateAll_movesOnly _)),
    evaluateAll_inOrder _⟩

theorem clockSet_is (s : State) (p : Present) (c : Nat) (offerFirst : Bool) :
    Retimed s (clockSet s p c offerFirst) p c (adoptionKind s.clock s.clock.ownMs p) := by
  unfold clockSet
  split
  next invalid =>
    rw [adoptionKind, if_pos invalid]
    exact firstTimed_is s p c offerFirst
  next valid => exact retimed_is p c _ (by simpa using valid)

theorem adoptedState_bodied (s : State) (p : Present) (c : Nat) (offerFirst passFirst : Bool) :
    Bodied (clockSet s p c offerFirst) (adoptedState s p c offerFirst passFirst) := by
  unfold adoptedState
  split_ifs
  · exact flushed_bodied _
  · exact turnAll_bodied _ _
  · exact rolled_bodied _ _
  · exact jumped_bodied _ _

theorem clockSet_valid {s : State} {p : Present} {c : Nat} {offerFirst : Bool} (valid : s.clock.timeValid = true) :
    (clockSet s p c offerFirst).sheets = s.sheets ∧ (clockSet s p c offerFirst).tx = s.tx ∧
      (clockSet s p c offerFirst).clock.beaconTimer = s.clock.beaconTimer := by
  rw [clockSet, if_neg (by simp [valid])]
  simp [retimed]

/-- The discards of an adoption of another day, which find the store as it was (R45). -/
theorem discards_at {s u : State} {day : Day} {ds : List Counter} (sheets : u.sheets = s.sheets)
    (now : u.clock.day = day) (quiet : MovesOnly ds s u)
    (apart : ∀ k ∈ [Counter.sheetExpired, Counter.assemblyExpired, Counter.publicationExpired], k ∉ ds) {t : State}
    {es : List Counter} (quiet' : MovesOnly es u.changeDays t)
    (apart' : ∀ k ∈ [Counter.sheetExpired, Counter.assemblyExpired, Counter.publicationExpired], k ∉ es) :
    u.changeDays.sheets = discarded day s.sheets ∧ DiscardsCounted day s t := by
  obtain ⟨left, counted⟩ := changeDays_discards u
  rw [now, sheets] at left
  rw [now] at counted
  refine ⟨left, ?_⟩
  unfold DiscardsCounted at counted ⊢
  rw [sheets] at counted
  exact countedOf_within quiet apart counted quiet' apart'

/-- What the jump's cleared flag lets happen, in either order with the pass (R51, R72). -/
theorem fillAndCommit_released {s : State} (commitFirst : Bool) (clear : s.table.rebuild = none)
    (apart : s.sheets.waiting.Nodup)
    (held : ∀ j ∈ s.sheets.waiting, ∃ a, (s.sheets.slots.get j).assembly = some a) :
    Released s.sheets s (s.fillAndCommit commitFirst) := by
  cases commitFirst with
  | true =>
    exact released_congr (tryCommit_released clear apart held) rfl (ds := []) (movesOnly_of_counters rfl) (by decide)
      (by simp [State.fillAndCommit]) (by simp [State.fillAndCommit]) (by simp [State.fillAndCommit])
      (by simp [State.fillAndCommit]) (fillPass_keeps _).2 (by decide)
  | false =>
    have released := tryCommit_released (s := s.fillPass) (by simpa using clear) (by simpa using apart)
      (by simpa using held)
    rw [show s.fillPass.sheets = s.sheets by simp] at released
    exact released_congr released (by simp) (fillPass_keeps _).2 (by decide) rfl rfl rfl rfl (es := [])
      (movesOnly_of_counters rfl) (by decide)

theorem discarded_waiting (day : Day) (st : SheetStore) (apart : st.waiting.Nodup) :
    (discarded day st).waiting.Nodup ∧
      ∀ j ∈ (discarded day st).waiting, ∃ a, ((discarded day st).slots.get j).assembly = some a :=
  ⟨apart.filter _, fun _ hj => Option.isSome_iff_exists.1 (List.mem_filter.1 hj).2⟩

theorem headTaken_kind (s : State) (dt : Nat) (rest : List ReceivedFrame) (p : Present) :
    adoptionKind (headTaken s dt rest).clock (headTaken s dt rest).clock.ownMs p =
      adoptionKind s.clock (s.clock.second * 1000 + s.clock.phase + dt) p := by
  cases valid : s.clock.timeValid with
  | false => simp [adoptionKind, valid]
  | true => simp [adoptionKind, Clock.ownMs, clockAfter, valid, add_assoc]

/-- The counters moved by the time an adoption re-evaluates. -/
def adoptCounters (kind : Counter) : List Counter := .clockAdopted :: kind :: bodyCounters

theorem adoptionKind_mem (k : Clock) (own : Nat) (p : Present) :
    adoptionKind k own p ∈ [Counter.firstAdoption, .stepForward, .stepBack, .nextDayAdoption, .dayJump] := by
  unfold adoptionKind
  split_ifs <;> decide

theorem adoptCounters_apart {kind : Counter} (kinds : kind ∈ [Counter.firstAdoption, .stepForward, .stepBack,
    .nextDayAdoption, .dayJump]) {k : Counter} (hk : k ∉ [Counter.clockAdopted, .firstAdoption, .stepForward, .stepBack,
    .nextDayAdoption, .dayJump]) (body : k ∉ bodyCounters) : k ∉ adoptCounters kind := by
  intro listed
  rcases List.mem_cons.1 listed with rfl | listed
  · exact hk (by decide)
  rcases List.mem_cons.1 listed with rfl | listed
  · exact hk (List.mem_cons_of_mem _ kinds)
  · exact body listed

/-- Everything an adoption leaves but what its kind makes of timers and store. -/
structure Adoption (s u w t : State) (dt : Nat) (rest : List ReceivedFrame) (p : Present) (c : Nat) (kind : Counter) :
    Prop where
  timed : Retimed (headTaken s dt rest) u p c kind
  body : Bodied u w
  frame : SameFrame w t
  sent : t.tx = w.tx
  table : t.table = w.table
  moves : MovesOnly (.noticeExpired :: boardCounters) w t
  reached : MovesOnly (adoptCounters kind) s w
  expired : MovesOnly boardCounters w.expireNotices t
  settles : RxSettles rest s t
  board : t.board = { w.expireNotices.board with targets := t.composedTargets }
  changes : OnlyChanges [.elapsed, .clock, .sheets, .table, .board, .planner, .engine, .rx, .tx, .counters] s t

theorem adoption_is {s : State} {dt : Nat} {g : ReceivedFrame} {rest : List ReceivedFrame}
    (head : AtHead .clock g rest s) (sound : s.RadioSound) (p : Present) (c : Nat) (a b : Bool) :
    Adoption s (clockSet (headTaken s dt rest) p c a) (adoptedState (headTaken s dt rest) p c a b)
      (reshown (adoptedState (headTaken s dt rest) p c a b)) dt rest p c
      (adoptionKind s.clock (s.clock.second * 1000 + s.clock.phase + dt) p) := by
  have timed := clockSet_is (headTaken s dt rest) p c a
  have body := adoptedState_bodied (headTaken s dt rest) p c a b
  rw [headTaken_kind] at timed
  generalize clockSet (headTaken s dt rest) p c a = u at timed body
  generalize adoptedState (headTaken s dt rest) p c a b = w at body
  have elapsed : w.elapsed = s.elapsed + dt := by rw [body.elapsed, timed.elapsed]; simp
  have loader : w.loader = s.loader := by rw [body.loader, timed.loader]; simp
  have rx : w.rx = { s.rx with queue := rest } := by rw [body.rx, timed.rx]; simp
  obtain ⟨frame, sent, table, expired, moves, settles, board⟩ := reshown_shows sound head.1 elapsed loader rx
    fun busy => body.busy (by rw [timed.send]; simpa using busy)
  have pending : w.pending = s.pending := by rw [body.pending, timed.pending]; simp
  have sense : w.sense = s.sense := by rw [body.sense, timed.sense]; simp
  refine ⟨timed, body, frame, sent, table, moves, ?_, expired, settles, board, ?_⟩
  · have before : MovesOnly (adoptCounters (adoptionKind s.clock (s.clock.second * 1000 + s.clock.phase + dt) p)) s u :=
      movesOnly_mono (List.cons_subset_cons _ (List.cons_subset_cons _ (List.nil_subset _))) timed.moves
    exact movesOnly_trans before (movesOnly_mono (fun k hk => List.mem_cons_of_mem _ (List.mem_cons_of_mem _ hk))
      body.moves)
  · simp [onlyChanges_iff, reshown, pending, loader, sense]

/-- Settles O21: the clock and its timers, then table and store, then the re-evaluation. -/
theorem clockFramesAdopted : Obligations.ClockFramesAdopted := by
  intro s dt a b g rest head sound f p own formed within adopted rotation waiting
  refine ⟨_, clockFrame_adopts head formed within adopted, ?_⟩
  have kinds := adoptionKind_mem s.clock own p
  have adoption := adoption_is (dt := dt) head sound p (f.stratum + 1) a b
  obtain ⟨u, hu⟩ : ∃ u, u = clockSet (headTaken s dt rest) p (f.stratum + 1) a := ⟨_, rfl⟩
  have body_cases : adoptedState (headTaken s dt rest) p (f.stratum + 1) a b =
      if s.clock.timeValid = false then u.flushTable.fillPass.evaluateAll
      else if p.day = s.clock.day then turnAll (stepPlace b) u
      else if p.day = s.clock.day + 1#16 then turnAll (stepPlace b) u.rollTable.changeDays
      else (u.changeDays.flushTable.fillAndCommit (!b)).evaluateAll := by
    rw [hu]
    rfl
  have valid_set (valid : s.clock.timeValid = true) := clockSet_valid (s := headTaken s dt rest) (p := p)
    (c := f.stratum + 1) (offerFirst := a) (by simpa using valid)
  have first_set (invalid : s.clock.timeValid = false) : u = firstTimed (headTaken s dt rest) p (f.stratum + 1) a :=
    hu.trans (if_pos (by simpa using invalid))
  have timers := firstTimed_timers (headTaken s dt rest) p (f.stratum + 1) a
  rw [← hu] at adoption valid_set
  generalize adoptedState (headTaken s dt rest) p (f.stratum + 1) a b = w at adoption body_cases ⊢
  obtain ⟨timed, body, frame, sent, table, moves, reached, expired, settles, board, changes⟩ := adoption
  generalize reshown w = t at frame sent table moves expired settles board changes ⊢
  have elapsed : t.elapsed = s.elapsed + dt := by
    rw [frame.elapsed, body.elapsed, timed.elapsed]
    simp
  have now : t.clock = adoptedClock (headTaken s dt rest) p (f.stratum + 1) u.clock.beaconTimer := by
    rw [frame.clock, body.clock]
    exact timed.clock
  have day : u.clock.day = p.day := by
    rw [timed.clock]
    rfl
  have set_moves : MovesOnly [.clockAdopted, adoptionKind s.clock own p] s u := timed.moves
  have quiet {k : Counter} (hk : k ∉ [Counter.clockAdopted, .firstAdoption, .stepForward, .stepBack, .nextDayAdoption,
      .dayJump]) : k ∉ [Counter.clockAdopted, adoptionKind s.clock own p] := fun listed =>
    hk (by rcases List.mem_cons.1 listed with rfl | listed
           · decide
           · rw [List.mem_singleton.1 listed]
             exact List.mem_cons_of_mem _ kinds)
  refine ⟨changes, elapsed, ?_, ?_, ?_, settles, ?_, by rw [board], ?_, fun invalid => ?_, fun valid today => ?_,
    fun valid other => ?_⟩
  · rw [now, elapsed]
    rfl
  · rw [frame.sheets, body.offer, now, elapsed]
    cases valid : s.clock.timeValid with
    | true =>
      obtain ⟨sheets, -, beacon⟩ := valid_set valid
      rw [if_pos rfl, sheets]
      exact ⟨beacon, rfl⟩
    | false =>
      rw [if_neg (by simp), first_set valid]
      exact ⟨timers.1, timers.2.1⟩
  · exact countedOf_within (s := headTaken s dt rest) (ds := []) (movesOnly_of_counters rfl) (by decide)
      (countedOf_movesOnly (countedOf_of_counted timed.counted) body.moves (by decide)) moves (by decide)
  · rw [InOrder, table, frame.loader, frame.clock]
    exact body.order
  · have wboard : w.board = s.board := by
      rw [body.board, timed.board]
      simp
    have expire := noticesExpire_of rotation wboard reached
      (adoptCounters_apart kinds (by decide) (by decide)) expired (by decide)
    rw [frame.clock, frame.elapsed, board]
    exact expire
  · have sheets : w.sheets = u.sheets := by
      rw [body_cases, if_pos invalid]
      simp
    rw [frame.sheets, sheets, first_set invalid]
    exact timers.2.2
  · rw [frame.sheets, body_cases, if_neg (by simp [valid]), if_pos today, ← show u.sheets = s.sheets from (valid_set valid).1]
    simp
  · obtain ⟨sheets, tx, -⟩ := valid_set valid
    rw [if_neg (by simp [valid]), if_neg other] at body_cases
    by_cases next : p.day = s.clock.day + 1#16
    · rw [if_pos next] at body_cases
      obtain ⟨left, counted⟩ := discards_at (s := s) (u := u.rollTable) (day := p.day) (t := t)
        (ds := .rolloverRemoval :: [.clockAdopted, adoptionKind s.clock own p]) (by simpa using sheets)
        (by simpa using day)
        (movesOnly_trans (movesOnly_mono (List.subset_cons_self _ _) set_moves)
          (movesOnly_mono (by simp) (rollTable_movesOnly u)))
        (fun k hk => List.not_mem_cons_of_ne_of_not_mem (by rintro rfl; revert hk; decide)
          (quiet (by revert k; decide)))
        (movesOnly_trans (movesOnly_mono (ds := .noticeExpired :: .admission :: .admissionLoss :: .overdueRemoval ::
          .observationExpired :: .departure :: .passageOriginated :: .relayDropped :: boardCounters) (by decide)
          (turnAll_movesOnly (stepPlace b) _)) (movesOnly_mono (by decide) (body_cases ▸ moves)))
        (by decide)
      refine ⟨counted, fun _ => ?_, fun far => absurd next far⟩
      rw [frame.sheets, body_cases]
      simpa using left
    · rw [if_neg next] at body_cases
      obtain ⟨left, counted⟩ := discards_at (s := s) (u := u) (day := p.day) (t := t)
        (ds := [.clockAdopted, adoptionKind s.clock own p]) sheets day set_moves
        (fun k hk => quiet (by revert k; decide))
        (movesOnly_trans (movesOnly_mono (ds := .noticeExpired :: .admission :: .admissionLoss :: .overdueRemoval ::
          .observationExpired :: .flushed :: .sheetCommitted :: .sheetRejected :: .publicationRequested ::
          .publicationMerged :: .publicationRefused :: boardCounters) (by decide) (flushTable_movesOnly u.changeDays))
          (movesOnly_trans (movesOnly_trans (movesOnly_mono (by decide) (fillAndCommit_movesOnly _ (!b)))
            (movesOnly_mono (by decide) (evaluateAll_movesOnly _))) (movesOnly_mono (by decide) (body_cases ▸ moves))))
        (by decide)
      refine ⟨counted, fun soon => absurd soon next, fun _ => ?_⟩
      have flushed : u.changeDays.flushTable.sheets = discarded p.day s.sheets := by simpa using left
      obtain ⟨apart, held⟩ := discarded_waiting p.day s.sheets waiting.1
      have released := fillAndCommit_released (s := u.changeDays.flushTable) (!b)
        (by rw [(flushTable_flushes _).1]) (by rw [flushed]; exact apart) (by rw [flushed]; exact held)
      rw [flushed] at released
      exact released_congr (ds := .sheetExpired :: .assemblyExpired :: .publicationExpired :: .flushed ::
          [.clockAdopted, adoptionKind s.clock own p]) released (by simpa using tx)
        (movesOnly_trans (movesOnly_trans (movesOnly_mono (by intro k; simp; tauto) set_moves)
          (movesOnly_mono (by simp) (changeDays_movesOnly u))) (movesOnly_mono (by simp) (flushTable_movesOnly _)))
        (fun k hk => by
          simp only [List.mem_cons, not_or]
          refine ⟨?_, ?_, ?_, ?_, by simpa using quiet (k := k) (by revert k; decide)⟩ <;> (revert k; decide))
        (by rw [frame.sheets, body_cases]; simp) (by rw [sent, body_cases]; simp)
        (by rw [table, body_cases]; simp) (by rw [frame.elapsed, body_cases]; simp)
        (movesOnly_trans (movesOnly_mono (ds := .noticeExpired :: .observationExpired :: .overdueRemoval ::
          boardCounters) (by decide) (evaluateAll_movesOnly _)) (movesOnly_mono (by decide) (body_cases ▸ moves)))
        (by decide)

end Sys2Proof.Proofs
end

section
/-! PROOF. What an adoption does to the table, and the board after it (O39, O33). -/

namespace Sys2Proof.Proofs

open Sys2Proof Sys2Proof.Machine Sys2Proof.Claims

/-! ### What one fill pass takes in (R6 to R8) -/

/-- Where each entry of a pass comes from. -/
theorem fillPass_entries {s : State} (valid : s.clock.timeValid = true) (e : Entry) :
    (e ∈ s.table.entries → e ∈ s.fillPass.table.entries) ∧
      (e ∈ s.fillPass.table.entries → e ∈ s.table.entries ∨
        ∃ x ∈ candidates s.loader.loaded s.clock.day s.now s.sheets.slots s.table,
          (admittedEntry x).evaluate s.loader.loaded s.now = some e) := by
  obtain ⟨taken, lost, pre, -, result⟩ := passResult_eq s
  obtain ⟨perm, -⟩ := admitCandidates_admits s taken (s.table, s.counters)
  have entries : s.fillPass.table.entries = (taken.foldl (admitCandidate s.loader.loaded s.clock.day s.now)
      (s.table, s.counters)).1.entries := by
    rw [State.fillPass, if_pos valid, result]
    exact loseCandidates_entries lost _
  rw [entries]
  refine ⟨fun old => perm.mem_iff.2 (List.mem_append_left _ old), fun held => ?_⟩
  rcases mem_admitCandidates held with old | ⟨x, hx, weighed⟩
  · exact .inl old
  · exact .inr ⟨x, pre.subset (List.mem_append_left _ hx), weighed⟩

/-- An admitted entry as its candidate gives it (R8). -/
theorem admitted_fields {c : Loaded} {now : Int} {x : Candidate} {e : Entry}
    (h : (admittedEntry x).evaluate c now = some e) : e.slot = x.slot ∧ e.day = x.day ∧ e.run = x.run.number ∧
      e.origin = x.run.origin ∧ e.terminal = x.run.terminal ∧ e.scheduled = x.scheduled ∧ e.observation = none ∧
      e.lastSight = none ∧ e.shown = none := by
  have weighed := evaluate_of_fresh (c := c) (now := now) (e := admittedEntry x) (by
    rw [← Bool.not_eq_true, stale_iff]
    rintro ⟨-, o, none, -⟩
    cases none)
  rw [h, judgedEntry] at weighed
  obtain ⟨-, shape⟩ := Option.ite_none_left_eq_some.1 weighed.symm
  cases shape
  simp [admittedEntry]

/-- A pass admits what the sheets of enabled slots offer, and takes no entry out (R1, R6 to R8). -/
theorem fillPass_admits {s : State} {e : Entry} (valid : s.clock.timeValid = true) :
    (e ∈ s.table.entries → e ∈ s.fillPass.table.entries) ∧
    (e ∈ s.fillPass.table.entries → e ∈ s.table.entries ∨
      ∃ sh ∈ (s.sheets.slots.get e.slot).sheets, ∃ r ∈ sh.runs,
        let conf := s.loader.loaded.slots.get e.slot
        let off : Int := if sh.day = s.clock.day then 0 else 1
        conf.enabled = true ∧ (sh.day = s.clock.day ∨ sh.day = s.clock.day + 1#16) ∧
          e.day = sh.day ∧ e.run = r.number ∧ e.origin = r.origin ∧ e.terminal = r.terminal ∧
          e.scheduled = 86400 * off + r.origin + conf.offset ∧
          s.table.marks.get e.slot < e.scheduled ∧ e.scheduled ≤ s.clock.second + s.loader.loaded.horizon ∧
          (∀ x, r.terminal = some x → conf.stopIndex ≤ x) ∧ (∀ x ∈ s.table.entries, ¬ IsRun x e.slot e.day e.run) ∧
          e.observation = none ∧ e.lastSight = none ∧ e.shown = none) := by
  obtain ⟨stays, comes⟩ := fillPass_entries valid e
  refine ⟨stays, fun held => (comes held).imp_right ?_⟩
  rintro ⟨x, listed, weighed⟩
  obtain ⟨slot, day, run, origin, terminal, scheduled, observation, sight, shown⟩ := admitted_fields weighed
  have new := not_held_of_candidate listed
  obtain ⟨⟨i, enabled, offers⟩, -⟩ := mem_candidates.1 listed
  have enabled' := (List.mem_filter.1 enabled).2
  have both : ∃ d : Day, (d = s.clock.day ∨ d = s.clock.day + 1#16) ∧ x ∈ positionCandidates s.loader.loaded s.now
      (s.table.marks.get i) i d (dayOffset s.clock.day d) ((s.sheets.slots.get i).forDay d) := by
    rcases offers with h | h
    · exact ⟨_, .inl rfl, by rwa [dayOffset_self]⟩
    · exact ⟨_, .inr rfl, by rwa [dayOffset_next]⟩
  obtain ⟨d, days, offered⟩ := both
  obtain ⟨shape, rfl, rfl, ⟨sh, found, running⟩, above, within, reaches⟩ := mem_position.1 offered
  have dated : sh.day = x.day := by simpa using List.find?_some found
  have offset : dayOffset s.clock.day x.day = if sh.day = s.clock.day then 0 else 1 := by
    rw [dated]
    split
    next today => rw [today, dayOffset_self]
    next other => rw [days.resolve_left other, dayOffset_next]
  have time : x.scheduled = 86400 * (if sh.day = s.clock.day then 0 else 1) + x.run.origin +
      (s.loader.loaded.slots.get x.slot).offset := by
    rw [← offset]
    exact congrArg Candidate.scheduled shape
  rw [slot]
  refine ⟨sh, forDay_mem found, x.run, running, enabled', dated ▸ days, day.trans dated.symm, run, origin, terminal,
    scheduled.trans time, scheduled ▸ above, scheduled ▸ within, reaches, ?_, observation, sight, shown⟩
  rw [day, run]
  exact new

/-! ### The table's turn in an adoption -/

theorem moves_sheetsSound {fin : Bool} {s t : State} (m : Moves fin s t) (h : s.SheetsSound) : t.SheetsSound := by
  refine m.keeps (P := State.SheetsSound) (fun u v move sound => ?_) h
  cases move
  case sheets st kept => exact kept.sound sound
  all_goals exact sound

/-- An empty table filled, whatever commits after the pass, and evaluated (R22, R25). -/
theorem flushed_turns {y v : State} {ds : List Counter} (empty : y.table.entries = [])
    (valid : y.clock.timeValid = true) (sound : y.SheetsSound) (same : SameNow y.fillPass v)
    (entries : v.table.entries = y.fillPass.table.entries) (owed : v.table.passOwed = y.fillPass.table.passOwed)
    (marks : v.table.marks = y.fillPass.table.marks) (quiet : MovesOnly ds y.fillPass v)
    (apart : ∀ k ∈ turnCounters, k ∉ ds) :
    Turned false y.sheets.slots [] [] y.table.marks y v.evaluateAll := by
  obtain ⟨taken, lost, filled, perm, counted⟩ := fillPass_fills valid sound
  rw [empty] at filled perm
  have here : SameNow y y.fillPass := ⟨by simp, by simp⟩
  refine turned_evaluateAll (taken := taken) (lost := lost) (here.trans same) ?_ (by rw [entries]; exact perm)
    (countedOf_movesOnly (countedOf_of_counted counted) quiet apart) fun k _ => ?_
  · exact filled_congr filled (.refl _) same.loader same.clock owed marks
  · simp [turnCases, admittedOf]

/-- A state whose first operations are those of an adoption, and whose last ones those of its end. -/
theorem adoption_turned {owes : Bool} {slots : Vector SlotSheets 6} {held before : List Entry} {marks : Vector Int 6}
    {ds es : List Counter} {r u w t : State} (quiet : MovesOnly ds r u) (apart : ∀ k ∈ turnCounters, k ∉ ds)
    (h : Turned owes slots held before marks u w) (frame : SameFrame w t) (table : t.table = w.table)
    (moves : MovesOnly es w t) (apart' : ∀ k ∈ turnCounters, k ∉ es) : Turned owes slots held before marks r t :=
  turned_within quiet apart h moves apart' frame.toSameNow (by rw [table]) (by rw [table]) (by rw [table])

theorem kind_apart {ks : List Counter} {kind : Counter} (kinds : kind ∈ [Counter.firstAdoption, .stepForward, .stepBack,
    .nextDayAdoption, .dayJump]) (apart : ∀ k ∈ ks, k ∉ [Counter.clockAdopted, .firstAdoption, .stepForward, .stepBack,
    .nextDayAdoption, .dayJump]) : ∀ k ∈ ks, k ∉ [Counter.clockAdopted, kind] := by
  intro k hk listed
  rcases List.mem_cons.1 listed with rfl | listed
  · exact apart _ hk (by decide)
  · rw [List.mem_singleton.1 listed] at hk
    exact apart _ hk (List.mem_cons_of_mem _ kinds)

theorem stepPlace_held (passFirst : Bool) (s : State) : heldAt (stepPlace passFirst) s =
    if passFirst then s.table.entries else s.table.entries.filter fun e => !lostSight s e := by
  cases passFirst <;> rfl

theorem stepPlace_ordered (passFirst : Bool) : stepPlace passFirst ≠ .afterEvaluations := by
  cases passFirst <;> simp [stepPlace]

/-- An adoption's run: the state `u` with the clock set, `w` with table and store turned, `t` at the end. -/
structure AdoptionRun (s u w t : State) (dt : Nat) (rest : List ReceivedFrame) (p : Present) (c : Nat) (kind : Counter)
    (passFirst : Bool) : Prop extends Adoption s u w t dt rest p c kind where
  kinds : kind ∈ [Counter.firstAdoption, .stepForward, .stepBack, .nextDayAdoption, .dayJump]
  cases : w =
    if s.clock.timeValid = false then u.flushTable.fillPass.evaluateAll
    else if p.day = s.clock.day then turnAll (stepPlace passFirst) u
    else if p.day = s.clock.day + 1#16 then turnAll (stepPlace passFirst) u.rollTable.changeDays
    else (u.changeDays.flushTable.fillAndCommit (!passFirst)).evaluateAll
  slots : u.sheets.slots = s.sheets.slots
  valid_set : s.clock.timeValid = true → u.sheets = s.sheets ∧ u.tx = s.tx
  set_moves : MovesOnly [.clockAdopted, kind] s u
  set_table : u.table = s.table
  set_loader : u.loader = s.loader
  now : SameNow u t
  valid : u.clock.timeValid = true
  day : u.clock.day = p.day

theorem clockFrame_runs {s : State} {dt : Nat} {a b : Bool} {g : ReceivedFrame} {rest : List ReceivedFrame}
    (head : AtHead .clock g rest s) (sound : s.RadioSound) (formed : (readClock g.body).stratum ≠ 7)
    (within : (readClock g.body).second ≤ 86399)
    (adopted : Adopted s.clock (s.clock.second * 1000 + s.clock.phase + dt) (readClock g.body)
      (presentOf (readClock g.body) (s.elapsed + dt - g.stamp))) : ∃ u w t kind, exec (.clockFrame dt a b) s = .next t ∧
        AdoptionRun s u w t dt rest (presentOf (readClock g.body) (s.elapsed + dt - g.stamp))
          ((readClock g.body).stratum + 1) kind b := by
  have adoption := adoption_is (dt := dt) head sound (presentOf (readClock g.body) (s.elapsed + dt - g.stamp))
    ((readClock g.body).stratum + 1) a b
  have slots : (clockSet (headTaken s dt rest) (presentOf (readClock g.body) (s.elapsed + dt - g.stamp))
      ((readClock g.body).stratum + 1) a).sheets.slots = s.sheets.slots := by
    unfold clockSet
    split
    · cases a <;> simp [firstTimed]
    · simp [retimed]
  refine ⟨_, _, _, _, clockFrame_adopts head formed within adopted, adoption, adoptionKind_mem _ _ _, rfl, slots,
    fun valid => ?_, adoption.timed.moves, adoption.timed.table, adoption.timed.loader,
    ⟨adoption.frame.loader.trans adoption.body.loader, adoption.frame.clock.trans adoption.body.clock⟩, ?_, ?_⟩
  · obtain ⟨sheets, tx, -⟩ := clockSet_valid (s := headTaken s dt rest) (c := (readClock g.body).stratum + 1)
      (p := presentOf (readClock g.body) (s.elapsed + dt - g.stamp)) (offerFirst := a) (by simpa using valid)
    exact ⟨sheets, tx⟩
  · rw [adoption.timed.clock]
    rfl
  · rw [adoption.timed.clock]
    rfl

section
variable {s u w t : State} {dt : Nat} {rest : List ReceivedFrame} {p : Present} {c : Nat} {kind : Counter}
  {passFirst : Bool}

/-- A step within the day (R24, R70). -/
theorem AdoptionRun.steps (run : AdoptionRun s u w t dt rest p c kind passFirst) (sheets : s.SheetsSound)
    (valid : s.clock.timeValid = true) (today : p.day = s.clock.day) :
    t.table.rebuild = s.table.rebuild ∧
      Turned s.table.rebuild.isSome t.sheets.slots
        (if passFirst then s.table.entries else s.table.entries.filter fun e => !lostSight t e) s.table.entries
        s.table.marks s t ∧
      LostDepart True s.table.entries s t ∧ CountedOf [.rolloverRemoval] [] s t := by
  obtain ⟨stays, tx⟩ := run.valid_set valid
  have cases := run.cases
  rw [if_neg (by simp [valid]), if_pos today] at cases
  obtain ⟨-, -, ls, -, -⟩ := run.now.now
  obtain ⟨turned, departs⟩ := turnAll_turns (stepPlace passFirst) run.valid (s := u) (by
    rw [State.SheetsSound, stays]
    exact sheets)
  rw [← cases, stepPlace_held, run.set_table, ← ls] at turned
  rw [← cases, run.set_table] at departs
  simp only [stepPlace_ordered, ne_eq, not_false_eq_true] at departs
  refine ⟨?_, ?_, ?_, ?_⟩
  · rw [run.table, cases]
    simp [run.set_table]
  · have slots : t.sheets.slots = u.sheets.slots := by
      rw [run.frame.sheets, cases]
      simp
    rw [slots]
    exact adoption_turned run.set_moves (kind_apart run.kinds (by decide)) turned run.frame run.table run.moves
      (by decide)
  · exact lostDepart_congr run.set_loader tx run.set_moves (kind_apart run.kinds (by decide)) departs run.frame run.sent
      run.moves (by decide)
  · refine countedOf_within run.set_moves (kind_apart run.kinds (by decide)) ?_ run.moves (by decide)
    rw [cases]
    exact countedOf_movesOnly (countedOf_of_counted (counted_nil rfl)) (turnAll_movesOnly _ u) (by decide)

/-- A step into the next day: a rollover first (R23, R71). -/
theorem AdoptionRun.stepsOver (run : AdoptionRun s u w t dt rest p c kind passFirst) (sheets : s.SheetsSound)
    (valid : s.clock.timeValid = true) (other : p.day ≠ s.clock.day) (next : p.day = s.clock.day + 1#16) :
    t.table.rebuild = s.table.rebuild ∧
      Turned s.table.rebuild.isSome t.sheets.slots
        (if passFirst then overnight s.table.entries else (overnight s.table.entries).filter fun e => !lostSight t e)
        (overnight s.table.entries) (marksBack s.table.marks) s t ∧
      LostDepart True (overnight s.table.entries) s t ∧
      CountedOf [.rolloverRemoval]
        (List.replicate (s.table.entries.length - (overnight s.table.entries).length) .rolloverRemoval) s t := by
  obtain ⟨stays, tx⟩ := run.valid_set valid
  have cases := run.cases
  rw [if_neg (by simp [valid]), if_neg other, if_pos next] at cases
  obtain ⟨rolled, counted⟩ := rollTable_rolls u
  have day : u.rollTable.changeDays.table = u.rollTable.table := by simp
  obtain ⟨-, -, ls, -, -⟩ := run.now.now
  have here : SameNow u u.rollTable.changeDays := ⟨by simp, by simp⟩
  have moved := movesOnly_trans (movesOnly_mono (ds := [.rolloverRemoval, .sheetExpired, .assemblyExpired,
    .publicationExpired]) (by decide) (rollTable_movesOnly u)) (movesOnly_mono (by decide) (changeDays_movesOnly _))
  obtain ⟨turned, departs⟩ := turnAll_turns (stepPlace passFirst) (s := u.rollTable.changeDays) (by simpa using run.valid)
    (moves_sheetsSound ((rollTable_moves (fin := true) u).trans (changeDays_moves _)) (by
      rw [State.SheetsSound, stays]
      exact sheets))
  rw [← cases, stepPlace_held, day, rolled, run.set_table, here.now.2.2.1, ← ls] at turned
  rw [← cases, day, rolled, run.set_table] at departs
  simp only [stepPlace_ordered, ne_eq, not_false_eq_true] at departs
  refine ⟨?_, ?_, ?_, ?_⟩
  · rw [run.table, cases]
    simp [run.set_table]
  · have slots : t.sheets.slots = u.rollTable.changeDays.sheets.slots := by
      rw [run.frame.sheets, cases]
      simp
    rw [slots]
    exact turned_within run.set_moves (kind_apart run.kinds (by decide))
      (adoption_turned moved (by decide) turned run.frame run.table run.moves (by decide))
      (movesOnly_of_counters (cs := []) rfl) (by decide) ⟨rfl, rfl⟩ rfl rfl rfl
  · exact lostDepart_congr run.set_loader tx run.set_moves (kind_apart run.kinds (by decide))
      (lostDepart_congr (by simp) (by simp) moved (by decide) departs run.frame run.sent run.moves (by decide))
      ⟨⟨rfl, rfl⟩, rfl, rfl, rfl⟩ rfl (movesOnly_of_counters (cs := []) rfl) (by decide)
  · refine countedOf_within run.set_moves (kind_apart run.kinds (by decide)) ?_ run.moves (by decide)
    rw [run.set_table] at counted
    rw [cases]
    exact countedOf_movesOnly (countedOf_movesOnly (countedOf_of_counted counted) (changeDays_movesOnly _) (by decide))
      (turnAll_movesOnly _ _) (by decide)

theorem AdoptionRun.flushedMarks_eq (run : AdoptionRun s u w t dt rest p c kind passFirst) : flushedMarks u =
    Vector.ofFn fun i => if (s.loader.loaded.slots.get i).enabled then (t.clock.second : Int) else s.table.marks.get i := by
  rw [flushedMarks, run.set_loader, run.set_table, run.now.clock]

/-- A first adoption: the table emptied and filled (R25, R69). -/
theorem AdoptionRun.starts (run : AdoptionRun s u w t dt rest p c kind passFirst) (sheets : s.SheetsSound)
    (invalid : s.clock.timeValid = false) :
    Turned false t.sheets.slots [] [] (flushedMarks u) s t ∧ t.table.rebuild = none ∧
      CountedOf [.flushed] (List.replicate s.table.entries.length .flushed) s t := by
  have cases := run.cases
  rw [if_pos invalid] at cases
  obtain ⟨flushed, counted⟩ := flushTable_flushes u
  have turned := flushed_turns (y := u.flushTable) (v := u.flushTable.fillPass) (ds := []) (by rw [flushed])
    (by simpa using run.valid)
    (moves_sheetsSound (flushTable_moves (fin := true) u) (by
      rw [State.SheetsSound, run.slots]
      exact sheets)) ⟨rfl, rfl⟩ rfl rfl rfl (movesOnly_of_counters rfl) (by decide)
  rw [← cases, flushed] at turned
  refine ⟨?_, ?_, ?_⟩
  · have slots : t.sheets.slots = u.flushTable.sheets.slots := by
      rw [run.frame.sheets, cases]
      simp
    rw [slots]
    exact turned_within run.set_moves (kind_apart run.kinds (by decide))
      (adoption_turned (flushTable_movesOnly u) (by decide) turned run.frame run.table run.moves (by decide))
      (movesOnly_of_counters (cs := []) rfl) (by decide) ⟨rfl, rfl⟩ rfl rfl rfl
  · rw [run.table, cases]
    simp [flushed]
  · refine countedOf_within run.set_moves (kind_apart run.kinds (by decide)) ?_ run.moves (by decide)
    rw [run.set_table] at counted
    rw [cases]
    exact countedOf_movesOnly (countedOf_movesOnly (countedOf_of_counted counted) (fillPass_keeps _).2 (by decide))
      (evaluateAll_movesOnly _) (by decide)

/-- A jump: the store's discards, the table emptied, then pass and commit in the order chosen (R25, R72). -/
theorem AdoptionRun.jumps (run : AdoptionRun s u w t dt rest p c kind passFirst) (sheets : s.SheetsSound)
    (valid : s.clock.timeValid = true) (other : p.day ≠ s.clock.day) (far : p.day ≠ s.clock.day + 1#16) :
    Turned false (if passFirst then (discarded p.day s.sheets).slots else t.sheets.slots) [] [] (flushedMarks u) s t ∧
      CountedOf [.flushed] (List.replicate s.table.entries.length .flushed) s t := by
  have cases := run.cases
  rw [if_neg (by simp [valid]), if_neg other, if_neg far] at cases
  obtain ⟨stays, tx⟩ := run.valid_set valid
  obtain ⟨flushed, counted⟩ := flushTable_flushes u.changeDays
  obtain ⟨left, -⟩ := changeDays_discards u
  rw [run.day, stays] at left
  obtain ⟨x, hx⟩ : ∃ x, x = u.changeDays.flushTable := ⟨_, rfl⟩
  rw [← hx] at cases flushed counted
  have xslots : x.sheets = discarded p.day s.sheets := by
    rw [hx]
    simpa using left
  have xtable : x.table.entries = [] := by rw [flushed]
  have xmarks : x.table.marks = flushedMarks u := by
    rw [flushed]
    simp [flushedMarks]
  have xvalid : x.clock.timeValid = true := by
    rw [hx]
    simpa using run.valid
  have xsound : x.SheetsSound := by
    rw [hx]
    refine moves_sheetsSound ((changeDays_moves (fin := true) u).trans (flushTable_moves _)) ?_
    rw [State.SheetsSound, stays]
    exact sheets
  have quiet : MovesOnly (.clockAdopted :: kind :: [.sheetExpired, .assemblyExpired, .publicationExpired]) s u.changeDays :=
    movesOnly_trans (movesOnly_mono (by simp) run.set_moves)
      (movesOnly_mono (fun k hk => List.mem_cons_of_mem _ (List.mem_cons_of_mem _ hk)) (changeDays_movesOnly u))
  have reached : MovesOnly (.clockAdopted :: kind :: [.sheetExpired, .assemblyExpired, .publicationExpired, .flushed]) s x := by
    rw [hx]
    exact movesOnly_trans (movesOnly_mono (by simp) quiet) (movesOnly_mono (by simp) (flushTable_movesOnly _))
  have apart {ks : List Counter} (set : ∀ k ∈ ks, k ∉ [Counter.clockAdopted, .firstAdoption, .stepForward, .stepBack,
      .nextDayAdoption, .dayJump])
      (store : ∀ k ∈ ks, k ∉ [Counter.sheetExpired, .assemblyExpired, .publicationExpired, .flushed]) :
      ∀ k ∈ ks, k ∉ .clockAdopted :: kind :: [.sheetExpired, .assemblyExpired, .publicationExpired, .flushed] := by
    intro k hk
    have first := kind_apart run.kinds set k hk
    have second := store k hk
    simp only [List.mem_cons, not_or] at first second ⊢
    exact ⟨first.1, first.2.1, second⟩
  refine ⟨?_, ?_⟩
  · cases passFirst with
    | true =>
      have turned := flushed_turns (y := x) (v := x.fillPass.tryCommit) xtable xvalid xsound ⟨by simp, by simp⟩
        (by simp) (by simp) (by simp) (tryCommit_movesOnly _) (by decide)
      rw [← show w = x.fillPass.tryCommit.evaluateAll from cases, xslots, xmarks] at turned
      exact adoption_turned reached (apart (by decide) (by decide)) turned run.frame run.table run.moves (by decide)
    | false =>
      have turned := flushed_turns (y := x.tryCommit) (v := x.tryCommit.fillPass) (ds := []) (by simpa using xtable)
        (by simpa using xvalid) (moves_sheetsSound (tryCommit_moves (fin := true) x) xsound) ⟨rfl, rfl⟩ rfl rfl rfl
        (movesOnly_of_counters rfl) (by decide)
      have slots : t.sheets.slots = x.tryCommit.sheets.slots := by
        rw [run.frame.sheets, cases]
        simp [State.fillAndCommit]
      rw [← show w = x.tryCommit.fillPass.evaluateAll from cases, show x.tryCommit.table.marks = flushedMarks u by simpa using xmarks, ← slots] at turned
      exact turned_within reached (apart (by decide) (by decide)) (adoption_turned (tryCommit_movesOnly x) (by decide)
        turned run.frame run.table run.moves (by decide)) (movesOnly_of_counters (cs := []) rfl) (by decide) ⟨rfl, rfl⟩
        rfl rfl rfl
  · have entries : u.changeDays.table.entries = s.table.entries := by
      simp [run.set_table]
    rw [entries] at counted
    refine countedOf_within quiet ?_ ?_ run.moves (by decide)
    · intro k hk
      have first := kind_apart run.kinds (ks := [.flushed]) (by decide) k hk
      rw [List.mem_singleton.1 hk] at first ⊢
      simp only [List.mem_cons, not_or] at first ⊢
      exact ⟨first.1, first.2.1, by decide, by decide, by decide, List.not_mem_nil⟩
    · rw [cases]
      exact countedOf_movesOnly (countedOf_movesOnly (countedOf_of_counted counted) (fillAndCommit_movesOnly _ _)
        (by decide)) (evaluateAll_movesOnly _) (by decide)

end

/-- Settles O39: the pass's candidates, and the turn of the table in each kind of adoption. -/
theorem fillPassesAdmitCandidates : Obligations.FillPassesAdmitCandidates := by
  refine ⟨fun s e valid => fillPass_admits valid, ?_⟩
  intro s dt a b g rest head sound sheets f p formed within adopted
  obtain ⟨u, w, t, kind, ran, run⟩ := clockFrame_runs (dt := dt) (a := a) (b := b) head sound formed within adopted
  refine ⟨t, ran, fun valid near => ?_, fun far => ?_⟩
  · by_cases today : p.day = s.clock.day
    · obtain ⟨rebuild, turned, departs, removed⟩ := run.steps sheets valid today
      intro rolls before marks held
      have still : ¬ rolls := not_not.2 today
      have same : before = s.table.entries := if_neg still
      have marked : marks = s.table.marks := if_neg still
      have holds : held = if b = true then s.table.entries else s.table.entries.filter fun e => !lostSight t e := by
        simp only [held, same]
      rw [holds, same, marked]
      exact ⟨rebuild, turned, departs, by simpa using removed⟩
    · obtain ⟨rebuild, turned, departs, removed⟩ := run.stepsOver sheets valid today (near.resolve_left today)
      intro rolls before marks held
      have crossed : rolls := today
      have same : before = overnight s.table.entries := if_pos crossed
      have marked : marks = marksBack s.table.marks := if_pos crossed
      have holds : held = if b = true then overnight s.table.entries else
          (overnight s.table.entries).filter fun e => !lostSight t e := by
        simp only [held, same]
      rw [holds, same, marked]
      exact ⟨rebuild, turned, departs, removed⟩
  · rw [← run.flushedMarks_eq]
    by_cases valid : s.clock.timeValid = true
    · obtain ⟨other, next⟩ := far.resolve_left (by simp [valid])
      obtain ⟨turned, emptied⟩ := run.jumps sheets valid other next
      refine ⟨?_, fun first => absurd valid first, emptied⟩
      simpa only [valid, true_and] using turned
    · obtain ⟨turned, rebuild, emptied⟩ := run.starts sheets (by simpa using valid)
      refine ⟨?_, fun _ => rebuild, emptied⟩
      have slots : (if s.clock.timeValid = true ∧ b = true then (discarded p.day s.sheets).slots else t.sheets.slots) =
          t.sheets.slots := if_neg fun jumps => valid jumps.1
      rw [← slots] at turned
      exact turned

end Sys2Proof.Proofs
end

section
/-! PROOF. A counted second: the clock and the day, the table's turn, the notices, the board and the sweep (O22, O33,
O40). -/

namespace Sys2Proof.Proofs

open Sys2Proof Sys2Proof.Machine Sys2Proof.Claims

/-! ### The second and the day (R64, R65) -/

/-- The clock one second on. -/
def nextSecond (k : Clock) : Clock := { k with
  day := if k.second + 1 = 86400 then k.day + 1#16 else k.day
  second := if k.second + 1 = 86400 then 0 else k.second + 1
  phase := k.phase - 1000 }

/-- The entries that a counted second's checks, evaluations and pass find (R23). -/
def foundEntries (s : State) : List Entry :=
  if s.clock.second + 1 = 86400 then overnight s.table.entries else s.table.entries

/-- The fill marks that they find (R23). -/
def foundMarks (s : State) : Vector Int 6 :=
  if s.clock.second + 1 = 86400 then marksBack s.table.marks else s.table.marks

/-- Second and day are counted, and at midnight table and store have rolled over (R23, R45, R64, R65). -/
structure Rolled (s r : State) : Prop where
  pending : r.pending = s.pending
  elapsed : r.elapsed = s.elapsed + (1000 - s.clock.phase)
  loader : r.loader = s.loader
  clock : r.clock = nextSecond s.clock
  table : r.table = { s.table with entries := foundEntries s, marks := foundMarks s }
  sheets : r.sheets = if s.clock.second + 1 = 86400 then discarded r.clock.day s.sheets else s.sheets
  board : r.board = s.board
  planner : r.planner = s.planner
  engine : r.engine = s.engine
  sense : r.sense = s.sense
  rx : r.rx = s.rx
  tx : r.tx = s.tx
  moves : MovesOnly [.rolloverRemoval, .sheetExpired, .assemblyExpired, .publicationExpired] s r
  removed : CountedOf [.rolloverRemoval]
    (List.replicate (s.table.entries.length - (foundEntries s).length) .rolloverRemoval) s r
  discards : s.clock.second + 1 = 86400 → DiscardsCounted r.clock.day s r
  still : s.clock.second + 1 ≠ 86400 → r.counters = s.counters

theorem tickSecond_clock {s : State} (valid : s.clock.timeValid = true) :
    s.tickSecond.clock = { s.clock with second := s.clock.second + 1, phase := s.clock.phase - 1000 } := by
  have phase : s.clock.phase + (1000 - s.clock.phase) - 1000 = s.clock.phase - 1000 := by omega
  simp [State.tickSecond, advance_clock, clockAfter, valid, phase]

theorem rolled_is {s : State} (valid : s.clock.timeValid = true) (within : s.clock.second < 86400) :
    Rolled s s.tickSecond.rollIfDue := by
  have clock := tickSecond_clock valid
  by_cases midnight : s.clock.second + 1 = 86400
  · let u : State := { s.tickSecond with clock := { s.tickSecond.clock with day := s.tickSecond.clock.day + 1#16, second := 0 } }
    have due : s.tickSecond.rollIfDue = u.rollTable.changeDays := by
      rw [State.rollIfDue, if_neg (by simp [clock, Config.daySeconds, midnight])]
    obtain ⟨rolled, counted⟩ := rollTable_rolls u
    obtain ⟨left, gone⟩ := changeDays_discards u.rollTable
    have day : u.rollTable.clock.day = s.clock.day + 1#16 := by simp [u]
    have moves : MovesOnly [.rolloverRemoval] s u.rollTable := rollTable_movesOnly u
    rw [due]
    constructor
    case clock => simp [u, nextSecond, midnight, clock]
    case elapsed => simp [u, State.tickSecond]
    case table =>
      rw [show u.rollTable.changeDays.table = u.rollTable.table by simp, rolled]
      simp [foundEntries, foundMarks, midnight, u]
    case sheets => simpa [midnight, u] using left
    case moves =>
      exact movesOnly_trans (movesOnly_mono (by decide) moves) (movesOnly_mono (by decide) (changeDays_movesOnly _))
    case removed =>
      rw [foundEntries, if_pos midnight]
      exact countedOf_movesOnly (s := s) (countedOf_of_counted counted) (changeDays_movesOnly _) (by decide)
    case discards =>
      intro _
      have now : u.rollTable.changeDays.clock.day = u.rollTable.clock.day := by simp
      rw [now]
      unfold DiscardsCounted at gone ⊢
      exact countedOf_within moves (by decide) (by simpa [u] using gone) (movesOnly_of_counters (cs := []) rfl)
        (by decide)
    case still => exact fun other => absurd midnight other
    all_goals simp [u]
  · have due : s.tickSecond.rollIfDue = s.tickSecond := by
      rw [State.rollIfDue, if_pos (by simp [clock, Config.daySeconds]; omega)]
    rw [due]
    constructor
    case clock => simp [nextSecond, midnight, clock]
    case elapsed => simp [State.tickSecond]
    case table => simp [foundEntries, foundMarks, midnight]
    case sheets => simp [midnight]
    case moves => exact movesOnly_of_counters (by simp)
    case removed =>
      rw [foundEntries, if_neg midnight, Nat.sub_self]
      exact countedOf_of_counted (counted_nil (by simp))
    case discards => exact fun other => absurd other midnight
    case still => simp
    all_goals simp

/-! ### The table within a second that is no minute boundary -/

/-- The checks and the evaluations of a board tick that is no minute boundary, in the order of the pass's place. -/
def tickAll (pass : PassPlace) (s : State) : State :=
  if pass = .afterEvaluations then s.evaluateAll.sightLossChecks else s.sightLossChecks.evaluateAll

theorem tableSecond_eq (pass : PassPlace) (s : State) : s.tableSecond pass =
    if s.clock.second % 60 = 0 then turnAll pass s
    else if s.clock.second % 15 = 0 then tickAll pass s else s.sightLossChecks := by
  have minute (u : State) (h : u.clock = s.clock) : u.tableMinute = if s.clock.second % 60 = 0 then u.fillOrOwe else u := by
    simp [State.tableMinute, State.onMinute, h]
  have tick (u : State) (h : u.clock = s.clock) : u.tableTick = if s.clock.second % 15 = 0 then u.evaluateAll else u := by
    simp [State.tableTick, State.onTick, h]
  by_cases onMinute : s.clock.second % 60 = 0
  · have onTick : s.clock.second % 15 = 0 := by omega
    rw [if_pos onMinute]
    cases pass <;> simp [State.tableSecond, turnAll, minute, tick, onMinute, onTick]
  · rw [if_neg onMinute]
    by_cases onTick : s.clock.second % 15 = 0
    · cases pass <;> simp [State.tableSecond, tickAll, minute, tick, onMinute, onTick]
    · cases pass <;> simp [State.tableSecond, minute, tick, onMinute, onTick]

/-- Checks and evaluations in either order leave the same entries and the same departures (R12, R26). -/
theorem tickAll_turns (pass : PassPlace) (s : State) :
    (tickAll pass s).table = { s.table with entries := (tickAll pass s).table.entries } ∧
    (tickAll pass s).table.entries.Perm ((s.table.entries.filter fun e => !lostSight s e).filterMap (evaluated s)) ∧
      LostDepart (pass ≠ .afterEvaluations) s.table.entries s (tickAll pass s) := by
  unfold tickAll
  split
  next last =>
    have first := evaluateAll_same s
    have utable := evaluateAll_orders s
    have tx : s.evaluateAll.tx = s.tx := by simp
    have umoves := evaluateAll_movesOnly s
    generalize s.evaluateAll = u at first utable tx umoves
    obtain ⟨table, counted, relayed⟩ := sightLossChecks_departs u
    obtain ⟨second, -⟩ := sightLossChecks_frame u
    generalize u.sightLossChecks = w at table counted relayed second
    obtain ⟨-, -, ls, -, reports⟩ := first.now
    simp only [ls, reports] at table counted relayed
    have weighed : u.table.entries.Perm (s.table.entries.filterMap (evaluated s)) := by
      rw [utable]
      exact sortBy_perm _ _
    have lasting := filter_filterMap_comm (f := evaluated s) (p := fun e => !lostSight s e)
      (fun e e' h => congrArg _ (evaluated_lostSight h)) s.table.entries
    obtain ⟨left, pairs, perm⟩ := List.perm_comp_forall₂ (weighed.filter (lostSight s))
      (evaluated_lost s s.table.entries).flip
    rw [reportsOf_evaluated pairs] at relayed
    simp only [reportsOf_evaluated pairs, pairs.length_eq] at counted
    refine ⟨by rw [table, utable], ?_, ?_⟩
    · rw [table, ← lasting]
      exact weighed.filter _
    · exact lostDepart_within (es := []) (first.trans second) ⟨⟨rfl, rfl⟩, rfl, rfl, rfl⟩ perm (fun h => absurd last h)
        (counted _ (by decide)) relayed tx umoves (by decide) rfl (movesOnly_of_counters rfl) (by decide)
  next early =>
    obtain ⟨table, counted, relayed⟩ := sightLossChecks_departs s
    obtain ⟨first, -⟩ := sightLossChecks_frame s
    generalize s.sightLossChecks = u at table counted relayed first
    obtain ⟨ev, -, -, -, -⟩ := first.now
    have utable := evaluateAll_orders u
    rw [ev, table] at utable
    refine ⟨by rw [utable], ?_, ?_⟩
    · rw [utable]
      exact sortBy_perm _ _
    · exact lostDepart_within (u := s) (ds := []) first (evaluateAll_same u) (.refl _) (fun _ => rfl)
        (counted _ (by decide)) relayed rfl (movesOnly_of_counters rfl) (by decide) (by simp)
        (evaluateAll_movesOnly u) (by decide)

/-- The checks alone (R12, R13). -/
theorem sightLossChecks_lostDepart (ordered : Prop) (s : State) :
    LostDepart ordered s.table.entries s s.sightLossChecks := by
  obtain ⟨table, counted, relayed⟩ := sightLossChecks_departs s
  exact lostDepart_of (sightLossChecks_frame s).1 (.refl _) (fun _ => rfl) (counted _ (by decide)) relayed

theorem tickAll_movesOnly (pass : PassPlace) (s : State) : MovesOnly
    [.overdueRemoval, .observationExpired, .departure, .passageOriginated, .relayDropped] s (tickAll pass s) := by
  unfold tickAll
  split
  · exact movesOnly_trans (movesOnly_mono (by decide) (evaluateAll_movesOnly _))
      (movesOnly_mono (by decide) (sightLossChecks_movesOnly _))
  · exact movesOnly_trans (movesOnly_mono (by decide) (sightLossChecks_movesOnly _))
      (movesOnly_mono (by decide) (evaluateAll_movesOnly _))

/-- What a second's events in the table may count. -/
def secondCounters : List Counter :=
  [.admission, .admissionLoss, .overdueRemoval, .observationExpired, .departure, .passageOriginated, .relayDropped]

theorem tableSecond_movesOnly (pass : PassPlace) (s : State) : MovesOnly secondCounters s (s.tableSecond pass) := by
  rw [tableSecond_eq]
  split_ifs
  · exact turnAll_movesOnly pass s
  · exact movesOnly_mono (by decide) (tickAll_movesOnly pass s)
  · exact movesOnly_mono (by decide) (sightLossChecks_movesOnly s)

theorem tableSecond_busy {pass : PassPlace} {s : State} (busy : s.tx.state ≠ .idle) :
    (s.tableSecond pass).tx.state ≠ .idle := by
  have checks {u : State} (h : u.tx.state ≠ .idle) : u.sightLossChecks.tx.state ≠ .idle := by
    rw [sightLossChecks_eq]
    exact reportAll_busy h
  rw [tableSecond_eq]
  split_ifs
  · exact turnAll_busy busy
  · unfold tickAll
    split
    · exact checks (by simpa using busy)
    · simpa using checks busy
  · exact checks busy

theorem tableSecond_inOrder {pass : PassPlace} {s : State} (tick : s.clock.second % 15 = 0) :
    InOrder (s.tableSecond pass) := by
  rw [tableSecond_eq, if_pos tick]
  split_ifs
  · exact turnAll_inOrder pass s
  · unfold tickAll
    split
    · exact sightLossChecks_inOrder (evaluateAll_inOrder s)
    · exact evaluateAll_inOrder _

/-! ### No bus lost is left (R12) -/

/-- No entry's bus was last seen too long ago. -/
def NoneLost (s : State) : Prop := ∀ e ∈ s.table.entries, lostSight s e = false

theorem sightLossChecks_noneLost (s : State) : NoneLost s.sightLossChecks := by
  intro e he
  obtain ⟨table, -, -⟩ := sightLossChecks_departs s
  rw [(sightLossChecks_frame s).1.now.2.2.1]
  rw [table] at he
  simpa using (List.mem_filter.1 he).2

theorem evaluateAll_noneLost {s : State} (h : NoneLost s) : NoneLost s.evaluateAll := by
  intro e he
  rw [(evaluateAll_same s).now.2.2.1]
  rw [evaluateAll_orders] at he
  obtain ⟨e', he', weighed⟩ := List.mem_filterMap.1 ((sortBy_perm _ _).mem_iff.1 he)
  rw [evaluated_lostSight weighed]
  exact h e' he'

theorem fillOrOwe_noneLost {s : State} (valid : s.clock.timeValid = true) (h : NoneLost s) : NoneLost s.fillOrOwe := by
  intro e he
  rw [(fillOrOwe_same s).now.2.2.1]
  unfold State.fillOrOwe at he
  split at he
  · exact h e he
  · rcases (fillPass_entries valid e).2 he with old | ⟨x, -, weighed⟩
    · exact h e old
    · obtain ⟨-, -, -, -, -, -, -, sight, -⟩ := admitted_fields weighed
      simp [lostSight, sight]

theorem tableSecond_noneLost {pass : PassPlace} {s : State} (valid : s.clock.timeValid = true) :
    NoneLost (s.tableSecond pass) := by
  rw [tableSecond_eq]
  split_ifs
  · cases pass with
    | first => exact evaluateAll_noneLost (sightLossChecks_noneLost _)
    | afterChecks => exact evaluateAll_noneLost (fillOrOwe_noneLost (by simpa using valid) (sightLossChecks_noneLost _))
    | afterEvaluations => exact sightLossChecks_noneLost _
    | last => exact fillOrOwe_noneLost (by simpa using valid) (evaluateAll_noneLost (sightLossChecks_noneLost _))
  · unfold tickAll
    split
    · exact sightLossChecks_noneLost _
    · exact evaluateAll_noneLost (sightLossChecks_noneLost _)
  · exact sightLossChecks_noneLost _

/-- Where no bus is lost the checks leave everything as it is. -/
theorem sightLossChecks_idle {s : State} (h : NoneLost s) : s.sightLossChecks = s := by
  have none : s.table.entries.filter (lostSight s) = [] := List.filter_eq_nil_iff.2 fun e he => by simp [h e he]
  have all : (s.table.entries.filter fun e => !lostSight s e) = s.table.entries :=
    List.filter_eq_self.2 fun e he => by simp [h e he]
  rw [sightLossChecks_eq, none, all]
  rfl

end Sys2Proof.Proofs
end

section
/-! PROOF. The sweep, the rotation and the board of a counted second (O22, O33, O40). -/

namespace Sys2Proof.Proofs

open Sys2Proof Sys2Proof.Machine Sys2Proof.Claims

/-! ### The sweep time (R108, R109, R135) -/

/-- The counters of the sweep time and a composition. -/
def sweepCounters : List Counter := .sweepMade :: boardCounters

theorem sweepTime_iff {c : Loaded} {second : Nat} : sweepTime c second = true ↔
    second % 60 = 0 ∧ (c.dayStart * 60 + second) % 86400 = c.sweepMinute * 60 := by
  simp [sweepTime, Config.daySeconds, and_comm]

theorem planSweep_movesOnly (s : State) : MovesOnly sweepCounters s.setSweep s.planSweep :=
  movesOnly_trans (movesOnly_mono (by decide) (withdrawStaged_movesOnly _))
    (movesOnly_mono (by decide) (planJobs_movesOnly _))

theorem planSweep_counts (s : State) : CountedOf [.sweepMade] [.sweepMade] s s.planSweep := by
  have flagged : Counted [.sweepMade] s s.setSweep := counted_one rfl
  exact countedOf_movesOnly (countedOf_movesOnly (countedOf_of_counted flagged) (withdrawStaged_movesOnly _) (by decide))
    (planJobs_movesOnly _) (by decide)

/-- The flags of ghosted lines are set, and no other (R109). -/
theorem planSweep_flags (s : State) (n : Fin 10) : s.planSweep.planner.sweep.get n = true ↔
    s.planner.sweep.get n = true ∨ 0 < (s.engine.lines.get n).ghost := by
  have flags : s.planSweep.planner.sweep = s.setSweep.planner.sweep := by simp [State.planSweep]
  have own : s.engine.lines.toList.getD n State.lineReset = s.engine.lines.get n := by
    simp [Vector.get_eq_getElem]
  rw [flags, State.setSweep]
  simp only [State.count_frame, mapPlaces_get, own, Bool.or_eq_true, decide_eq_true_eq]

theorem leaveAndPromote_faults (s : State) : s.leaveAndPromote.engine.faulted = false ∧
    s.leaveAndPromote.engine.faults = if s.engine.faulted then 2 else s.engine.faults := by
  unfold State.leaveAndPromote
  split
  next faulted => simp [State.leaveFaulted, faulted]
  next sound => simpa using sound

theorem leaveAndPromote_movesOnly (s : State) : MovesOnly boardCounters s s.leaveAndPromote := by
  unfold State.leaveAndPromote
  split
  · exact movesOnly_trans (t := s.leaveFaulted) (movesOnly_of_counters (by simp))
      (movesOnly_mono (by decide) (promoteJobs_movesOnly _))
  · exact movesOnly_of_counters rfl

theorem leaveAndPromote_ghosts (s : State) (n : Fin 10) :
    (s.leaveAndPromote.engine.lines.get n).ghost = (s.engine.lines.get n).ghost :=
  (moves_glass (leaveAndPromote_moves s) n).2

/-- What the sweep time leaves, in each order of planner and engine (R109, R135). -/
structure Swept (s t : State) (due : Prop) [Decidable due] : Prop where
  flags : ∀ n : Fin 10, t.planner.sweep.get n = true ↔
    s.planner.sweep.get n = true ∨ (due ∧ 0 < (s.engine.lines.get n).ghost)
  faulted : t.engine.faulted = true ↔ s.engine.faulted = true ∧ ¬ due
  faults : t.engine.faults = if due ∧ s.engine.faulted = true then 2 else s.engine.faults
  counts : CountedOf [.sweepMade] (if due then [.sweepMade] else []) s t
  moves : MovesOnly sweepCounters s t

theorem Swept.congr {s t : State} {p q : Prop} [Decidable p] [Decidable q] (h : Swept s t p) (same : p ↔ q) :
    Swept s t q := by
  obtain ⟨flags, faulted, faults, counts, moves⟩ := h
  simp only [same] at flags faulted faults counts
  exact ⟨flags, faulted, faults, counts, moves⟩

/-- Where no sweep time is, nothing of it happens. -/
theorem swept_none {s t : State} {due : Prop} [Decidable due] (none : ¬ due) (h : t = s) : Swept s t due := by
  rw [h]
  refine Swept.congr (p := False) ⟨fun n => by simp, by simp, by simp, ?_, movesOnly_of_counters rfl⟩
    (iff_of_false id none)
  exact countedOf_of_counted (counted_nil rfl)

theorem sweepNow_swept (s : State) (order : SweepOrder) : Swept s (s.sweepNow order) True := by
  have leaves := leaveAndPromote_faults
  have plan := planSweep_movesOnly
  have flag (u : State) : MovesOnly sweepCounters u u.setSweep := movesOnly_count (movesOnly_of_counters rfl) (by decide)
  have leave (u : State) : MovesOnly sweepCounters u u.leaveAndPromote :=
    movesOnly_mono (by decide) (leaveAndPromote_movesOnly u)
  have quiet (u : State) : MovesOnly [] u u.leaveFaulted := movesOnly_of_counters (by simp)
  cases order with
  | planner =>
    refine ⟨fun n => ?_, ?_, ?_, countedOf_movesOnly (planSweep_counts s) (leaveAndPromote_movesOnly _) (by decide),
      movesOnly_trans (movesOnly_trans (flag s) (plan s)) (leave _)⟩
    · simpa [State.sweepNow] using planSweep_flags s n
    · simp [State.sweepNow, leaves]
    · simp [State.sweepNow, leaves]
  | engine =>
    refine ⟨fun n => ?_, ?_, ?_, countedOf_within (quiet s) (by decide) (planSweep_counts s.leaveFaulted)
        (movesOnly_of_counters (cs := []) rfl) (by decide),
      movesOnly_trans (movesOnly_mono (by decide) (quiet s)) (movesOnly_trans (flag _) (plan _))⟩
    · simpa [State.sweepNow] using planSweep_flags s.leaveFaulted n
    · cases h : s.engine.faulted <;> simp [State.sweepNow, State.leaveFaulted, h]
    · cases h : s.engine.faulted <;> simp [State.sweepNow, State.leaveFaulted, h]
  | promotion =>
    refine ⟨fun n => ?_, ?_, ?_, countedOf_within (leaveAndPromote_movesOnly s) (by decide)
        (planSweep_counts s.leaveAndPromote) (movesOnly_of_counters (cs := []) rfl) (by decide),
      movesOnly_trans (leave s) (movesOnly_trans (flag _) (plan _))⟩
    · simpa [State.sweepNow, leaveAndPromote_ghosts] using planSweep_flags s.leaveAndPromote n
    · simp [State.sweepNow, leaves]
    · simp [State.sweepNow, leaves]

/-- Whether a second is the sweep time, as R109 gives it. -/
abbrev SweepDue (s : State) : Prop :=
  s.clock.second % 60 = 0 ∧ (s.loader.loaded.dayStart * 60 + s.clock.second) % 86400 = s.loader.loaded.sweepMinute * 60

theorem sweepIfDue_swept (s : State) (order : SweepOrder) : Swept s (s.sweepIfDue order) (SweepDue s) := by
  unfold State.sweepIfDue
  by_cases due : SweepDue s
  · rw [if_pos (sweepTime_iff.2 due)]
    exact (sweepNow_swept s order).congr (iff_of_true trivial due)
  · rw [if_neg fun now => due (sweepTime_iff.1 now)]
    exact swept_none due rfl

theorem composeAfter_ghosts (s : State) (before : List Entry) (tick : Bool) (n : Fin 10) :
    ((s.composeAfter before tick).engine.lines.get n).ghost = (s.engine.lines.get n).ghost :=
  (moves_glass (composeAfter_moves s before tick) n).2

theorem composeAndSweep_swept (s : State) (before : List Entry) (tick sweepFirst : Bool) (order : SweepOrder) :
    Swept s (s.composeAndSweep before tick sweepFirst order) (SweepDue s) := by
  have board (u : State) := composeAfter_movesOnly u before tick
  unfold State.composeAndSweep
  cases sweepFirst with
  | true =>
    obtain ⟨flags, faulted, faults, counts, moves⟩ := sweepIfDue_swept s order
    exact ⟨fun n => by simpa using flags n, by simpa using faulted, by simpa using faults,
      countedOf_movesOnly counts (board _) (by decide), movesOnly_trans moves (movesOnly_mono (by decide) (board _))⟩
  | false =>
    obtain ⟨flags, faulted, faults, counts, moves⟩ := (sweepIfDue_swept (s.composeAfter before tick) order).congr
      (q := SweepDue s) (by simp [SweepDue])
    exact ⟨fun n => by simpa [composeAfter_ghosts] using flags n, by simpa using faulted, by simpa using faults,
      countedOf_within (board s) (by decide) counts (movesOnly_of_counters (cs := []) rfl) (by decide),
      movesOnly_trans (movesOnly_mono (by decide) (board s)) moves⟩

/-- At a board tick the board shows the targets as they stand (R77). -/
theorem composeAndSweep_board (s : State) (before : List Entry) (sweepFirst : Bool) (order : SweepOrder) :
    (s.composeAndSweep before true sweepFirst order).board = { s.board with targets := s.composedTargets } := by
  have shown (u : State) : (u.composeAfter before true).board = { u.board with targets := u.composedTargets } := by
    rw [State.composeAfter, if_pos (by rfl), compose_board]
  unfold State.composeAndSweep
  cases sweepFirst with
  | true =>
    rw [if_pos rfl, shown, composedTargets_congr (s := s) (by simp) (by simp) (by simp) (by simp) (by simp) (by simp)
      (by simp)]
    simp
  | false => simp [shown]

/-! ### The rotation (R91 to R93) -/

theorem moves_rotationSound {fin : Bool} {s t : State} (m : Moves fin s t) (h : s.RotationSound) : t.RotationSound := by
  refine m.keeps (fun x y mv hx => ?_) h
  cases mv
  case board b kept => exact kept.rotation hx
  all_goals exact hx

/-- A current notice that has stood for the rotation period gives way to the next (R92). -/
theorem rotateNotices_turns {s : State} (sound : s.RotationSound) :
    s.rotateNotices.board.notices = s.board.notices ∧
    (∀ i, s.board.current = some i → s.board.shownSince + 60000 * s.loader.loaded.rotation ≤ s.elapsed →
      s.rotateNotices.board.shownSince = s.elapsed ∧
        ∃ j, s.rotateNotices.board.current = some j ∧ FirstFrom s.board.notices (i + 1) j) ∧
    (s.board.current = none ∨ s.elapsed < s.board.shownSince + 60000 * s.loader.loaded.rotation →
      s.rotateNotices.board.shownSince = s.board.shownSince ∧ s.rotateNotices.board.current = s.board.current) := by
  refine ⟨by simp, fun i hi due => ?_, fun early => ?_⟩
  · obtain ⟨n, held, -⟩ := sound.2 i hi
    have below : i < s.board.notices.length := (List.getElem?_eq_some_iff.1 held).1
    obtain ⟨j, found, first⟩ := nextEligible_first (ns := s.board.notices) (i := i + 1)
      (by rintro none; simp [none] at below) below
    rw [State.rotateNotices, hi]
    simp only [if_pos due]
    exact ⟨trivial, j, found, first⟩
  · unfold State.rotateNotices
    split
    · exact ⟨rfl, rfl⟩
    next i hi =>
      rw [if_neg (by rcases early with none | early <;> simp_all)]
      exact ⟨rfl, rfl⟩

theorem noticeTick_movesOnly (s : State) : MovesOnly [.noticeExpired] s s.noticeTick := by
  unfold State.noticeTick
  split
  · exact movesOnly_trans (expireNotices_movesOnly s) (movesOnly_of_counters (by simp))
  · exact movesOnly_of_counters rfl

/-! ### The whole second -/

/-- A counted second: `r` once the second is counted, `v` once the table has turned, `t` at its end. -/
structure Second (s r v t : State) (pass : PassPlace) : Prop where
  rolled : Rolled s r
  turned : v = r.tableSecond pass
  valid : r.clock.timeValid = true
  frame : SameFrame r t
  table : t.table = v.table
  sent : t.tx = v.tx
  moves : MovesOnly (.noticeExpired :: sweepCounters) v t
  late : MovesOnly sweepCounters v.noticeTick t
  settles : RxSettles s.rx.queue s t
  swept : Swept v.noticeTick t (SweepDue t)
  board : t.clock.second % 15 = 0 → t.board = { v.expireNotices.rotateNotices.board with targets := t.composedTargets }
  changes : OnlyChanges [.elapsed, .clock, .sheets, .table, .board, .planner, .engine, .rx, .tx, .counters] s t

/-- The end of a counted second, once the table has turned. -/
def secondEnd (s v : State) (tick sweepFirst : Bool) (order : SweepOrder) : State :=
  ((v.noticeTick).composeAndSweep s.table.entries tick sweepFirst order).finish

theorem countedSecond_is {s : State} {pass : PassPlace} {sweepFirst : Bool} {order : SweepOrder}
    (started : s.started = true) (sound : s.RadioSound) (valid : s.clock.timeValid = true)
    (within : s.clock.second < 86400) :
    Second s s.tickSecond.rollIfDue (s.tickSecond.rollIfDue.tableSecond pass)
      (secondEnd s (s.tickSecond.rollIfDue.tableSecond pass) s.tickSecond.rollIfDue.onTick sweepFirst order) pass := by
  have rolled := rolled_is valid within
  generalize s.tickSecond.rollIfDue = r at rolled
  obtain ⟨v, hv⟩ : ∃ v, v = r.tableSecond pass := ⟨_, rfl⟩
  obtain ⟨c, hc⟩ : ∃ c, c = v.noticeTick.composeAndSweep s.table.entries r.onTick sweepFirst order := ⟨_, rfl⟩
  have ends : secondEnd s v r.onTick sweepFirst order = c.finish := by rw [hc]; rfl
  have counters : c.finish.counters = c.counters :=
    finish_counters_of_sound (queue := s.rx.queue) sound (by simp [hc, hv, rolled.loader]) (by simp [hc, hv, rolled.rx])
      (fun busy => by simpa [hc, hv] using tableSecond_busy (pass := pass) (s := r) (by rwa [rolled.tx]))
      (by simp [hc, hv, rolled.elapsed])
  have quiet : MovesOnly [] c c.finish := movesOnly_of_counters counters
  have swept := composeAndSweep_swept v.noticeTick s.table.entries r.onTick sweepFirst order
  have ticked := noticeTick_movesOnly v
  rw [← hv, ends]
  rw [← hc] at swept
  obtain ⟨flags, faulted, faults, counts, moves⟩ := swept
  have due : SweepDue c.finish ↔ SweepDue v.noticeTick := by simp [SweepDue, hc]
  have late : MovesOnly sweepCounters v.noticeTick c.finish := movesOnly_trans moves (movesOnly_mono (by decide) quiet)
  refine ⟨rolled, hv, ?_, ⟨⟨by simp [hc, hv], by simp [hc, hv]⟩, by simp [hc, hv], by simp [hc, hv], by simp [hc, hv]⟩,
    by simp [hc], by simp [hc], ?_, late, ?_, ⟨fun n => ?_, ?_, ?_, ?_, ?_⟩, fun tick => ?_, ?_⟩
  · rw [rolled.clock]
    exact valid
  · exact movesOnly_trans (movesOnly_mono (by decide) ticked) (movesOnly_mono (by decide) late)
  · exact rxSettles_finish (by simpa [hc, hv, State.started, rolled.loader] using started) (by simp [hc, hv, rolled.rx])
  · rw [due]
    simpa using flags n
  · rw [due]
    simpa using faulted
  · simp only [due]
    simpa using faults
  · simp only [due]
    exact countedOf_movesOnly counts quiet (by decide)
  · exact late
  · have ticks : r.onTick = true := by
      simpa [State.onTick, hc, hv] using tick
    have turns : v.noticeTick = v.expireNotices.rotateNotices := by
      rw [State.noticeTick, if_pos (by simpa [State.onTick, hv] using ticks)]
    have targets : c.finish.composedTargets = v.noticeTick.composedTargets :=
      composedTargets_congr (by simp [hc]) (by simp [hc]) (by simp [hc]) (by simp [hc]) (by simp [hc]) (by simp [hc])
        (by simp [hc])
    rw [targets, ← turns]
    simp [hc, ticks, composeAndSweep_board]
  · simp [onlyChanges_iff, hc, hv, rolled.pending, rolled.loader, rolled.sense]

/-- The run of a counted second (R64). -/
theorem countedSecond_runs {s : State} {pass : PassPlace} {sweepFirst : Bool} {order : SweepOrder}
    (started : s.started = true) (sound : s.RadioSound) (valid : s.clock.timeValid = true)
    (within : s.clock.second < 86400) : ∃ r v t, exec (.countedSecond pass ⟨sweepFirst, order⟩) s = .next t ∧
      t = secondEnd s v r.onTick sweepFirst order ∧ r = s.tickSecond.rollIfDue ∧ Second s r v t pass := by
  refine ⟨_, _, _, ?_, rfl, rfl, countedSecond_is (sweepFirst := sweepFirst) (order := order) started sound valid within⟩
  change Host.Outcome.next (s.whenStarted fun u => if u.clock.timeValid then u.countSecond pass sweepFirst order else u) = _
  rw [State.whenStarted, if_pos started, if_pos valid]
  rfl

end Sys2Proof.Proofs
end

section
/-! PROOF. What a counted second makes of clock, notices, sweep and table (O22, O40). -/

namespace Sys2Proof.Proofs

open Sys2Proof Sys2Proof.Machine Sys2Proof.Claims

section
variable {s r v t : State} {pass : PassPlace}

theorem Second.clock (run : Second s r v t pass) : t.clock = nextSecond s.clock :=
  run.frame.clock.trans run.rolled.clock

theorem Second.vnow (run : Second s r v t pass) : SameNow v t := by
  rw [run.turned]
  exact ⟨by simp [run.frame.loader], by simp [run.frame.clock]⟩

theorem Second.loaded (run : Second s r v t pass) : t.loader = s.loader := run.frame.loader.trans run.rolled.loader

/-- What happens up to the table's turn. -/
theorem Second.reached (run : Second s r v t pass) :
    MovesOnly ([.rolloverRemoval, .sheetExpired, .assemblyExpired, .publicationExpired] ++ secondCounters) s v := by
  rw [run.turned]
  exact movesOnly_trans (movesOnly_mono (by decide) run.rolled.moves)
    (movesOnly_mono (by decide) (tableSecond_movesOnly pass r))

/-- No AT_STOP entry is left whose bus was last seen too long ago (R12). -/
theorem Second.noneLost (run : Second s r v t pass) : ∀ e ∈ t.table.entries, e.state = .atStop →
    ∀ u, e.lastSight = some u → (t.clock.second : Int) - u < s.loader.loaded.sightLoss := by
  intro e he waits u sight
  have kept : lostSight v e = false := by
    rw [run.turned]
    refine tableSecond_noneLost run.valid e ?_
    rwa [← run.turned, ← run.table]
  rw [← run.vnow.now.2.2.1] at kept
  by_contra late
  simp only [lostSight, sight, waits, run.loaded, decide_eq_false_iff_not] at kept
  exact kept ⟨trivial, by omega⟩

/-- The board at a tick: order, targets, the expired notices and the rotation (R77, R90 to R93). -/
theorem Second.ticks (run : Second s r v t pass) (rotation : s.RotationSound) (tick : t.clock.second % 15 = 0) :
    InOrder t ∧ t.board.targets = t.composedTargets ∧
      ∃ m : Board, NoticesExpire t.clock t.elapsed s t m ∧ t.board.notices = m.notices ∧
        (∀ i, m.current = some i → m.shownSince + 60000 * s.loader.loaded.rotation ≤ t.elapsed →
          t.board.shownSince = t.elapsed ∧ ∃ j, t.board.current = some j ∧ FirstFrom m.notices (i + 1) j) ∧
        (m.current = none ∨ t.elapsed < m.shownSince + 60000 * s.loader.loaded.rotation →
          t.board.shownSince = m.shownSince ∧ t.board.current = m.current) := by
  have now := run.vnow
  have elapsed : t.elapsed = v.elapsed := by
    rw [run.turned]
    simp [run.frame.elapsed]
  have vboard : v.board = s.board := by
    rw [run.turned]
    simp [run.rolled.board]
  have onTick : r.clock.second % 15 = 0 := by rwa [← run.frame.clock]
  have board := run.board tick
  have sound : v.RotationSound := by
    rw [State.RotationSound, vboard]
    exact rotation
  have turns := rotateNotices_turns (moves_rotationSound (expireNotices_moves (fin := true) v) sound)
  have ticked : v.noticeTick = v.expireNotices.rotateNotices := by
    rw [State.noticeTick, if_pos (by simpa [State.onTick, ← now.clock] using tick)]
  have expire := noticesExpire_of rotation vboard run.reached (by decide) (t := t) (ds := sweepCounters)
    (movesOnly_trans (t := v.noticeTick) (movesOnly_of_counters (by rw [ticked]; simp)) run.late) (by decide)
  refine ⟨?_, by rw [board], v.expireNotices.board, ?_, ?_⟩
  · have order := tableSecond_inOrder (pass := pass) onTick
    rw [← run.turned, InOrder] at order
    rwa [InOrder, run.table, now.loader, now.clock]
  · rwa [now.clock, elapsed]
  · rw [board, elapsed]
    have loaded : v.loader = s.loader := now.loader.symm.trans run.loaded
    simpa [loaded] using turns

/-- The store at a counted second (R45). -/
theorem Second.discards (run : Second s r v t pass) :
    if s.clock.second + 1 = 86400 then t.sheets = discarded t.clock.day s.sheets ∧ DiscardsCounted t.clock.day s t
    else t.sheets = s.sheets := by
  have sheets := run.frame.sheets.trans run.rolled.sheets
  split
  next midnight =>
    rw [if_pos midnight] at sheets
    refine ⟨by rw [sheets, run.frame.clock], ?_⟩
    have gone := run.rolled.discards midnight
    have after : MovesOnly (secondCounters ++ .noticeExpired :: sweepCounters) r t :=
      movesOnly_trans (movesOnly_mono (by decide) (run.turned ▸ tableSecond_movesOnly pass r))
        (movesOnly_mono (by decide) run.moves)
    rw [run.frame.clock]
    unfold DiscardsCounted at gone ⊢
    exact countedOf_movesOnly gone after (by decide)
  next other => rwa [if_neg other] at sheets

/-- The sweep time and only it flags lines and ends FAULTED (R109, R135). -/
theorem Second.sweeps (run : Second s r v t pass) :
    let due := t.clock.second % 60 = 0 ∧
      (s.loader.loaded.dayStart * 60 + t.clock.second) % 86400 = s.loader.loaded.sweepMinute * 60;
    (∀ n : Fin 10, t.planner.sweep.get n = true ↔
      s.planner.sweep.get n = true ∨ (due ∧ 0 < (s.engine.lines.get n).ghost)) ∧
    (t.engine.faulted = true ↔ s.engine.faulted = true ∧ ¬ due) ∧
    t.engine.faults = (if due ∧ s.engine.faulted = true then 2 else s.engine.faults) ∧
    CountedOf [.sweepMade] (if due then [.sweepMade] else []) s t := by
  intro due
  obtain ⟨flags, faulted, faults, counts, -⟩ := run.swept.congr (q := due) (by rw [SweepDue, run.loaded])
  have planner : v.noticeTick.planner = s.planner := by
    rw [run.turned]
    simp [run.rolled.planner]
  have engine : v.noticeTick.engine = s.engine := by
    rw [run.turned]
    simp [run.rolled.engine]
  rw [planner, engine] at flags
  rw [engine] at faulted faults
  exact ⟨flags, faulted, faults, countedOf_within (movesOnly_trans (movesOnly_mono (ds := .noticeExpired :: [
    .rolloverRemoval, .sheetExpired, .assemblyExpired, .publicationExpired] ++ secondCounters) (by decide) run.reached)
      (movesOnly_mono (by decide) (noticeTick_movesOnly v))) (by decide) counts (movesOnly_of_counters (cs := []) rfl)
      (by decide)⟩

end

/-- A second that is no tick, with no bus lost, is the clock's alone (R64). -/
theorem quietSecond {s : State} {pass : PassPlace} {sweepFirst : Bool} {order : SweepOrder} (sound : s.RadioSound) (valid : s.clock.timeValid = true)
    (within : s.clock.second < 86400) (off : (nextSecond s.clock).second % 15 ≠ 0)
    (kept : ∀ e ∈ s.table.entries, e.state = .atStop → ∀ u, e.lastSight = some u →
      ((nextSecond s.clock).second : Int) - u < s.loader.loaded.sightLoss) :
    let r := s.tickSecond.rollIfDue
    let t := secondEnd s (r.tableSecond pass) r.onTick sweepFirst order
    OnlyChanges [.elapsed, .clock, .engine, .rx] s t ∧ PortServes s t := by
  have rolled := rolled_is valid within
  have other : s.clock.second + 1 ≠ 86400 := fun midnight => off (by simp [nextSecond, midnight])
  generalize s.tickSecond.rollIfDue = r at rolled
  intro r' t
  have table : r.table = s.table := by simp [rolled.table, foundEntries, foundMarks, other]
  have sheets : r.sheets = s.sheets := by rw [rolled.sheets, if_neg other]
  have second : r.clock.second % 15 ≠ 0 := by rwa [rolled.clock]
  have idle : r.tableSecond pass = r := by
    rw [tableSecond_eq, if_neg (by omega), if_neg second]
    refine sightLossChecks_idle fun e he => ?_
    rw [table] at he
    unfold lostSight
    split
    · rfl
    next u sight =>
      rw [decide_eq_false_iff_not, rolled.clock, rolled.loader]
      rintro ⟨waits, late⟩
      have early := kept e he waits u sight
      omega
  have tick : r.onTick = false := by simpa [State.onTick] using second
  have ends : t = r.finish := by
    have notices : r.noticeTick = r := by rw [State.noticeTick, tick]; rfl
    have board : r.composeAfter s.table.entries false = r := by simp [State.composeAfter, table]
    have sweep : r.sweepIfDue order = r := by
      rw [State.sweepIfDue, if_neg]
      rw [sweepTime_iff]
      omega
    simp only [t, r', secondEnd, idle, notices, tick, State.composeAndSweep, sweep, board, ite_self]
  have counters : r.finish.counters = r.counters :=
    finish_counters_of_sound (queue := s.rx.queue) sound rolled.loader (by simp [rolled.rx])
      (fun busy => by rwa [rolled.tx]) (by simp [rolled.elapsed])
  rw [ends]
  refine ⟨?_, portServes_finish rolled.engine⟩
  simp [onlyChanges_iff, counters, rolled.still other, rolled.pending, rolled.loader, sheets, table, rolled.board,
    rolled.planner, rolled.sense, rolled.tx]

/-- Settles O22: the counted second block by block, and the quiet one. -/
theorem countedSecondMovesTheClock : Obligations.CountedSecondMovesTheClock := by
  intro s pass sweepFirst order started sound valid within rotation
  obtain ⟨r, v, t, ran, ends, rolls, run⟩ := countedSecond_runs (pass := pass) (sweepFirst := sweepFirst) (order := order)
    started sound valid within
  refine ⟨t, ran, run.changes, run.frame.elapsed.trans run.rolled.elapsed, run.clock, run.settles, run.noneLost,
    run.ticks rotation, run.discards, run.sweeps, fun off kept => ?_⟩
  rw [run.clock] at off kept
  have quiet := quietSecond (pass := pass) (sweepFirst := sweepFirst) (order := order) sound valid within off kept
  dsimp only at quiet
  rwa [← rolls, ← run.turned, ← ends] at quiet

/-! ### The table (R5, R12, R20, R23, R26) -/

section
variable {s r v t : State} {pass : PassPlace}

theorem Second.found (run : Second s r v t pass) : r.table.entries = foundEntries s ∧ r.table.marks = foundMarks s ∧
    r.table.rebuild = s.table.rebuild ∧ r.table.passOwed = s.table.passOwed := by
  rw [run.rolled.table]
  exact ⟨rfl, rfl, rfl, rfl⟩

/-- Turn and departures are told from the second's start to its end. -/
theorem Second.turned_overall (run : Second s r v t pass) {owes : Bool} {slots : Vector SlotSheets 6}
    {held before : List Entry} {marks : Vector Int 6} (h : Turned owes slots held before marks r v) :
    Turned owes slots held before marks s t :=
  turned_within run.rolled.moves (by decide) h run.moves (by decide) run.vnow (by rw [run.table]) (by rw [run.table])
    (by rw [run.table])

theorem Second.departs_overall (run : Second s r v t pass) {ordered : Prop} {before : List Entry}
    (h : LostDepart ordered before r v) : LostDepart ordered before s t := by
  have same : SameFrame v t := by
    rw [run.turned]
    exact ⟨⟨by simp [run.frame.loader], by simp [run.frame.clock]⟩, by simp [run.frame.elapsed],
      by simp [run.frame.sheets], by simp [run.frame.energy]⟩
  exact lostDepart_congr run.rolled.loader run.rolled.tx run.rolled.moves (by decide) h same run.sent run.moves (by decide)

theorem Second.departs (run : Second s r v t pass) (sound : r.SheetsSound) :
    LostDepart (pass ≠ .afterEvaluations) (foundEntries s) s t := by
  refine run.departs_overall ?_
  rw [← run.found.1, run.turned, tableSecond_eq]
  split_ifs
  · exact (turnAll_turns pass run.valid sound).2
  · exact (tickAll_turns pass r).2.2
  · exact sightLossChecks_lostDepart _ r

/-- A second that is no minute boundary admits nothing and moves no mark; at a tick every entry is evaluated. -/
theorem Second.between (run : Second s r v t pass) (off : t.clock.second % 60 ≠ 0) :
    t.table.marks = s.table.marks ∧ t.table.passOwed = s.table.passOwed ∧
      CountedOf [.admission, .admissionLoss] [] s t ∧
      (t.clock.second % 15 = 0 → t.table.entries.Perm
        (((foundEntries s).filter fun e => !lostSight t e).filterMap (evaluated t))) ∧
      (t.clock.second % 15 ≠ 0 → t.table.entries = (foundEntries s).filter fun e => !lostSight t e) := by
  obtain ⟨ev, -, ls, -, -⟩ := run.frame.now
  obtain ⟨entries, marks, -, owed⟩ := run.found
  have other : s.clock.second + 1 ≠ 86400 := fun midnight => off (by rw [run.clock]; simp [nextSecond, midnight])
  have kept : foundMarks s = s.table.marks := if_neg other
  rw [run.frame.clock] at off ⊢
  have table := run.table
  rw [run.turned, tableSecond_eq, if_neg off] at table
  have quiet : MovesOnly [.overdueRemoval, .observationExpired, .departure, .passageOriginated, .relayDropped] r v := by
    rw [run.turned, tableSecond_eq, if_neg off]
    split_ifs
    · exact tickAll_movesOnly pass r
    · exact movesOnly_mono (by decide) (sightLossChecks_movesOnly r)
  have counted : CountedOf [.admission, .admissionLoss] [] s t :=
    countedOf_within (s := s) (movesOnly_of_counters (cs := []) rfl) (by decide)
      (countedOf_movesOnly (countedOf_movesOnly (countedOf_of_counted (counted_nil rfl)) run.rolled.moves (by decide))
        quiet (by decide)) run.moves (by decide)
  rw [ev, ls, ← entries, ← kept, ← marks, ← owed]
  by_cases tick : r.clock.second % 15 = 0
  · obtain ⟨only, perm, -⟩ := tickAll_turns pass r
    rw [if_pos tick] at table
    rw [table]
    exact ⟨by rw [only], by rw [only], counted, fun _ => perm, fun no => absurd tick no⟩
  · rw [if_neg tick] at table
    obtain ⟨only, -⟩ := sightLossChecks_departs r
    rw [table, only]
    exact ⟨rfl, rfl, counted, fun yes => absurd yes tick, fun _ => rfl⟩

end

/-- Settles O40: the turn of the table at a minute boundary, at a tick, and in any other second. -/
theorem secondsTurnTheTable : Obligations.SecondsTurnTheTable := by
  intro s pass sweepFirst order started sound sheets valid within rolls before marks
  obtain ⟨r, v, t, ran, -, rolled, run⟩ := countedSecond_runs (pass := pass) (sweepFirst := sweepFirst) (order := order)
    started sound valid within
  have settled : r.SheetsSound := by
    rw [rolled]
    exact moves_sheetsSound (fin := true) (rolledSecond_moves s) sheets
  obtain ⟨ev, -, ls, -, -⟩ := run.frame.now
  obtain ⟨entries, found, flying, -⟩ := run.found
  refine ⟨t, ran, ?_⟩
  intro kept held
  refine ⟨?_, ?_, fun minute => ?_, fun off => run.between off, run.departs settled⟩
  · rw [run.table, run.turned, ← flying]
    simp
  · exact countedOf_movesOnly (countedOf_movesOnly run.rolled.removed (run.turned ▸ tableSecond_movesOnly pass r)
      (by decide)) run.moves (by decide)
  · have holds : held = heldAt pass r := by
      simp only [held, kept, ev, ls]
      cases pass <;> (unfold heldAt; rw [entries]; rfl)
    have turned := (turnAll_turns pass run.valid settled).1
    rw [run.frame.clock] at minute
    have all : v = turnAll pass r := by rw [run.turned, tableSecond_eq, if_pos minute]
    have slots : t.sheets.slots = r.sheets.slots := by rw [run.frame.sheets]
    rw [holds, slots]
    rw [← all, entries, found, flying] at turned
    exact run.turned_overall turned

end Sys2Proof.Proofs
end

section
/-! PROOF. The ten lines of the board (O33). -/

namespace Sys2Proof.Proofs

open Sys2Proof Sys2Proof.Machine Sys2Proof.Claims

/-- A text in a longer field stands with blanks after it. -/
theorem fit_shorter {n : Nat} {cells : Cells} (short : cells.length ≤ n) :
    fit n cells = cells ++ List.replicate (n - cells.length) 32#8 := by
  rw [fit, List.take_append, List.take_of_length_le short, List.take_replicate]
  simp

theorem fit_by {k n : Nat} {cells : Cells} (length : cells.length = k) (within : k ≤ n) :
    fit n (fit k cells) = cells ++ List.replicate (n - k) 32#8 := by
  rw [fit_of_length length, fit_shorter (by omega), length]

/-- The station clock's five cells (R80). -/
theorem stationClock (c : Loaded) (second : Nat) : clockText c second =
    [BitVec.ofNat 8 (48 + (c.dayStart * 60 + second) % 86400 / 3600 / 10),
      BitVec.ofNat 8 (48 + (c.dayStart * 60 + second) % 86400 / 3600 % 10)] ++ [58#8] ++
    [BitVec.ofNat 8 (48 + (c.dayStart * 60 + second) % 86400 % 3600 / 60 / 10),
      BitVec.ofNat 8 (48 + (c.dayStart * 60 + second) % 86400 % 3600 / 60 % 10)] := by
  have here : localSecond c second = (c.dayStart * 60 + second) % 86400 := by
    have cast := localSecond_cast c second
    omega
  have below := localSecond_lt c second
  rw [clockText, here, twoDigits_of_lt_hundred (by omega), twoDigits_of_lt_hundred (by omega)]

theorem headerLine_eq {c : Loaded} {k : Clock} {energy : Energy} (name : c.stopName.length = 24) :
    headerLine c k energy = c.stopName ++ List.replicate 3 32#8 ++
      (if k.timeValid = true ∧ energy = .ample then clockText c k.second else List.replicate 5 32#8) := by
  simp only [headerLine, fit_by name (show 24 ≤ 27 by decide), Bool.and_eq_true, decide_eq_true_eq]
  rfl

theorem destinationText_length {c : Loaded} (fits : TextsFit c) (i : SlotIx) (terminal : Option Nat) :
    (destinationText (c.slots.get i) terminal).length = 18 := by
  obtain ⟨-, -, slots⟩ := fits
  obtain ⟨-, destination, shortTurn⟩ := slots i
  unfold destinationText
  split
  · exact destination
  · split
    · exact shortTurn
    · exact destination

theorem entryRow_eq {c : Loaded} (fits : TextsFit c) (e : Entry) : entryRow c e = (c.slots.get e.slot).label ++
    List.replicate 1 32#8 ++ destinationText (c.slots.get e.slot) e.terminal ++ List.replicate 1 32#8 ++ timeField c e := by
  obtain ⟨label, -⟩ := fits.2.2 e.slot
  rw [entryRow, fit_by label (by decide), fit_by (destinationText_length fits e.slot e.terminal) (by decide)]
  simp

/-- Line `n` between header and notice line is departure row `n`. -/
theorem composedTargets_row (s : State) {n : Fin 10} (first : 1 ≤ n.val) (last : n.val ≤ 8) :
    s.composedTargets.get n = rowTarget s.loader.loaded s.clock.timeValid s.table.entries n.val := by
  obtain ⟨n, below⟩ := n
  interval_cases n <;> rfl

/-- Each line of the targets worked out afresh (R79 to R84). -/
theorem composedTargets_read {s : State} (fits : TextsFit s.loader.loaded) : BoardReads s s.composedTargets := by
  have header : s.composedTargets.get 0 = headerLine s.loader.loaded s.clock s.planner.energy := rfl
  have notice : s.composedTargets.get 9 = noticeLine s.clock.timeValid s.board := rfl
  obtain ⟨name, standby, -⟩ := id fits
  refine ⟨fun invalid => ⟨?_, ?_, fun n low => ?_⟩, fun valid => ⟨?_, fun n e first last held => ?_,
    fun n first last none => ?_, fun i n current held short => ?_, fun none => ?_⟩⟩
  · rw [header, headerLine_eq name, if_neg (by simp [invalid])]
    simp
  · rw [composedTargets_row s (n := 1) (by decide) (by decide), rowTarget, invalid]
    simp [fit_of_length standby]
  · by_cases last : n.val ≤ 8
    · rw [composedTargets_row s (by omega) last, rowTarget, if_neg (by simp [invalid]), if_neg (by omega)]
      rfl
    · have ninth : n = 9 := Fin.ext (by omega)
      rw [ninth, notice, noticeLine, if_neg (by simp [invalid])]
      rfl
  · rw [header, headerLine_eq name]
    simp only [valid, true_and, stationClock]
  · rw [composedTargets_row s first last, rowTarget, if_pos valid, held]
    exact entryRow_eq fits e
  · rw [composedTargets_row s first last, rowTarget, if_pos valid, List.getElem?_eq_none (by omega)]
    by_cases one : n.val = 1
    · have empty : s.table.entries = [] := List.eq_nil_of_length_eq_zero (by omega)
      simp [one, empty, fit_of_length standby]
    · simp [one, Config.blanks, Config.blank]
  · rw [notice, noticeLine, if_pos valid, current]
    simp only [Option.bind_some, held]
    rw [List.take_of_length_le short, fit_shorter (by omega)]
  · rw [notice, noticeLine, if_pos valid, none]
    rfl

/-- A board that shows the composed targets reads as they do. -/
theorem boardReads_shown {t : State} (fits : TextsFit t.loader.loaded) (shown : t.board.targets = t.composedTargets) :
    BoardReads t t.board.targets := by
  rw [shown]
  exact composedTargets_read fits

/-- Settles O33: the lines, then their place on the board at a tick and at an adoption. -/
theorem targetsReadLineByLine : Obligations.TargetsReadLineByLine := by
  refine ⟨fun s fits => composedTargets_read fits, ?_, ?_⟩
  · intro s pass sweepFirst order started sound fits valid tick within
    obtain ⟨r, v, t, ran, -, -, run⟩ := countedSecond_runs (pass := pass) (sweepFirst := sweepFirst) (order := order)
      started sound valid within
    have onTick : t.clock.second % 15 = 0 := by
      rw [run.clock, nextSecond]
      dsimp only
      split <;> omega
    refine ⟨t, ran, boardReads_shown (by rwa [run.loaded]) ?_⟩
    rw [run.board onTick]
  · intro s dt o p g rest head sound fits f formed within adopted
    obtain ⟨u, w, t, kind, ran, run⟩ := clockFrame_runs (dt := dt) (a := o) (b := p) head sound formed within adopted
    refine ⟨t, ran, ?_, boardReads_shown ?_ ?_⟩
    · rw [run.now.clock]
      exact run.valid
    · rwa [run.now.loader, run.set_loader]
    · rw [run.board]

end Sys2Proof.Proofs
end

section
/-! PROOF. A rebuild's completion: the entries of its slot and day, the mark, then pass and commit (O41). -/

namespace Sys2Proof.Proofs

open Sys2Proof Sys2Proof.Machine Sys2Proof.Claims

/-! ### One entry (R21) -/

/-- Whether a rebuild's day is in the window of the table. -/
abbrev RebuildNear (s : State) (r : Rebuild) : Prop :=
  (r.day - s.clock.day).toInt = -1 ∨ (r.day - s.clock.day).toInt = 0 ∨ (r.day - s.clock.day).toInt = 1

/-- The entry that the recorded sheet changes, with its new times. -/
def changedBy (s : State) (r : Rebuild) (e : Entry) : Option Entry := (resheeted s r e).filter fun x => decide (x ≠ e)

theorem servesStop_iff {stop : Nat} {terminal : Option Nat} :
    servesStop stop terminal = false ↔ ∃ i, terminal = some i ∧ i < stop := by
  cases terminal <;> simp [servesStop]

theorem resheeted_covered {s : State} {r : Rebuild} {e : Entry} (near : RebuildNear s r) (covered : r.covers e = true) :
    resheeted s r e = rebuiltEntry s.loader.loaded s.clock.day s.now r e := by
  obtain ⟨slot, day⟩ : e.slot = r.slot ∧ e.day = r.day := by simpa [Rebuild.covers] using covered
  have first : (r.runs.find? fun x => decide (x.number = e.run)) =
      (r.runs.filter fun x => decide (x.number = e.run)).head? := List.head?_filter.symm
  unfold resheeted rebuiltEntry
  rw [if_pos ⟨slot, day, near⟩, first]
  cases r.runs.filter fun x => decide (x.number = e.run) with
  | nil => rfl
  | cons x _ =>
    refine if_congr ?_ rfl rfl
    simp only [← servesStop_iff, Bool.or_eq_true, Bool.not_eq_true', decide_eq_true_eq, or_assoc]
    rfl

theorem resheeted_other {s : State} {r : Rebuild} {e : Entry} (other : r.covers e = false) :
    resheeted s r e = some e := by
  unfold resheeted
  rw [if_neg]
  rintro ⟨slot, day, -⟩
  simp [Rebuild.covers, slot, day] at other

theorem resheeted_far {s : State} {r : Rebuild} {e : Entry} (far : ¬ RebuildNear s r) : resheeted s r e = some e := by
  unfold resheeted
  rw [if_neg fun h => far h.2.2]

theorem entryChanged_iff {c : Loaded} {day : Day} {now : Int} {r : Rebuild} {e x : Entry}
    (h : rebuiltEntry c day now r e = some x) : entryChanged e x = true ↔ x ≠ e := by
  have shape := rebuiltEntry_some h
  rw [shape]
  obtain ⟨slot, day, run, origin, terminal, scheduled, observation, predicted, state, sight, shown⟩ := e
  simp only [entryChanged, bne_iff_ne, Bool.or_eq_true, ne_eq, Entry.mk.injEq, true_and, and_true]
  tauto

/-- A rebuild's step gives the entry as it is left, and tells the removal, the expiry and the overdue removal. -/
theorem rebuildStep_eq {s : State} {r : Rebuild} (near : RebuildNear s r) (e : Entry) :
    rebuildStep s.loader.loaded s.clock.day s.now r e = (rebuilt s r e, (resheeted s r e).isNone,
      ((changedBy s r e).map (outdated s)).getD false,
      ((changedBy s r e).map fun x => (evaluated s x).isNone).getD false) := by
  unfold rebuildStep
  cases covered : r.covers e with
  | false => simp [rebuilt, changedBy, resheeted_other covered, Option.filter_some]
  | true =>
    rw [if_pos rfl, rebuilt, changedBy, resheeted_covered near covered]
    cases anew : rebuiltEntry s.loader.loaded s.clock.day s.now r e with
    | none => rfl
    | some x =>
      by_cases same : x = e
      · have unchanged : ¬ entryChanged e x = true := fun h => (entryChanged_iff anew).1 h same
        simp [same ▸ unchanged, same, Option.filter_some]
      · have moved := (entryChanged_iff anew).2 same
        simp [moved, same, evaluated_eq, outdated_eq, Option.filter_some]

/-! ### The table (R21) -/

/-- The fill marks after a rebuild, of the entries left (assumption log 29). -/
def rebuiltMarks (s : State) (r : Rebuild) : Vector Int 6 := Vector.ofFn fun i =>
  if i = r.slot ∧ RebuildNear s r then
    (((s.table.entries.filterMap (rebuilt s r)).filter fun e => decide (e.slot = i)).map (·.scheduled)).foldl max
      (s.table.marks.get i)
  else s.table.marks.get i

/-- What a rebuild counts. -/
def rebuildCases (s : State) (r : Rebuild) : List Counter :=
  List.replicate (s.table.entries.countP fun e => (resheeted s r e).isNone) .rebuildRemoval ++
    List.replicate ((s.table.entries.filterMap (changedBy s r)).countP (outdated s)) .observationExpired ++
    List.replicate ((s.table.entries.filterMap (changedBy s r)).countP fun x => (evaluated s x).isNone) .overdueRemoval

theorem raiseMark_eq (slot : SlotIx) (es : List Entry) (mark : Int) : raiseMark slot mark es =
    ((es.filter fun e => decide (e.slot = slot)).map (·.scheduled)).foldl max mark := by
  induction es generalizing mark with
  | nil => rfl
  | cons e rest ih =>
    rw [raiseMark, List.foldl_cons, ← raiseMark, ih, List.filter_cons]
    split <;> simp_all

theorem applyRebuild_near {s : State} {r : Rebuild} (near : RebuildNear s r) :
    (s.applyRebuild r).table = { s.table with
      entries := orderEntries s.loader.loaded s.clock.day (s.table.entries.filterMap (rebuilt s r))
      marks := rebuiltMarks s r } ∧ Counted (rebuildCases s r) s (s.applyRebuild r) := by
  have kept : (s.table.entries.map (rebuildStep s.loader.loaded s.clock.day s.now r)).filterMap (·.1) =
      s.table.entries.filterMap (rebuilt s r) := by
    rw [List.filterMap_map]
    exact congrArg (List.filterMap · _) (funext fun e => congrArg Prod.fst (rebuildStep_eq near e))
  have marks : setMark s.table.marks r.slot (raiseMark r.slot (s.table.marks.get r.slot)
      (s.table.entries.filterMap (rebuilt s r))) = rebuiltMarks s r := by
    refine Vector.ext fun i hi => ?_
    have at_ := setMark_get s.table.marks r.slot ⟨i, hi⟩ (raiseMark r.slot (s.table.marks.get r.slot)
      (s.table.entries.filterMap (rebuilt s r)))
    rw [Vector.get_eq_getElem] at at_
    rw [at_, rebuiltMarks, Vector.getElem_ofFn, raiseMark_eq]
    by_cases own : (⟨i, hi⟩ : SlotIx) = r.slot
    · rw [if_pos own, if_pos ⟨own, near⟩, own]
    · rw [if_neg own, if_neg fun h => own h.1]
  unfold State.applyRebuild
  dsimp only
  rw [if_pos (show dayOffset s.clock.day r.day = -1 ∨ dayOffset s.clock.day r.day = 0 ∨ dayOffset s.clock.day r.day = 1
    from near), kept, marks]
  refine ⟨by simp, ?_⟩
  simp only [List.countP_map, Function.comp_def, rebuildStep_eq near]
  rw [rebuildCases, List.countP_filterMap, List.countP_filterMap]
  exact counted_many _ (counted_many _ (counted_many (cs := []) s (counted_nil rfl) rfl) rfl) rfl

theorem applyRebuild_far {s : State} {r : Rebuild} (far : ¬ RebuildNear s r) : s.applyRebuild r = s ∧
    s.table.entries.filterMap (rebuilt s r) = s.table.entries ∧ rebuiltMarks s r = s.table.marks ∧
      rebuildCases s r = [] := by
  have stays (e : Entry) : rebuilt s r e = some e := by simp [rebuilt, resheeted_far far]
  have none (e : Entry) : changedBy s r e = none := by simp [changedBy, resheeted_far far, Option.filter_some]
  refine ⟨if_neg far, ?_, ?_, ?_⟩
  · rw [funext stays, List.filterMap_some]
  · refine Vector.ext fun i hi => ?_
    rw [rebuiltMarks, Vector.getElem_ofFn, if_neg fun h => far h.2, Vector.get_eq_getElem]
  · have nothing : s.table.entries.filterMap (changedBy s r) = [] := List.filterMap_eq_nil_iff.2 fun e _ => none e
    simp [rebuildCases, nothing, resheeted_far far]

/-- What a completed rebuild leaves in the table (R21). -/
theorem completeRebuild_is (s : State) (r : Rebuild) :
    (s.completeRebuild r).table = { s.table with
      entries := (s.completeRebuild r).table.entries, marks := rebuiltMarks s r, rebuild := none } ∧
    (s.completeRebuild r).table.entries.Perm (s.table.entries.filterMap (rebuilt s r)) ∧
    (InOrder s → InOrder (s.completeRebuild r)) ∧ Counted (rebuildCases s r) s (s.completeRebuild r) := by
  by_cases near : RebuildNear s r
  · obtain ⟨table, counted⟩ := applyRebuild_near near
    have entries : (s.completeRebuild r).table.entries =
        orderEntries s.loader.loaded s.clock.day (s.table.entries.filterMap (rebuilt s r)) := by
      rw [State.completeRebuild, table]
    refine ⟨?_, ?_, fun _ => ?_, counted⟩
    · rw [entries, State.completeRebuild, table]
    · rw [entries]
      exact sortBy_perm _ _
    · rw [InOrder, entries]
      simpa using orderEntries_pairwise s.loader.loaded s.clock.day _
  · obtain ⟨same, entries, marks, cases⟩ := applyRebuild_far near
    rw [State.completeRebuild, same, entries, marks, cases]
    exact ⟨rfl, .refl _, id, counted_nil rfl⟩

theorem completeRebuild_movesOnly (s : State) (r : Rebuild) :
    MovesOnly [.rebuildRemoval, .observationExpired, .overdueRemoval] s (s.completeRebuild r) := by
  unfold State.completeRebuild State.applyRebuild
  dsimp only
  split
  · exact movesOnly_countMany (movesOnly_countMany (movesOnly_countMany (movesOnly_of_counters rfl) (by decide))
      (by decide)) (by decide)
  · exact movesOnly_of_counters rfl

/-! ### The pass and the commit that follow -/

/-- The closing pass, before the commit or after it (R5 to R8). -/
theorem fillAndCommit_fills {s : State} (commitFirst : Bool) (valid : s.clock.timeValid = true) (sound : s.SheetsSound) :
    ∃ taken lost, Filled (if commitFirst then (s.fillAndCommit commitFirst).sheets.slots else s.sheets.slots)
        s.table.entries s.table.marks taken lost (s.fillAndCommit commitFirst) ∧
      (s.fillAndCommit commitFirst).table.entries.Perm
        (s.table.entries ++ taken.filterMap fun x => evaluated s (entryOf s x)) ∧
      (InOrder s → InOrder (s.fillAndCommit commitFirst)) ∧
      CountedOf [.rebuildRemoval, .admission, .admissionLoss, .overdueRemoval, .observationExpired]
        (List.replicate taken.length .admission ++ List.replicate lost.length .admissionLoss ++
          List.replicate (taken.length - (taken.filterMap fun x => evaluated s (entryOf s x)).length) .overdueRemoval) s
        (s.fillAndCommit commitFirst) := by
  cases commitFirst with
  | true =>
    obtain ⟨taken, lost, filled, perm, counted⟩ := fillPass_fills (s := s.tryCommit) (by simpa using valid)
      (moves_sheetsSound (tryCommit_moves (fin := true) s) sound)
    have same : SameNow s s.tryCommit := ⟨by simp, by simp⟩
    have admitted : (fun x => evaluated s.tryCommit (entryOf s.tryCommit x)) = fun x => evaluated s (entryOf s x) := by
      funext x
      rw [same.now.1, entryOf, entryOf, Call.comes, Call.comes, same.loader, same.clock]
    have run : s.fillAndCommit true = s.tryCommit.fillPass := rfl
    rw [admitted] at perm counted
    rw [run]
    refine ⟨taken, lost, by simpa using filled, by simpa using perm, fun h => (fillPass_keeps _).1 ?_, ?_⟩
    · simpa [InOrder] using h
    · exact countedOf_within (tryCommit_movesOnly s) (by decide) (countedOf_of_counted counted)
        (movesOnly_of_counters (cs := []) rfl) (by decide)
  | false =>
    obtain ⟨taken, lost, filled, perm, counted⟩ := fillPass_fills valid sound
    have run : s.fillAndCommit false = s.fillPass.tryCommit := rfl
    rw [run]
    refine ⟨taken, lost, filled_congr filled (.refl _) (by simp) (by simp) (by simp) (by simp), by simpa using perm,
      fun h => ?_, countedOf_movesOnly (countedOf_of_counted counted) (tryCommit_movesOnly _) (by decide)⟩
    have order := (fillPass_keeps s).1 h
    simpa [InOrder] using order

/-- The run of a rebuild's completion (R21). -/
theorem rebuildCompletion_run {s : State} {dt : Nat} {commitFirst : Bool} {r : Rebuild} (started : s.started = true)
    (flies : s.table.rebuild = some r) : exec (.rebuildCompletion ⟨dt, commitFirst⟩) s = .next
      (((((s.advance dt).completeRebuild r).fillAndCommit commitFirst).composeAfter s.table.entries false).finish) := by
  have run : exec (.rebuildCompletion ⟨dt, commitFirst⟩) s = execRebuildCompletion ⟨dt, commitFirst⟩ s := rfl
  have started' : (s.advance dt).started = true := started
  have flies' : (s.advance dt).table.rebuild = some r := flies
  rw [run, execRebuildCompletion]
  simp only [State.whenStarted, if_pos started', flies']
  rfl

/-- Settles O41: the entries, then pass and commit, then the board. -/
theorem rebuildsComplete : Obligations.RebuildsComplete := by
  intro s dt commitFirst r started radio sheets waiting valid flies held changed marks
  obtain ⟨table, perm, order, counted⟩ := completeRebuild_is (s.advance dt) r
  obtain ⟨u, hu⟩ : ∃ u, u = (s.advance dt).completeRebuild r := ⟨_, rfl⟩
  have moved : MovesOnly [.rebuildRemoval, .observationExpired, .overdueRemoval] s u :=
    hu ▸ completeRebuild_movesOnly (s.advance dt) r
  have clear : u.table.rebuild = none := by rw [hu, table]
  have usheets : u.sheets = s.sheets := by simp [hu]
  have usound : u.SheetsSound := by
    rw [State.SheetsSound, usheets]
    exact sheets
  have umarks : u.table.marks = marks := by rw [hu, table]; rfl
  have uclock : u.clock = clockAfter s.clock dt := by simp [hu, advance_clock]
  obtain ⟨taken, lost, filled, after, ordered, admitted⟩ := fillAndCommit_fills (s := u) commitFirst
    (by simpa [hu] using valid) usound
  have released := fillAndCommit_released (s := u) commitFirst clear (by rw [usheets]; exact waiting.1) (by
    rw [usheets]
    intro j hj
    obtain ⟨a, assembly, -⟩ := (waiting.2.1 j).1 hj
    exact ⟨a, assembly⟩)
  have run := rebuildCompletion_run (dt := dt) (commitFirst := commitFirst) started flies
  rw [← hu] at run
  obtain ⟨v, hv⟩ : ∃ v, v = u.fillAndCommit commitFirst := ⟨_, rfl⟩
  rw [← hv] at run filled after ordered admitted released
  have board := composeAfter_board v s.table.entries
  have composed := composeAfter_movesOnly v s.table.entries false
  obtain ⟨w, hw⟩ : ∃ w, w = v.composeAfter s.table.entries false := ⟨_, rfl⟩
  rw [← hw] at run board composed
  have counters : w.finish.counters = w.counters :=
    finish_counters_of_sound (queue := s.rx.queue) radio (by simp [hw, hv, hu]) (by simp [hw, hv, hu])
      (fun busy => by simpa [hw, hv, hu, fillAndCommit_send] using busy) (by simp [hw, hv, hu])
  have ends : MovesOnly boardCounters v w.finish := fun k hk =>
    (State.counter_congr counters k).trans (composed k hk)
  have same : SameNow u w.finish := ⟨by simp [hw, hv], by simp [hw, hv]⟩
  have now : SameNow (s.advance dt) w.finish := ⟨by simp [hw, hv, hu], by simp [hw, hv, hu]⟩
  have own : (taken.filterMap fun x => evaluated u (entryOf u x)) =
      taken.filterMap fun x => evaluated w.finish (entryOf w.finish x) := (same.now.2.2.2.1 taken).symm
  rw [own] at after admitted
  refine ⟨w.finish, taken, lost, run, ?_, ⟨by simp [hw, hv, hu], by simp [hw, hv, uclock]⟩, ?_, ?_, ?_, ⟨?_, ?_, ?_⟩, ?_⟩
  · simp [onlyChanges_iff, hw, hv, hu]
  · exact rxSettles_finish (by simpa [hw, hv, hu, State.started] using started) (by simp [hw, hv, hu])
  · rw [← usheets]
    exact released_congr released (by simp [hu]) moved (by decide) (by simp [hw]) (by simp [hw]) (by simp [hw])
      (by simp [hw]) ends (by decide)
  · have slots : w.finish.sheets = v.sheets := by simp [hw]
    rw [slots, ← usheets, ← umarks]
    exact filled_congr filled (by rw [hu]; exact perm.symm) (by simp [hw]) (by simp [hw]) (by simp [hw]) (by simp [hw])
  · have entries : w.finish.table.entries = v.table.entries := by simp [hw]
    rw [entries]
    exact after.trans ((hu ▸ perm).append_right _)
  · intro before
    have settled := ordered (hu ▸ order before)
    simpa [InOrder, hw] using settled
  · have cases : rebuildCases (s.advance dt) r = rebuildCases s r := rfl
    have judged : evaluated w.finish = evaluated s := now.now.1
    have aged : outdated w.finish = outdated s := now.now.2.1
    rw [cases, ← hu] at counted
    refine countedOf_perm (countedOf_movesOnly (countedOf_append (countedOf_of_counted (s := s) counted) admitted) ends
      (by decide)) (List.perm_iff_count.2 fun k => ?_)
    have same_changed : s.table.entries.filterMap (changedBy s r) = changed := rfl
    rw [judged, aged, rebuildCases, same_changed]
    simp only [List.count_append, List.count_replicate]
    split_ifs <;> omega
  · have shown : w.finish.board = w.board := by simp
    have targets : w.finish.composedTargets = v.composedTargets :=
      composedTargets_congr (by simp [hw]) (by simp [hw]) (by simp [hw]) (by simp [hw]) (by simp [hw]) (by simp [hw])
        (by simp [hw])
    rw [shown, board, targets]
    simp [hw, hv, hu]

end Sys2Proof.Proofs
end

section
/-! PROOF. The panel port and what planning does to the engine; temperature reads, faults and the suspend limit (O50,
O51, O55). -/

namespace Sys2Proof.Proofs

open Sys2Proof Sys2Proof.Machine Sys2Proof.Claims

/-! ### The end of a command of sense unit or engine -/

theorem jobsFinish {s v : State} (started : s.started = true) (sound : s.RadioSound) (loader : v.loader = s.loader)
    (rx : v.rx = s.rx) (tx : v.tx.state = s.tx.state) (later : s.elapsed ≤ v.elapsed) :
    RxSettles s.rx.queue s v.finish ∧ v.finish.counters = v.counters :=
  ⟨rxSettles_finish (by simpa [State.started, loader] using started) rx,
    finish_counters_of_sound sound loader rx (fun busy => by rwa [tx]) later⟩

theorem onTimer_comesAt {s : State} {timer : Option Nat} {u : Nat} {f : State → State} (started : s.started = true)
    (timer_eq : timer = some u) : s.onTimer timer f = f (s.advance (u - s.elapsed)) :=
  onTimer_of_some started timer_eq

theorem advance_comesAt (s : State) (u : Nat) : s.elapsed + (u - s.elapsed) = comesAt s u := advanceTo_comesAt s u

/-! ### The panel port (R123, R125, R126) -/

/-- The commands of a load step as the claims write them (R125). -/
theorem loadCommands_eq (a : ActiveJob) : a.loadCommands = .window a.job.first a.job.last ::
    ((List.range 10).filter fun l => a.job.first ≤ l ∧ l ≤ a.job.last).map fun l =>
      .lineLoad l (a.content.getD (l - a.job.first) (List.replicate 32 32#8)) := by
  have all : List.range 10 = allLines.map Fin.val := by decide
  have within : ((fun l => decide (a.job.first ≤ l ∧ l ≤ a.job.last)) ∘ Fin.val : Fin 10 → Bool) =
      fun n => a.job.contains n.val := by
    funext n
    simp [Job.contains]
  rw [ActiveJob.loadCommands, all, List.filter_map, List.map_map, within]
  rfl

/-- An IDLE port goes on with what is waiting (R123). -/
theorem servePort_served {v : State} {e : Engine} (free : v.engine = e.release) :
    v.servePort.engine = served v.loader.loaded v.elapsed e := by
  have idle : v.engine.port = .idle := by rw [free]; rfl
  have read : v.engine.readRequest = e.readRequest := by rw [free]; rfl
  have active : v.engine.active = e.active := by rw [free]; rfl
  unfold State.servePort served
  rw [if_pos idle, read, active]
  dsimp only
  split
  · rw [free]
    rfl
  · cases job : e.active with
    | none => simp [free, Engine.release, job]
    | some a =>
      dsimp only
      cases state : a.state with
      | suspended => simp [free, Engine.release, job]
      | running =>
        cases loaded : a.loaded with
        | false => simp [free, Engine.release, loadCommands_eq, job]
        | true =>
          cases mode : a.job.mode with
          | partialMode =>
            by_cases left : a.job.phaseIndex < 4 <;>
              simp [Mode.phases, left, free, Engine.release, ActiveJob.duration, job]
          | clearing =>
            by_cases left : a.job.phaseIndex < 10 <;>
              simp [Mode.phases, left, free, Engine.release, ActiveJob.duration, job]

/-! ### Planning outside DORMANT (R104 to R107) -/

/-- What the choice of a NORMAL job counts (R117). -/
def bandCounters : List Counter := [.jobStaged, .bandNarrowed, .stagingHeld]

/-- Nothing can be promoted: the active slot is taken, or store-low is active (R120). -/
def Blocked (s : State) : Prop := s.engine.active ≠ none ∨ s.sense.storeLow = true

theorem promoteJobs_blocked {s : State} (blocked : Blocked s) : s.promoteJobs = s := by
  unfold State.promoteJobs
  split
  · rfl
  next j _ =>
    refine if_neg fun ready => ?_
    obtain ⟨empty, high, -⟩ := promotable_iff.1 ready
    rcases blocked with taken | low
    · exact taken empty
    · rw [high] at low
      cases low

/-- The choice of a NORMAL job is the planner's alone (R103). -/
theorem stageNormal_planner (s : State) : s.stageNormal = { s with
      planner := { s.planner with
        staged := s.stageNormal.planner.staged, nextJob := s.stageNormal.planner.nextJob
        hold := s.stageNormal.planner.hold }
      counters := s.stageNormal.counters } ∧ MovesOnly bandCounters s s.stageNormal := by
  rcases stageNormal_cases s with e | e | ⟨first, last, m, cost, -, e | e⟩ <;> rw [e]
  · exact ⟨rfl, movesOnly_of_counters rfl⟩
  · exact ⟨rfl, movesOnly_count (movesOnly_of_counters rfl) (by decide)⟩
  · exact ⟨rfl, movesOnly_count (movesOnly_of_counters rfl) (by decide)⟩
  · exact ⟨rfl, movesOnly_count (movesOnly_count (movesOnly_of_counters rfl) (by decide)) (by decide)⟩

theorem plan_awake {s : State} (awake : s.planner.energy ≠ .dormant) : s.plan = { s with
      planner := { s.planner with
        staged := s.plan.planner.staged, nextJob := s.plan.planner.nextJob, hold := s.plan.planner.hold }
      counters := s.plan.counters } ∧ MovesOnly bandCounters s s.plan := by
  unfold State.plan
  rw [if_neg awake]
  split
  · exact ⟨rfl, movesOnly_of_counters rfl⟩
  · exact stageNormal_planner s

theorem plan_awake_engine {s : State} (awake : s.planner.energy ≠ .dormant) : s.plan.engine = s.engine := by
  have only := congrArg State.engine (plan_awake awake).1
  exact only

/-! ### An active slot just emptied, or newly filled -/

/-- What a slot's planning may count where it has been emptied or newly filled (R117). -/
def freshCounters : List Counter := [.jobPromoted, .jobStaged, .bandNarrowed, .stagingHeld, .haltRequested, .parkStaged]

/-- The active slot is empty or holds a job at its beginning; and no halt request would stop that job at once, the port
being in no read or the job the PARK job (R122, R130). -/
structure FreshSlot (s : State) : Prop where
  jobs : ∀ b, s.engine.active = some b → b.state = .running ∧ b.job.phaseIndex = 0 ∧ b.band = s.sense.band
  calm : s.engine.port ≠ .reading ∨ (s.planner.energy = .dormant →
    (∀ b, s.engine.active = some b → b.job.kind = .park) ∧ ∀ j, s.planner.staged = some j → j.kind = .park)

/-- What planning and promotion keep of a slot so: it stays so, and no line, no suspension and no abandonment is made. -/
structure KeepsFresh (s t : State) : Prop where
  fresh : FreshSlot t
  lines : t.engine.lines = s.engine.lines
  suspendedAt : t.engine.suspendedAt = s.engine.suspendedAt
  moves : MovesOnly freshCounters s t

theorem KeepsFresh.trans {s t u : State} (h : KeepsFresh s t) (h' : KeepsFresh t u) : KeepsFresh s u :=
  ⟨h'.fresh, h'.lines.trans h.lines, h'.suspendedAt.trans h.suspendedAt, movesOnly_trans h.moves h'.moves⟩

theorem parkWanted_iff {s : State} : s.parkWanted = true ↔ s.planner.energy = .dormant ∧ s.planner.boardParked = false ∧
    (∀ j, s.planner.staged = some j → j.kind = .normal) ∧ ∀ a, s.engine.active = some a → a.job.kind = .normal := by
  have normal (k : JobKind) : k ≠ .park ↔ k = .normal := by cases k <;> simp
  unfold State.parkWanted
  cases s.planner.staged <;> cases s.engine.active <;> simp [normal, and_assoc]

theorem FreshSlot.askHalt {s : State} (h : FreshSlot s) (calm : s.engine.active ≠ none → s.engine.port ≠ .reading) :
    KeepsFresh s s.askHalt ∧ (s.engine.active = none ∨ s.askHalt.slotFreeForPark = false) := by
  unfold State.askHalt
  cases job : s.engine.active with
  | none => exact ⟨⟨h, rfl, rfl, movesOnly_of_counters rfl⟩, .inl rfl⟩
  | some a =>
    obtain ⟨running, begun, band⟩ := h.jobs a job
    have away := calm (by rw [job]; exact Option.some_ne_none a)
    dsimp only
    by_cases asks : a.state = .running ∧ a.job.kind = .normal ∧ a.haltAsked = false
    · rw [if_pos asks]
      have stays : (State.count { s with
            planner := { s.planner with halt := some a.job.number }
            engine := { s.engine with active := some { a with haltAsked := true } } } .haltRequested).stopWaiting =
          State.count { s with
            planner := { s.planner with halt := some a.job.number }
            engine := { s.engine with active := some { a with haltAsked := true } } } .haltRequested := by
        unfold State.stopWaiting
        exact if_neg fun stop => away stop.2.1
      rw [stays]
      refine ⟨⟨⟨fun b hb => ?_, .inl away⟩, rfl, rfl, movesOnly_count (movesOnly_of_counters rfl) (by decide)⟩, .inr ?_⟩
      · cases hb
        exact ⟨running, begun, band⟩
      · simp [State.slotFreeForPark, running]
    · rw [if_neg asks]
      refine ⟨⟨h, rfl, rfl, movesOnly_of_counters rfl⟩, .inr ?_⟩
      simp [State.slotFreeForPark, job, running]

theorem FreshSlot.plan {s : State} (h : FreshSlot s) : KeepsFresh s s.plan := by
  by_cases dormant : s.planner.energy = .dormant
  · rw [State.plan, if_pos dormant, State.planPark]
    split
    next wanted =>
      obtain ⟨-, -, -, normal⟩ := parkWanted_iff.1 wanted
      have away (taken : s.engine.active ≠ none) : s.engine.port ≠ .reading := by
        refine h.calm.resolve_right fun park => ?_
        obtain ⟨a, job⟩ := Option.ne_none_iff_exists'.1 taken
        exact absurd ((normal a job).symm.trans ((park dormant).1 a job)) (by decide)
      obtain ⟨asked, slot⟩ := h.askHalt away
      refine asked.trans ?_
      unfold State.stagePark
      rcases slot with empty | full
      · have same : s.askHalt = s := by simp [State.askHalt, empty]
        rw [same]
        split
        · have cleared : s.clearForPark = s := by simp [State.clearForPark, empty]
          rw [cleared]
          refine ⟨⟨fun b hb => ?_, .inr fun _ => ⟨fun b hb => ?_, fun j hj => ?_⟩⟩, rfl, rfl,
            movesOnly_count (movesOnly_of_counters rfl) (by decide)⟩
          · exact absurd (hb.symm.trans empty) (by simp)
          · exact absurd (hb.symm.trans empty) (by simp)
          · cases hj
            rfl
        · exact ⟨h, rfl, rfl, movesOnly_of_counters rfl⟩
      · rw [if_neg (by simp [full])]
        exact ⟨asked.fresh, rfl, rfl, movesOnly_of_counters rfl⟩
    · exact ⟨h, rfl, rfl, movesOnly_of_counters rfl⟩
  · obtain ⟨only, moves⟩ := plan_awake dormant
    have engine := plan_awake_engine dormant
    have sense : s.plan.sense = s.sense := by simp
    have energy : s.plan.planner.energy = s.planner.energy := by simp
    refine ⟨⟨by rw [engine, sense]; exact h.jobs, .inr fun now => absurd (energy.symm.trans now) dormant⟩, by rw [engine],
      by rw [engine], movesOnly_mono (by decide) moves⟩

theorem FreshSlot.promote {s : State} {j : Job} (h : FreshSlot s) (staged : s.planner.staged = some j) :
    KeepsFresh s (s.promote j) := by
  refine ⟨⟨fun b hb => ?_, h.calm.imp_right fun park now => ⟨fun b hb => ?_, fun k hk => ?_⟩⟩, rfl, rfl,
    movesOnly_count (movesOnly_of_counters rfl) (by decide)⟩
  · cases hb
    exact ⟨rfl, rfl, rfl⟩
  · cases hb
    exact (park now).2 j staged
  · cases hk

theorem FreshSlot.promoteJobs {s : State} (h : FreshSlot s) : KeepsFresh s s.promoteJobs := by
  unfold State.promoteJobs
  split
  · exact ⟨h, rfl, rfl, movesOnly_of_counters rfl⟩
  next j staged =>
    split
    · exact (h.promote staged).trans (h.promote staged).fresh.plan
    · exact ⟨h, rfl, rfl, movesOnly_of_counters rfl⟩

theorem FreshSlot.planJobs {s : State} (h : FreshSlot s) : KeepsFresh s s.planJobs :=
  h.plan.trans h.plan.fresh.promoteJobs

/-! ### Abandonment (R133) -/

theorem mapJobLines_get (j : Job) (f : Nat → LineRecord → LineRecord) (ls : Vector LineRecord 10) (n : Fin 10) :
    (mapJobLines j f ls).get n = if j.first ≤ n.val ∧ n.val ≤ j.last then f n.val (ls.get n) else ls.get n := by
  simp [mapJobLines, Job.contains]

/-- A job abandoned with an empty slot to plan for (R116, R133). -/
theorem abandonActive_abandons {s : State} {a : ActiveJob}
    (calm : s.engine.port ≠ .reading ∨ (s.planner.energy = .dormant → ∀ j, s.planner.staged = some j → j.kind = .park)) :
    FreshSlot (s.abandonActive a) ∧
      (∀ n, (s.abandonActive a).engine.lines.get n = if a.job.first ≤ n.val ∧ n.val ≤ a.job.last then
        (s.engine.lines.get n).abandoned s.elapsed else s.engine.lines.get n) ∧
      (s.abandonActive a).engine.suspendedAt = none ∧
      CountedOf [.abandonments, .driveFaults] [.abandonments] s (s.abandonActive a) ∧
      MovesOnly (.abandonments :: freshCounters) s (s.abandonActive a) := by
  have dropped : FreshSlot (s.dropActive a) :=
    ⟨fun b hb => (by cases hb), calm.imp_right fun park now => ⟨fun b hb => (by cases hb), park now⟩⟩
  have kept := dropped.planJobs
  have counted : Counted [.abandonments] s (s.dropActive a) := counted_one rfl
  rw [State.abandonActive]
  refine ⟨kept.fresh, fun n => ?_, kept.suspendedAt, countedOf_movesOnly (countedOf_of_counted counted) kept.moves
    (by decide), movesOnly_trans (movesOnly_count (movesOnly_of_counters rfl) (by decide))
      (movesOnly_mono (by decide) kept.moves)⟩
  rw [kept.lines]
  exact mapJobLines_get _ _ _ n

/-- What a command of engine or sense unit touches, once its work `v` is done. -/
theorem jobsChanges {s v : State} (pending : v.pending = s.pending) (loader : v.loader = s.loader)
    (sheets : v.sheets = s.sheets) (table : v.table = s.table) (board : v.board = s.board) (sense : v.sense = s.sense)
    (tx : v.tx = s.tx) : OnlyChanges [.elapsed, .clock, .planner, .engine, .rx, .counters] s v.finish := by
  simp [onlyChanges_iff, pending, loader, sheets, table, board, sense, tx]

theorem servePort_port {v : State} (idle : v.engine.port = .idle) : v.servePort.engine.port ≠ .stopping := by
  unfold State.servePort
  rw [if_pos idle]
  dsimp only
  split
  · simp
  · split
    · simp [idle]
    · split_ifs <;> simp [idle]

/-- The run of STOP_SENT with a job on the glass (R134). -/
theorem stopSent_run {s : State} {dt : Nat} {a : ActiveJob} (started : s.started = true)
    (port : s.engine.port = .stopping) (job : s.engine.active = some a) : exec (.stopSent dt) s = .next
      ((State.abandonActive { (s.advance dt).releasePort with engine := { (s.advance dt).releasePort.engine with
        faulted := s.engine.faulted || 3 ≤ s.engine.faults } } a).finish) := by
  have run : exec (.stopSent dt) s = execStopSent dt s := rfl
  have started' : (s.advance dt).started = true := started
  have port' : (s.advance dt).engine.port = .stopping := port
  have job' : (s.advance dt).releasePort.engine.active = some a := job
  rw [run, execStopSent]
  simp only [State.whenStarted, if_pos started', if_pos port', State.endStop, job']
  rfl

/-- Settles O55: a fault declared, the stop sent, and the suspend limit reached. -/
theorem jobsAreAbandoned : Obligations.JobsAreAbandoned := by
  refine ⟨fun s started sound => ⟨fun u port deadline => ?_, fun dt a port job => ?_⟩,
    fun s a u started sound job suspended since park => ?_⟩
  · have run : exec .readyTimeout s = .next ((s.advance (u - s.elapsed)).declareFault) := by
      have ran : exec .readyTimeout s = execReadyTimeout s := rfl
      rw [ran, execReadyTimeout, onTimer_comesAt started deadline]
      exact congrArg Host.Outcome.next (if_pos port)
    refine ⟨_, run, ?_, advance_passes s _, rfl, counted_one rfl⟩
    simp [onlyChanges_iff, State.declareFault]
  · have run := stopSent_run (dt := dt) started port job
    obtain ⟨p, hp⟩ : ∃ p : State, p = { (s.advance dt).releasePort with engine := {
      (s.advance dt).releasePort.engine with faulted := s.engine.faulted || 3 ≤ s.engine.faults } } := ⟨_, rfl⟩
    have idle : p.engine.port = .idle := by rw [hp]; rfl
    have faults : p.engine.faults = s.engine.faults := by rw [hp]; rfl
    have before : p.engine.lines = s.engine.lines := by rw [hp]; rfl
    obtain ⟨-, lines, unsuspended, counted, -⟩ := abandonActive_abandons (s := p) (a := a)
      (.inl (by rw [idle]; decide))
    obtain ⟨settles, counters⟩ := jobsFinish (v := p.abandonActive a) started sound (by simp [hp])
      (by simp [hp]) (by simp [hp]) (by simp [hp])
    have free : (p.abandonActive a).engine.port = .idle := by simpa using idle
    have later : (p.abandonActive a).finish.elapsed = p.elapsed := by simp
    rw [← hp] at run
    refine ⟨_, run, ?_, ⟨by simp [hp], by simp [hp, advance_clock]⟩, settles, fun n => ?_, by simp [hp],
      by simp [faults], by simpa using unsuspended, ?_, ?_⟩
    · exact jobsChanges (by simp [hp]) (by simp [hp]) (by simp [hp]) (by simp [hp]) (by simp [hp]) (by simp [hp])
        (by simp [hp])
    · have shown : (p.abandonActive a).finish.engine.lines = (p.abandonActive a).engine.lines := by simp
      rw [shown, lines n, later, before]
      rfl
    · simpa [State.finish] using servePort_port free
    · exact countedOf_within (s := p) (ds := []) (by rw [hp]; exact movesOnly_of_counters rfl) (by decide) counted
        (movesOnly_of_counters (cs := []) counters) (by decide)
  · obtain ⟨-, lines, unsuspended, counted, -⟩ := abandonActive_abandons
      (s := s.advance (u + 1000 * s.loader.loaded.suspendLimit - s.elapsed)) (a := a)
      (.inr fun dormant => park (by simpa using dormant))
    have deadline : s.suspendDeadline = some (u + 1000 * s.loader.loaded.suspendLimit) := by
      rw [State.suspendDeadline, since]
      rfl
    have run : exec .suspendLimitExpiry s = .next (State.abandonActive
        (s.advance (u + 1000 * s.loader.loaded.suspendLimit - s.elapsed)) a).finish := by
      have ran : exec .suspendLimitExpiry s = execSuspendLimitExpiry s := rfl
      have job' : (s.advance (u + 1000 * s.loader.loaded.suspendLimit - s.elapsed)).engine.active = some a := job
      rw [ran, execSuspendLimitExpiry, onTimer_comesAt started deadline, State.endSuspension]
      simp only [job', if_pos suspended]
    obtain ⟨p, hp⟩ : ∃ p, p = s.advance (u + 1000 * s.loader.loaded.suspendLimit - s.elapsed) := ⟨_, rfl⟩
    obtain ⟨settles, counters⟩ := jobsFinish (v := p.abandonActive a) started sound (by simp [hp])
      (by simp [hp]) (by simp [hp]) (by simp [hp])
    rw [← hp] at run lines unsuspended counted
    refine ⟨_, run, ?_, ⟨by simp [hp], by simp [hp, advance_clock]⟩, settles, fun n => ?_, by simpa using unsuspended,
      by simp [hp], ?_⟩
    · exact jobsChanges (by simp [hp]) (by simp [hp]) (by simp [hp]) (by simp [hp]) (by simp [hp]) (by simp [hp])
        (by simp [hp])
    · have shown : (p.abandonActive a).finish.engine.lines = (p.abandonActive a).engine.lines := by simp
      have now : (p.abandonActive a).finish.elapsed = p.elapsed := by simp
      rw [shown, lines n, now, hp]
      rfl
    · have counted' : CountedOf [.abandonments] [.abandonments] p (p.abandonActive a) := fun k hk =>
        counted k (by revert k; decide)
      exact countedOf_within (s := p) (ds := []) (by rw [hp]; exact movesOnly_of_counters rfl) (by decide) counted'
        (movesOnly_of_counters (cs := []) counters) (by decide)

end Sys2Proof.Proofs
end

section
/-! PROOF. Temperature reads: the timer, the answer, and the read without one (O50, O51). -/

namespace Sys2Proof.Proofs

open Sys2Proof Sys2Proof.Machine Sys2Proof.Claims

/-- A read is asked for, and an IDLE port makes it at once (R136). -/
theorem requestRead_served (v : State) : v.requestRead.servePort.engine =
    if v.engine.port = .reading then v.engine
    else if v.engine.port = .idle then
      { v.engine with
        port := .reading, readRequest := false, readDeadline := some (v.elapsed + 20), commands := [.temperatureRead] }
    else { v.engine with readRequest := true } := by
  unfold State.requestRead
  by_cases reading : v.engine.port = .reading
  · rw [if_pos reading, if_pos reading, State.servePort, if_neg (by simp [reading])]
  · rw [if_neg reading, if_neg reading]
    by_cases idle : v.engine.port = .idle
    · rw [if_pos idle, State.servePort, if_pos idle, if_pos rfl]
    · rw [if_neg idle, State.servePort, if_neg idle]

/-- Settles O50: the timer set anew, and the read asked for. -/
theorem temperatureTimerAsksForARead : Obligations.TemperatureTimerAsksForARead := by
  intro s u started sound timer e
  obtain ⟨v, hv⟩ : ∃ v : State, v = { s.advance (u - s.elapsed) with sense := { s.sense with
    temperatureTimer := some (e + 1000 * s.loader.loaded.temperaturePeriod) } } := ⟨_, rfl⟩
  have run : exec .temperatureTimerExpiry s = .next v.requestRead.finish := by
    have ran : exec .temperatureTimerExpiry s = execTemperatureTimerExpiry s := rfl
    have now : s.elapsed + (u - s.elapsed) = e := advance_comesAt s u
    rw [ran, execTemperatureTimerExpiry, onTimer_comesAt started timer, hv, State.scheduleRead, State.after]
    simp [now]
  have elapsed : v.elapsed = e := by
    rw [hv]
    exact advance_comesAt s u
  have engine : v.engine = s.engine := by rw [hv]; rfl
  obtain ⟨settles, counters⟩ := jobsFinish (v := v.requestRead) started sound (by simp [hv]) (by simp [hv]) (by simp [hv])
    (by simp [hv])
  refine ⟨_, run, ?_, ⟨by simp [hv], by simp [hv, advance_clock]⟩, settles, by simp [hv], ?_⟩
  · simp [onlyChanges_iff, hv] at counters ⊢
    exact counters
  · have shown : v.requestRead.finish.engine = v.requestRead.servePort.engine := by simp [State.finish]
    rw [shown, requestRead_served, engine, elapsed]

/-! ### Bands (R145) -/

theorem plainRange_eq (b : Band) : plainRange b = b.range := by cases b <;> rfl

theorem bandOf_range {v : Int} (low : -128 ≤ v) (high : v ≤ 127) :
    ∃ r, plainRange (bandOf v) = some r ∧ r.1 ≤ v ∧ v ≤ r.2 := by
  unfold bandOf
  split_ifs with frozen b1 b2 b3 b4
  · exact ⟨_, rfl, low, frozen⟩
  · exact ⟨_, rfl, by dsimp only; omega, b1⟩
  · exact ⟨_, rfl, by dsimp only; omega, b2⟩
  · exact ⟨_, rfl, by dsimp only; omega, b3⟩
  · exact ⟨_, rfl, by dsimp only; omega, b4⟩
  · exact ⟨_, rfl, by dsimp only; omega, high⟩

/-- The judgement of a read (R145). -/
theorem judgeBand_judged (before : Band) (value : Byte) : JudgedBand before value.toInt (judgeBand before value.toInt) := by
  have low : -128 ≤ value.toInt := by have bound := BitVec.le_toInt value; simpa using bound
  have high : value.toInt ≤ 127 := by have bound := BitVec.toInt_lt (x := value); omega
  unfold JudgedBand judgeBand
  rw [plainRange_eq]
  cases range : before.range with
  | none => exact ⟨by simp, fun _ => bandOf_range low high⟩
  | some r =>
    obtain ⟨lo, hi⟩ := r
    dsimp only
    by_cases kept : lo - 1 ≤ value.toInt ∧ value.toInt ≤ hi + 1
    · rw [if_pos kept]
      exact ⟨fun _ => rfl, fun gone => absurd ⟨_, rfl, kept⟩ gone⟩
    · rw [if_neg kept]
      refine ⟨?_, fun _ => bandOf_range low high⟩
      rintro ⟨r, same, inside⟩
      cases same
      exact absurd inside kept

/-! ### The end of a read (R136, R144, R146) -/

/-- A band taken over: the planner may withdraw, plan and promote; the engine's read side stands (R108, R146). -/
theorem takeBand_takes (s : State) (u : Sense) : (s.takeBand u).sense = u ∧
    CountedOf [.temperatureRead, .bandChanged, .temperatureReadFailed]
      (if u.band = s.sense.band then [] else [.bandChanged]) s (s.takeBand u) := by
  unfold State.takeBand
  dsimp only
  split
  · exact ⟨rfl, countedOf_of_counted (counted_nil rfl)⟩
  · refine ⟨by simp, ?_⟩
    have banded : Counted [.bandChanged] s (State.count { s with sense := u } .bandChanged) := counted_one rfl
    exact countedOf_movesOnly (countedOf_movesOnly (countedOf_of_counted banded) (withdrawStaged_movesOnly _) (by decide))
      (planJobs_movesOnly _) (by decide)

@[simp] theorem takeBand_frame (s : State) (u : Sense) : (s.takeBand u).pending = s.pending ∧
    (s.takeBand u).elapsed = s.elapsed ∧ (s.takeBand u).loader = s.loader ∧ (s.takeBand u).clock = s.clock ∧
    (s.takeBand u).sheets = s.sheets ∧ (s.takeBand u).table = s.table ∧ (s.takeBand u).board = s.board ∧
    (s.takeBand u).engine.freshHold = s.engine.freshHold ∧ (s.takeBand u).engine.faults = s.engine.faults ∧
    (s.takeBand u).rx = s.rx ∧ (s.takeBand u).tx = s.tx := by
  unfold State.takeBand
  dsimp only
  split <;> simp

/-- Settles O51: the answer in time, the stray one, and the read that has failed. -/
theorem temperatureReadsEnd : Obligations.TemperatureReadsEnd := by
  intro s started sound
  refine ⟨fun dt value reading => ?_, fun dt value other => ?_, fun u reading deadline => ?_⟩
  · obtain ⟨p, hp⟩ : ∃ p, p = (s.advance dt).releasePort.count .temperatureRead := ⟨_, rfl⟩
    obtain ⟨q, hq⟩ : ∃ q, q = p.takeBand (s.sense.readSuccess value.toInt) := ⟨_, rfl⟩
    obtain ⟨v, hv⟩ : ∃ v : State, v = State.promoteJobs { q with engine := { q.engine with freshHold := false } } :=
      ⟨_, rfl⟩
    have run : exec (.temperatureAnswer dt value) s = .next v.finish := by
      have ran : exec (.temperatureAnswer dt value) s = execTemperatureAnswer dt value s := rfl
      have started' : (s.advance dt).started = true := started
      have reading' : (s.advance dt).engine.port = .reading := reading
      rw [ran, execTemperatureAnswer, hv, hq, hp]
      simp only [State.whenStarted, if_pos started', State.takeAnswer, if_pos reading']
      rfl
    obtain ⟨taken, banded⟩ := takeBand_takes p (s.sense.readSuccess value.toInt)
    rw [← hq] at taken banded
    have psense : p.sense = s.sense := by simp [hp]
    have sense : v.sense = s.sense.readSuccess value.toInt := by simp [hv, taken]
    have promoted : MovesOnly (.jobPromoted :: planCounters) q v := by
      rw [hv]
      exact promoteJobs_movesOnly _
    obtain ⟨settles, counters⟩ := jobsFinish (v := v) started sound (by simp [hv, hq, hp]) (by simp [hv, hq, hp])
      (by simp [hv, hq, hp]) (by simp [hv, hq, hp])
    refine ⟨v.finish, judgeBand s.sense.band value.toInt, run, ?_, ⟨by simp [hv, hq, hp],
      by simp [hv, hq, hp, advance_clock]⟩, settles, judgeBand_judged _ _, ?_, by simp [hv], by simp [hv, hq, hp]; rfl, ?_⟩
    · simp [onlyChanges_iff, hv, hq, hp]
    · simp [sense, Sense.readSuccess]
    · have first : Counted [.temperatureRead] s p := by rw [hp]; exact counted_one rfl
      rw [psense] at banded
      have both := countedOf_movesOnly (countedOf_movesOnly (countedOf_append (ks := [.temperatureRead, .bandChanged])
        (countedOf_of_counted first) (fun k hk => banded k (by revert k; decide))) promoted (by decide))
        (movesOnly_of_counters (cs := []) counters) (by decide)
      exact both
  · have run : exec (.temperatureAnswer dt value) s = .next ((s.advance dt).count .strayAnswer) := by
      have ran : exec (.temperatureAnswer dt value) s = execTemperatureAnswer dt value s := rfl
      have started' : (s.advance dt).started = true := started
      have other' : ¬ (s.advance dt).engine.port = .reading := other
      rw [ran, execTemperatureAnswer]
      simp only [State.whenStarted, if_pos started', State.takeAnswer, if_neg other']
    refine ⟨_, run, by simp [onlyChanges_iff], ⟨by simp, by simp [advance_clock]⟩, counted_one rfl⟩
  · obtain ⟨p, hp⟩ : ∃ p, p = (s.advance (u - s.elapsed)).releasePort.count .temperatureReadFailed := ⟨_, rfl⟩
    obtain ⟨v, hv⟩ : ∃ v, v = p.takeBand s.sense.readFailure := ⟨_, rfl⟩
    have run : exec .readTimeout s = .next v.finish := by
      have ran : exec .readTimeout s = execReadTimeout s := rfl
      have reading' : (s.advance (u - s.elapsed)).engine.port = .reading := reading
      rw [ran, execReadTimeout, onTimer_comesAt started deadline, if_pos reading', hv, hp]
      rfl
    obtain ⟨taken, banded⟩ := takeBand_takes p s.sense.readFailure
    rw [← hv] at taken banded
    obtain ⟨settles, counters⟩ := jobsFinish (v := v) started sound (by simp [hv, hp]) (by simp [hv, hp])
      (by simp [hv, hp]) (by simp [hv, hp])
    refine ⟨v.finish, run, by simp [onlyChanges_iff, hv, hp], ⟨by simp [hv, hp], by simp [hv, hp, advance_clock]⟩,
      settles, by simp [taken, Sense.readFailure], by simp [hv, hp]; rfl, by simp [hv, hp]; rfl, ?_⟩
    have first : Counted [.temperatureReadFailed] s p := by rw [hp]; exact counted_one rfl
    have both := countedOf_movesOnly (countedOf_append (ks := [.temperatureReadFailed]) (countedOf_of_counted first)
      (fun k hk => banded k (by revert k; decide))) (movesOnly_of_counters (cs := []) counters) (by decide)
    intro k hk room
    rw [both k hk room, List.mem_singleton.1 hk]
    split <;> rfl

end Sys2Proof.Proofs
end

section
/-! PROOF. What a stopped job gives way to, and the boundaries of a job (O49, O52, O53, O54). -/

namespace Sys2Proof.Proofs

open Sys2Proof Sys2Proof.Machine Sys2Proof.Claims

/-! ### The PARK job (R111 to R113) -/

theorem parkPossible_iff {s : State} : s.parkPossible = true ↔ ParkPossible s s.planner.available := by
  simp only [State.parkPossible, Bool.and_eq_true, Bool.not_eq_true', decide_eq_true_eq, and_assoc]
  rfl

/-- The content of the PARK job (R113). -/
theorem parkContent_eq {c : Loaded} (standby : c.standby.length = 32) :
    parkContent c = c.standby :: List.replicate 8 (List.replicate 32 32#8) := by
  rw [parkContent, fit_of_length standby]
  rfl

theorem remaining_whole (j : Job) (begun : j.phaseIndex = 0) : j.remaining = j.cost := by
  rw [Job.remaining, remainingOf, begun]
  cases j.mode <;> simp only [Mode.phases] <;> omega

/-- The PARK job staged in an empty slot (R112). -/
def parkStaged (s : State) : State := s.stage .park 1 9 .clearing s.parkCost

/-- The PARK job staged in an empty slot and promoted at once (R112, R122). -/
def parkPromoted (s : State) : State := State.count
  { parkStaged s with
    engine := { s.engine with active := some (parkActive s) }
    planner := { (parkStaged s).planner with staged := none } }
  .jobPromoted

/-- In DORMANT there is nothing to plan beside a PARK job on the glass (R111). -/
theorem plan_parked {v : State} {a : ActiveJob} (job : v.engine.active = some a) (park : a.job.kind = .park)
    (dormant : v.planner.energy = .dormant) : v.plan = v := by
  rw [State.plan, if_pos dormant, State.planPark, if_neg]
  intro wanted
  obtain ⟨-, -, -, normal⟩ := parkWanted_iff.1 wanted
  exact absurd (park.symm.trans (normal a job)) (by decide)

/-- A staged PARK job is promoted at once, but for a fresh-band hold, where its conditions hold (R112, R120). -/
theorem parkStaged_promotes {s : State} (dormant : s.planner.energy = .dormant) (empty : s.engine.active = none) (possible : ParkPossible s s.planner.available)
    (standby : s.loader.loaded.standby.length = 32) : (parkStaged s).promoteJobs =
      if s.engine.freshHold = true then parkStaged s else parkPromoted s := by
  obtain ⟨band, sound, high, covered⟩ := possible
  have staged : (parkStaged s).planner.staged = some (parkJob s) := rfl
  have ready : (parkStaged s).promotable (parkJob s) = !s.engine.freshHold := by
    have ends : (parkStaged s).energyCovers (parkJob s) = true := by
      have left : (parkJob s).remaining = (parkJob s).cost := remaining_whole _ rfl
      have park : (parkJob s).kind = .park := rfl
      simp only [State.energyCovers, park, left, decide_eq_true_eq]
      exact covered
    have lines : (parkStaged s).linesReady (parkJob s) = true := by simp [State.linesReady, parkJob]
    have active : (parkStaged s).engine = s.engine := rfl
    have sense : (parkStaged s).sense = s.sense := rfl
    rw [State.promotable, ends, lines, active, sense, empty, high, band, sound]
    simp
  have latched : (parkStaged s).latched (parkJob s) = parkActive s := by
    have content := parkContent_eq standby
    rw [parkActive, ← content]
    rfl
  rw [State.promoteJobs, staged]
  dsimp only
  rw [ready]
  cases hold : s.engine.freshHold with
  | true => rfl
  | false =>
    rw [if_pos (by rfl), if_neg (by decide)]
    have promoted : (parkStaged s).promote (parkJob s) = parkPromoted s := by
      rw [State.promote, latched]
      rfl
    rw [promoted]
    exact plan_parked (a := parkActive s) rfl rfl dormant

/-! ### A SUSPENDED job on the glass (R103, R111, R112) -/

theorem parkNow_iff {v : State} {a : ActiveJob} (job : v.engine.active = some a) (suspended : a.state = .suspended) :
    ParkNow v a.job ↔ v.parkWanted = true ∧
      (v.slotFreeForPark && v.parkPossible && v.planner.staged.isNone) = true := by
  have normal (k : JobKind) : k ≠ .park ↔ k = .normal := by cases k <;> simp
  have slot : v.slotFreeForPark = true ↔ a.job.kind = .normal := by
    unfold State.slotFreeForPark
    rw [job]
    simp [suspended]
  simp only [Bool.and_eq_true, slot, parkPossible_iff, Option.isNone_iff_eq_none, parkWanted_iff, job, Option.some.injEq,
    forall_eq', ParkNow]
  constructor
  · rintro ⟨energy, unparked, empty, kind, possible⟩
    exact ⟨⟨energy, unparked, by simp [empty], kind⟩, ⟨kind, possible⟩, empty⟩
  · rintro ⟨⟨energy, unparked, -, -⟩, ⟨kind, possible⟩, empty⟩
    exact ⟨energy, unparked, empty, kind, possible⟩

/-- A halt is asked for of a RUNNING job alone (R111). -/
theorem askHalt_suspended {v : State} {a : ActiveJob} (job : v.engine.active = some a) (suspended : a.state = .suspended) :
    v.askHalt = v := by
  unfold State.askHalt
  rw [job]
  exact if_neg (by simp [suspended])

/-- While the PARK job cannot take its place, planning in DORMANT does nothing beside a SUSPENDED job. -/
theorem plan_waits {v : State} {a : ActiveJob} (job : v.engine.active = some a) (suspended : a.state = .suspended)
    (dormant : v.planner.energy = .dormant) (waits : ¬ ParkNow v a.job) : v.plan = v := by
  rw [State.plan, if_pos dormant, State.planPark]
  split
  next wanted =>
    rw [askHalt_suspended job suspended, State.stagePark, if_neg]
    exact fun free => waits ((parkNow_iff job suspended).2 ⟨wanted, free⟩)
  · rfl

/-- Planning beside a SUSPENDED job whose place the PARK job does not take is the planner's alone. -/
theorem planJobs_waits {v : State} {a : ActiveJob} (job : v.engine.active = some a) (suspended : a.state = .suspended)
    (waits : ¬ ParkNow v a.job) : v.planJobs = v.plan ∧ v.plan.engine = v.engine ∧
      v.plan.planner.halt = v.planner.halt ∧ MovesOnly bandCounters v v.plan := by
  have kept : v.plan.engine = v.engine ∧ v.plan.planner.halt = v.planner.halt ∧ MovesOnly bandCounters v v.plan := by
    by_cases dormant : v.planner.energy = .dormant
    · rw [plan_waits job suspended dormant waits]
      exact ⟨rfl, rfl, movesOnly_of_counters rfl⟩
    · have halt := congrArg (fun s => s.planner.halt) (plan_awake dormant).1
      exact ⟨plan_awake_engine dormant, halt, (plan_awake dormant).2⟩
  refine ⟨promoteJobs_blocked (.inl ?_), kept⟩
  rw [kept.1, job]
  exact Option.some_ne_none a

/-- The PARK job takes a SUSPENDED job's place (R112). -/
theorem planJobs_parks {v : State} {a : ActiveJob} (job : v.engine.active = some a) (suspended : a.state = .suspended)
    (now : ParkNow v a.job) (standby : v.loader.loaded.standby.length = 32) : v.planJobs =
      if v.engine.freshHold = true then parkStaged (v.dropActive a) else parkPromoted (v.dropActive a) := by
  obtain ⟨dormant, -, -, -, possible⟩ := id now
  obtain ⟨wanted, free⟩ := (parkNow_iff job suspended).1 now
  have staged : v.plan = parkStaged (v.dropActive a) := by
    rw [State.plan, if_pos dormant, State.planPark, if_pos wanted, askHalt_suspended job suspended, State.stagePark,
      if_pos free, State.clearForPark, job]
    rfl
  rw [State.planJobs, staged]
  exact parkStaged_promotes (s := v.dropActive a) dormant rfl possible standby

/-- The lines of a job dropped (R133). -/
theorem dropActive_lines (v : State) (a : ActiveJob) (n : Fin 10) : (v.dropActive a).engine.lines.get n =
    if a.job.first ≤ n.val ∧ n.val ≤ a.job.last then (v.engine.lines.get n).abandoned v.elapsed
    else v.engine.lines.get n := mapJobLines_get _ _ _ n

/-! ### A job stopped at a boundary (R130) -/

/-- What a stop at a boundary comes to, from the state `u` in which the port has been released. -/
theorem stopped_of {s u : State} {a a' : ActiveJob} {cs : List Counter} (started : s.started = true) (sound : s.RadioSound)
    (engine : u.engine = { s.engine.release with active := some a' }) (planner : u.planner = s.planner)
    (loader : u.loader = s.loader) (sense : u.sense = s.sense) (rx : u.rx = s.rx) (tx : u.tx = s.tx)
    (later : s.elapsed ≤ u.elapsed)
    (counted : CountedOf [.phasesDriven, .suspensions, .abandonments, .parkStaged, .jobPromoted] cs s u) :
    RxSettles s.rx.queue s (u.suspendReported a).finish ∧ Stopped a cs s (u.suspendReported a).finish := by
  obtain ⟨v, hv⟩ : ∃ v, v = u.suspendActive a := ⟨_, rfl⟩
  have job : v.engine.active = some { a with state := .suspended, loaded := false } := by rw [hv]; rfl
  have vengine : v.engine = { s.engine.release with
      active := some { a with state := .suspended, loaded := false }, suspendedAt := some u.elapsed } := by
    rw [hv, State.suspendActive]
    simp [engine]
  have vplanner : v.planner = s.planner := by rw [hv]; exact planner
  have vloader : v.loader = s.loader := by rw [hv]; exact loader
  have vsense : v.sense = s.sense := by rw [hv]; exact sense
  have vcounts : CountedOf [.phasesDriven, .suspensions, .abandonments, .parkStaged, .jobPromoted] (cs ++ [.suspensions])
      s v := by
    rw [hv]
    exact countedOf_trans counted (counted_one rfl)
  have same : ParkNow v a.job ↔ ParkNow s a.job := by
    have faulted : v.engine.faulted = s.engine.faulted := by rw [vengine]; rfl
    simp only [ParkNow, ParkPossible, vplanner, vloader, vsense, faulted]
  have report : u.suspendReported a = v.planJobs := by rw [hv]; rfl
  rw [report]
  obtain ⟨settles, counters⟩ := jobsFinish (v := v.planJobs) started sound (by simp [vloader])
    (by simp [hv, State.suspendActive, rx]) (by simp [hv, State.suspendActive, tx])
    (by simpa [hv, State.suspendActive] using later)
  have now : v.planJobs.finish.elapsed = u.elapsed := by simp [hv, State.suspendActive]
  have shown : v.planJobs.finish.engine = v.planJobs.servePort.engine := by simp [State.finish]
  have planned : v.planJobs.finish.planner = v.planJobs.planner := by simp
  have lines : v.planJobs.finish.engine.lines = v.planJobs.engine.lines := by simp
  refine ⟨settles, fun waits => ?_, fun takes standby => ?_⟩
  · obtain ⟨plan, kept, -, moves⟩ := planJobs_waits job rfl (mt same.1 waits)
    refine ⟨?_, countedOf_movesOnly (countedOf_movesOnly vcounts (plan ▸ moves) (by decide))
      (movesOnly_of_counters (cs := []) counters) (by decide)⟩
    have free : v.planJobs.engine = Engine.release { s.engine with
        active := some { a with state := .suspended, loaded := false }, suspendedAt := some u.elapsed } := by
      rw [plan, kept, vengine]
      rfl
    have served := servePort_served free
    rw [shown, served, now]
    simp [hv, State.suspendActive, loader]
  · have parks := planJobs_parks job rfl (same.2 takes) (by rw [vloader]; exact standby)
    have hold : v.engine.freshHold = s.engine.freshHold := by rw [vengine]; rfl
    obtain ⟨w, hw⟩ : ∃ w, w = v.dropActive { a with state := .suspended, loaded := false } := ⟨_, rfl⟩
    rw [hold, ← hw] at parks
    have wcounts := countedOf_trans vcounts (show Counted [.abandonments] v w by rw [hw]; exact counted_one rfl)
    have wengine : w.engine = { s.engine.release with lines := w.engine.lines, active := none, suspendedAt := none } := by
      rw [hw, State.dropActive]
      simp [vengine]
    have wplanner : w.planner = { s.planner with halt := clearHalt s.planner.halt a.job } := by
      rw [hw, State.dropActive]
      simp [vplanner]
    have abandoned (n : Fin 10) : w.engine.lines.get n = if a.job.first ≤ n.val ∧ n.val ≤ a.job.last then
        (s.engine.lines.get n).abandoned u.elapsed else s.engine.lines.get n := by
      have each := dropActive_lines v { a with state := .suspended, loaded := false } n
      rw [← hw, vengine] at each
      rw [each, hv]
      rfl
    have active : parkActive w = parkActive s := by
      simp [parkActive, parkJob, hw, State.dropActive, vloader, vplanner, vsense]
    have theJob : parkJob w = parkJob s := by
      simp [parkJob, hw, State.dropActive, vloader, vplanner, vsense]
    have ends (e : Engine) (free : v.planJobs.engine = e.release) :
        v.planJobs.finish.engine = served s.loader.loaded v.planJobs.finish.elapsed e := by
      have serves := servePort_served free
      rw [shown, serves, now]
      simp [hv, State.suspendActive, loader]
    have total {ds : List Counter} (own : Counted ds w v.planJobs) :=
      countedOf_movesOnly (countedOf_trans wcounts own) (movesOnly_of_counters (cs := []) counters) (by decide)
    have kept : v.planJobs.engine.lines = w.engine.lines := by
      rw [parks]
      split <;> rfl
    refine ⟨fun n => ?_, ends _ ?_, ?_, ?_⟩
    · rw [lines, kept, abandoned n, now]
      rfl
    · rw [lines, kept, parks]
      split
      · exact wengine
      · rw [← active]
        exact congrArg (fun e : Engine => { e with active := some (parkActive w) }) wengine
    · rw [planned, parks]
      split
      · rw [← theJob]
        exact congrArg (fun p : Planner => { p with staged := some (parkJob w), nextJob := p.nextJob + 1#8 }) wplanner
      · exact congrArg (fun p : Planner => { p with staged := none, nextJob := p.nextJob + 1#8 }) wplanner
    · have staged : Counted [.parkStaged] w (parkStaged w) := counted_one rfl
      cases fresh : s.engine.freshHold with
      | true =>
        rw [fresh, if_pos rfl] at parks
        simpa using total (parks ▸ staged)
      | false =>
        rw [fresh, if_neg (by decide)] at parks
        have promoted : Counted [.parkStaged, .jobPromoted] w (parkPromoted w) := counted_of _ staged rfl
        simpa using total (parks ▸ promoted)

end Sys2Proof.Proofs
end

section
/-! PROOF. The end of a load step, and READY (O52, O53, O54). -/

namespace Sys2Proof.Proofs

open Sys2Proof Sys2Proof.Machine Sys2Proof.Claims

/-! ### The boundaries of a job (R127, R130) -/

theorem stops_iff {s : State} {j : Job} : (s.sense.storeLow || s.halted j) = true ↔ Stops s j := by
  simp [Stops, State.halted]

/-- The state at a boundary: the port released, the job `a` taken over. -/
def atEdge (s : State) (dt : Nat) (a : ActiveJob) : State := (s.advance dt).releasePort.withActive a

theorem atEdge_engine (s : State) (dt : Nat) (a : ActiveJob) :
    (atEdge s dt a).engine = Engine.release { s.engine with active := some a } := rfl

@[simp] theorem atEdge_frame (s : State) (dt : Nat) (a : ActiveJob) : (atEdge s dt a).pending = s.pending ∧
    (atEdge s dt a).elapsed = s.elapsed + dt ∧ (atEdge s dt a).loader = s.loader ∧
    (atEdge s dt a).clock = clockAfter s.clock dt ∧ (atEdge s dt a).sheets = s.sheets ∧ (atEdge s dt a).table = s.table ∧
    (atEdge s dt a).board = s.board ∧ (atEdge s dt a).planner = s.planner ∧ (atEdge s dt a).sense = s.sense ∧
    (atEdge s dt a).rx = s.rx ∧ (atEdge s dt a).tx = s.tx ∧ (atEdge s dt a).counters = s.counters :=
  ⟨rfl, rfl, rfl, rfl, rfl, rfl, rfl, rfl, rfl, rfl, rfl, rfl⟩

theorem loadStepEnd_run {s : State} {dt : Nat} {a : ActiveJob} (started : s.started = true)
    (port : s.engine.port = .loading) (job : s.engine.active = some a) : exec (.loadStepEnd dt) s = .next
      ((atEdge s dt { a with loaded := true }).atBoundary { a with loaded := true }).finish := by
  have run : exec (.loadStepEnd dt) s = execLoadStepEnd dt s := rfl
  have started' : (s.advance dt).started = true := started
  have port' : (s.advance dt).engine.port = .loading := port
  have job' : (s.advance dt).engine.active = some a := job
  rw [run, execLoadStepEnd]
  simp only [State.whenStarted, if_pos started', if_pos port', State.endLoad, job']
  rfl

/-- A job goes on with what the port has waiting (R123). -/
theorem goesOn {s v : State} {a : ActiveJob} (engine : v.engine = Engine.release { s.engine with active := some a })
    (loader : v.loader = s.loader) :
    v.finish.engine = served s.loader.loaded v.finish.elapsed { s.engine with active := some a } := by
  have shown : v.finish.engine = v.servePort.engine := by simp [State.finish]
  have serves := servePort_served engine
  rw [shown, serves, loader]
  simp

/-- Settles O52: the job goes on, or stops at the boundary. -/
theorem loadStepsEnd : Obligations.LoadStepsEnd := by
  intro s dt a started sound port job running
  have run := loadStepEnd_run (dt := dt) started port job
  obtain ⟨u, hu⟩ : ∃ u, u = atEdge s dt { a with loaded := true } := ⟨_, rfl⟩
  have boundary : (u.sense.storeLow || u.halted a.job) = true ↔ Stops s a.job := by
    rw [stops_iff]
    simp [hu, Stops]
  rw [← hu, State.atBoundary] at run
  refine ⟨fun on => ?_, fun stop => ?_⟩
  · rw [if_neg (mt boundary.1 on)] at run
    obtain ⟨settles, counters⟩ := jobsFinish (v := u) started sound (by simp [hu]) (by simp [hu]) (by simp [hu])
      (by simp [hu])
    refine ⟨_, run, ?_, ⟨by simp [hu], by simp [hu]⟩, settles, goesOn (by rw [hu]; rfl) (by simp [hu])⟩
    have still : u.finish.counters = s.counters := by rw [counters, hu]; rfl
    rw [hu] at still ⊢
    simp [onlyChanges_iff, still]
  · rw [if_pos (boundary.2 stop)] at run
    obtain ⟨settles, stopped⟩ := stopped_of (s := s) (u := u) (a := { a with loaded := true }) (cs := []) started sound
      (by rw [hu]; rfl) (by simp [hu]) (by simp [hu]) (by simp [hu]) (by simp [hu]) (by simp [hu]) (by simp [hu])
      (countedOf_of_counted (counted_nil (by simp [hu])))
    refine ⟨_, run, ?_, ⟨by simp [hu], by simp [hu]⟩, settles, stopped⟩
    exact jobsChanges (by simp [hu]) (by simp [hu]) (by simp [hu]) (by simp [hu]) (by simp [hu]) (by simp [hu])
      (by simp [hu])

/-! ### READY (R124, R127) -/

/-- A job one phase further, as the claims write it. -/
theorem phaseDone_eq (a : ActiveJob) :
    a.phaseDone = { a with job := { a.job with phaseIndex := a.job.phaseIndex + 1 } } := rfl

/-- The end of a phase, counted, at the boundary of the job `a`. -/
def phaseEdge (s : State) (dt : Nat) (a : ActiveJob) : State := (atEdge s dt a.phaseDone).count .phasesDriven

theorem ready_run {s : State} {dt : Nat} {first : Bool} {a : ActiveJob} (started : s.started = true)
    (port : s.engine.port = .phase) (job : s.engine.active = some a) : exec (.ready dt first) s = .next
      ((phaseEdge s dt a).afterPhase a.phaseDone first).finish := by
  have run : exec (.ready dt first) s = execReady dt first s := rfl
  have started' : (s.advance dt).started = true := started
  have port' : (s.advance dt).engine.port = .phase := port
  have job' : (s.advance dt).engine.active = some a := job
  rw [run, execReady]
  simp only [State.whenStarted, if_pos started', State.takeReady, if_pos port', State.endPhase, job']
  rfl

theorem phases_if (m : Mode) : m.phases = if m = .clearing then 10 else 4 := by cases m <;> rfl

/-- Settles O53: the stray READY, and the phase's end with phases left. -/
theorem readyEndsThePhase : Obligations.ReadyEndsThePhase := by
  intro s dt first started sound
  refine ⟨fun other => ?_, fun a port job running loaded left => ?_⟩
  · have run : exec (.ready dt first) s = .next ((s.advance dt).count .strayReady) := by
      have ran : exec (.ready dt first) s = execReady dt first s := rfl
      have started' : (s.advance dt).started = true := started
      have other' : ¬ (s.advance dt).engine.port = .phase := other
      rw [ran, execReady]
      simp only [State.whenStarted, if_pos started', State.takeReady, if_neg other']
    exact ⟨_, run, by simp [onlyChanges_iff], ⟨by simp, by simp [advance_clock]⟩, counted_one rfl⟩
  · have run := ready_run (dt := dt) (first := first) started port job
    have more : ¬ a.phaseDone.job.mode.phases ≤ a.phaseDone.job.phaseIndex := by
      rw [phases_if]
      exact Nat.not_le.2 left
    obtain ⟨u, hu⟩ : ∃ u, u = phaseEdge s dt a := ⟨_, rfl⟩
    have boundary : (u.sense.storeLow || u.halted a.phaseDone.job) = true ↔ Stops s a.job := by
      rw [stops_iff]
      simp [hu, phaseEdge, Stops, phaseDone_eq]
    have driven : Counted [.phasesDriven] s u := by
      rw [hu]
      exact counted_one rfl
    rw [← hu, State.afterPhase, if_neg more, State.atBoundary] at run
    refine ⟨fun on => ?_, fun stop => ?_⟩
    · rw [if_neg (mt boundary.1 on)] at run
      obtain ⟨settles, counters⟩ := jobsFinish (v := u) started sound (by simp [hu, phaseEdge]) (by simp [hu, phaseEdge])
        (by simp [hu, phaseEdge]) (by simp [hu, phaseEdge])
      refine ⟨_, run, ?_, ⟨by simp [hu, phaseEdge], by simp [hu, phaseEdge]⟩, settles,
        goesOn (by rw [hu]; rfl) (by simp [hu, phaseEdge]), ?_⟩
      · simp [onlyChanges_iff, hu, phaseEdge]
      · exact counted_congr driven rfl counters
    · rw [if_pos (boundary.2 stop)] at run
      obtain ⟨settles, stopped⟩ := stopped_of (s := s) (u := u) (a := a.phaseDone) (cs := [.phasesDriven]) started sound
        (by rw [hu]; rfl) (by simp [hu, phaseEdge]) (by simp [hu, phaseEdge]) (by simp [hu, phaseEdge])
        (by simp [hu, phaseEdge]) (by simp [hu, phaseEdge]) (by simp [hu, phaseEdge]) (countedOf_of_counted driven)
      refine ⟨_, run, ?_, ⟨by simp [hu, phaseEdge], by simp [hu, phaseEdge]⟩, settles, stopped⟩
      exact jobsChanges (by simp [hu, phaseEdge]) (by simp [hu, phaseEdge]) (by simp [hu, phaseEdge])
        (by simp [hu, phaseEdge]) (by simp [hu, phaseEdge]) (by simp [hu, phaseEdge]) (by simp [hu, phaseEdge])

/-! ### The last phase (R110, R114, R129) -/

theorem FreshSlot.planWithout {s : State} {j : Job} (h : FreshSlot s) : KeepsFresh s (s.planWithout j) := by
  unfold State.planWithout
  split
  · exact h.plan
  next awake =>
    have hidden : (s.hideLines j).planner.energy ≠ .dormant := awake
    refine ⟨⟨h.jobs, .inr fun dormant => absurd ?_ awake⟩, rfl, rfl, fun k hk => ?_⟩
    · simpa using dormant
    · exact (plan_awake hidden).2 k fun listed => hk ((by decide : bandCounters ⊆ freshCounters) listed)

@[simp] theorem planWithout_keeps (s : State) (j : Job) : (s.planWithout j).planner.sweep = s.planner.sweep ∧
    (s.planWithout j).planner.boardParked = s.planner.boardParked ∧
    (s.planWithout j).engine.faults = s.engine.faults := by
  unfold State.planWithout
  split
  · simp
  · refine ⟨rfl, ?_, rfl⟩
    dsimp only
    simp [State.hideLines]

/-- What a completion leaves, whichever comes first, its report or the promotion (R110, R114, R116, R129). -/
theorem completeActive_completes {u : State} {a : ActiveJob} {first : Bool} (port : u.engine.port ≠ .reading) :
    KeepsFresh (u.recordCompletion a) (u.completeActive a first) ∧
      (u.completeActive a first).engine.faults = 0 ∧
      (u.completeActive a first).planner.sweep = sweepAfter a.job u.planner.sweep ∧
      (u.completeActive a first).planner.boardParked = parkedAfter a.job u.planner.boardParked := by
  obtain ⟨d, hd⟩ : ∃ d, d = u.recordCompletion a := ⟨_, rfl⟩
  have begun : FreshSlot d := by
    rw [hd]
    exact ⟨fun b hb => (by cases hb), .inl port⟩
  have faults : d.engine.faults = 0 := by rw [hd]; rfl
  have sweep : d.planner.sweep = u.planner.sweep := by rw [hd]; rfl
  have parked : d.planner.boardParked = u.planner.boardParked := by rw [hd]; rfl
  have report {v : State} (h : FreshSlot v) : KeepsFresh v (v.reportCompletion a.job) :=
    ⟨⟨h.jobs, h.calm⟩, rfl, rfl, movesOnly_of_counters rfl⟩
  have reported : KeepsFresh d (d.reportCompletion a.job).planJobs ∧
      (d.reportCompletion a.job).planJobs.engine.faults = 0 ∧
      (d.reportCompletion a.job).planJobs.planner.sweep = sweepAfter a.job u.planner.sweep ∧
      (d.reportCompletion a.job).planJobs.planner.boardParked = parkedAfter a.job u.planner.boardParked :=
    ⟨(report begun).trans (report begun).fresh.planJobs, by simp [faults], by simp [State.reportCompletion, sweep],
      by simp [State.reportCompletion, parked]⟩
  unfold State.completeActive
  dsimp only
  rw [← hd]
  split
  · exact reported
  next j staged =>
    split
    · have promoted := begun.promote staged
      have planned := promoted.trans (promoted.fresh.planWithout (j := a.job))
      have told := planned.trans (report planned.fresh)
      refine ⟨told.trans told.fresh.plan, by simp [faults], ?_, ?_⟩
      · simp [State.reportCompletion, State.promote, sweep]
      · simp [State.reportCompletion, State.promote, parked]
    · exact reported

/-- Settles O54: the records at the completion, and what follows it. -/
theorem readyCompletesTheJob : Obligations.ReadyCompletesTheJob := by
  intro s dt first a started sound port job last
  have run := ready_run (dt := dt) (first := first) started port job
  have done : a.phaseDone.job.mode.phases ≤ a.phaseDone.job.phaseIndex := by
    rw [phases_if]
    exact last.ge
  obtain ⟨u, hu⟩ : ∃ u, u = phaseEdge s dt a := ⟨_, rfl⟩
  rw [← hu, State.afterPhase, if_pos done] at run
  have released : u.engine.port ≠ .reading := by rw [hu]; exact fun reading => by cases reading
  obtain ⟨kept, faults, sweep, parked⟩ := completeActive_completes (u := u) (a := a.phaseDone) (first := first) released
  obtain ⟨v, hv⟩ : ∃ v, v = u.completeActive a.phaseDone first := ⟨_, rfl⟩
  obtain ⟨settles, counters⟩ := jobsFinish (v := v) started sound (by simp [hv, hu, phaseEdge])
    (by simp [hv, hu, phaseEdge]) (by simp [hv, hu, phaseEdge]) (by simp [hv, hu, phaseEdge])
  rw [← hv] at run kept faults sweep parked
  have now : v.finish.elapsed = u.elapsed := by simp [hv]
  have shown : v.finish.engine.lines = v.engine.lines := by simp
  refine ⟨_, run, ?_, ⟨by simp [hv, hu, phaseEdge], by simp [hv, hu, phaseEdge]⟩, settles, fun n => ?_, by simpa using faults,
    ?_, fun b hb => ?_, fun n => ?_, ?_, ?_, ?_⟩
  · exact jobsChanges (by simp [hv, hu, phaseEdge]) (by simp [hv, hu, phaseEdge]) (by simp [hv, hu, phaseEdge])
      (by simp [hv, hu, phaseEdge]) (by simp [hv, hu, phaseEdge]) (by simp [hv, hu, phaseEdge])
      (by simp [hv, hu, phaseEdge])
  · have before : u.engine.lines = s.engine.lines := by rw [hu]; rfl
    have target : s.board.targets.toList.getD n.val [] = s.board.targets.get n := by simp [Vector.get_eq_getElem]
    have each : v.engine.lines.get n = if a.job.first ≤ n.val ∧ n.val ≤ a.job.last then
        (s.engine.lines.get n).completed a.job.mode (a.contentOf n) (s.board.targets.get n) u.elapsed
        else s.engine.lines.get n := by
      rw [kept.lines, ← before, ← target]
      exact (mapJobLines_get a.phaseDone.job _ _ n).trans (by rw [hu]; rfl)
    rw [shown, each, now]
    cases a.job.mode <;> rfl
  · have none : (u.recordCompletion a.phaseDone).engine.suspendedAt = none := rfl
    simpa [none] using kept.suspendedAt
  · obtain ⟨running, begun, band⟩ := kept.fresh.jobs b (by simpa using hb)
    refine ⟨begun, running, band.trans ?_⟩
    simp [hv, hu, phaseEdge]
  · have flags : v.finish.planner.sweep = v.planner.sweep := by simp
    have before : u.planner.sweep = s.planner.sweep := by rw [hu]; rfl
    rw [flags, sweep, before, sweepAfter, show a.phaseDone.job.mode = a.job.mode from rfl]
    cases mode : a.job.mode with
    | partialMode => simp
    | clearing =>
      have within : a.phaseDone.job.contains n = (decide (a.job.first ≤ n.val) && decide (n.val ≤ a.job.last)) := rfl
      simp only [mapPlaces_get, within]
      cases s.planner.sweep.get n <;> simp
  · have flag : v.finish.planner.boardParked = v.planner.boardParked := by simp
    have before : u.planner.boardParked = s.planner.boardParked := by rw [hu]; rfl
    rw [flag, parked, before, parkedAfter, show a.phaseDone.job.kind = a.job.kind from rfl,
      show a.phaseDone.job.last = a.job.last from rfl]
    cases a.job.kind <;> rfl
  · have spent : (u.recordCompletion a.phaseDone).counter .energySpent =
        min (s.counter .energySpent + a.job.cost) 4294967295 := by
      have own : completionCounter a.phaseDone.job ≠ .energySpent := by
        unfold completionCounter
        split <;> decide
      have before : u.counter .energySpent = s.counter .energySpent := by
        rw [hu, phaseEdge, State.count_counter, if_neg (by decide)]
        rfl
      rw [State.recordCompletion, State.count_counter, if_neg own.symm, State.countMany_counter, if_pos rfl, ← before]
      rfl
    rw [State.counter_congr counters, kept.moves _ (by decide), spent]
  · have own : completionCounter a.phaseDone.job =
        if a.job.kind = .park then .parkJobs else if a.job.mode = .clearing then .clearingJobs else .partialJobs := by
      rw [completionCounter, show a.phaseDone.job.kind = a.job.kind from rfl,
        show a.phaseDone.job.mode = a.job.mode from rfl]
      cases a.job.kind <;> cases a.job.mode <;> rfl
    have driven : Counted [.phasesDriven] s u := by
      rw [hu]
      exact counted_one rfl
    have spent : CountedOf [.phasesDriven, .partialJobs, .clearingJobs, .parkJobs] [.phasesDriven] s
        (u.countMany .energySpent a.job.cost) :=
      countedOf_movesOnly (countedOf_of_counted driven) (movesOnly_countMany (cs := [.energySpent])
        (movesOnly_of_counters rfl) (by decide)) (by decide)
    have recorded : Counted [completionCounter a.phaseDone.job] (u.countMany .energySpent a.job.cost)
        (u.recordCompletion a.phaseDone) := counted_one rfl
    rw [← own]
    exact countedOf_movesOnly (countedOf_movesOnly (countedOf_trans spent recorded) kept.moves (by decide))
      (movesOnly_of_counters (cs := []) counters) (by decide)

end Sys2Proof.Proofs
end

section
/-! PROOF. The store-low comparator: what it holds and what it releases (O49). -/

namespace Sys2Proof.Proofs

open Sys2Proof Sys2Proof.Machine Sys2Proof.Claims

/-- A fall or rise that is no change of store-low (R141). -/
theorem storeLow_unchanged {s : State} {dt node : Nat} {c : Instr} (started : s.started = true)
    (none : (c = .storeLowActive ⟨dt, node⟩ ∧ (s.sense.storeLow = true ∨ s.loader.loaded.warning ≤ node)) ∨
      (c = .storeLowInactive ⟨dt, node⟩ ∧ (s.sense.storeLow = false ∨ node ≤ s.loader.loaded.warning + 50))) :
    exec c s = .next (s.advance dt) := by
  have started' : (s.advance dt).started = true := started
  have compares : (s.advance dt).compares node = comparator s.loader.loaded.warning node s.sense.storeLow := rfl
  have low : (s.advance dt).sense.storeLow = s.sense.storeLow := rfl
  rcases none with ⟨rfl, still⟩ | ⟨rfl, still⟩
  · have ran : exec (.storeLowActive ⟨dt, node⟩) s = execStoreLowActive ⟨dt, node⟩ s := rfl
    rw [ran, execStoreLowActive]
    simp only [State.whenStarted, if_pos started', compares, low, storeLow_begins_iff]
    rw [if_neg]
    rintro ⟨high, below⟩
    rcases still with active | above
    · exact absurd (high.symm.trans active) (by decide)
    · omega
  · have ran : exec (.storeLowInactive ⟨dt, node⟩) s = execStoreLowInactive ⟨dt, node⟩ s := rfl
    rw [ran, execStoreLowInactive]
    simp only [State.whenStarted, if_pos started', compares, low, storeLow_ends_iff]
    rw [if_neg]
    rintro ⟨active, above⟩
    rcases still with high | below
    · exact absurd (active.symm.trans high) (by decide)
    · omega

theorem storeLowActive_run {s : State} {dt node : Nat} (started : s.started = true) (high : s.sense.storeLow = false)
    (below : node < s.loader.loaded.warning) : exec (.storeLowActive ⟨dt, node⟩) s =
      .next ((s.advance dt).activateStoreLow.finish) := by
  have started' : (s.advance dt).started = true := started
  have ran : exec (.storeLowActive ⟨dt, node⟩) s = execStoreLowActive ⟨dt, node⟩ s := rfl
  rw [ran, execStoreLowActive]
  simp only [State.whenStarted, if_pos started']
  exact congrArg Host.Outcome.next (if_pos (storeLow_begins_iff.2 ⟨high, below⟩))

theorem storeLowInactive_run {s : State} {dt node : Nat} (started : s.started = true) (low : s.sense.storeLow = true)
    (above : s.loader.loaded.warning + 50 < node) : exec (.storeLowInactive ⟨dt, node⟩) s =
      .next ((s.advance dt).clearStoreLow.finish) := by
  have started' : (s.advance dt).started = true := started
  have ran : exec (.storeLowInactive ⟨dt, node⟩) s = execStoreLowInactive ⟨dt, node⟩ s := rfl
  rw [ran, execStoreLowInactive]
  simp only [State.whenStarted, if_pos started']
  exact congrArg Host.Outcome.next (if_pos (storeLow_ends_iff.2 ⟨low, above⟩))

theorem servePort_busy {v : State} (busy : v.engine.port ≠ .idle) : v.servePort = v := if_neg busy

/-! ### What store-low holds (R130, R142) -/

/-- Becoming active: the comparator and a job that waits for a read (R130, R142). -/
theorem storeLow_holds {s : State} {dt node : Nat} (started : s.started = true) (sound : s.RadioSound)
    (high : s.sense.storeLow = false) (below : node < s.loader.loaded.warning) :
    ∃ t, exec (.storeLowActive ⟨dt, node⟩) s = .next t ∧
      OnlyChanges [.elapsed, .clock, .planner, .engine, .sense, .rx, .counters] s t ∧ Passes dt s t ∧
      RxSettles s.rx.queue s t ∧ t.sense = { s.sense with storeLow := true } ∧
      (∀ a, s.engine.active = some a → a.state = .running → s.engine.port = .reading →
        t.engine = { s.engine with
          active := some { a with state := .suspended, loaded := false }, suspendedAt := some t.elapsed } ∧
        CountedOf [.storeLowActivation, .suspensions] [.storeLowActivation, .suspensions] s t) ∧
      ((∀ a, s.engine.active = some a → a.state = .running → s.engine.port ≠ .reading) →
        PortServes s t ∧ t.planner = s.planner ∧ Counted [.storeLowActivation] s t) := by
  obtain ⟨u, hu⟩ : ∃ u : State, u = State.count { s.advance dt with sense := { s.sense with storeLow := true } }
    .storeLowActivation := ⟨_, rfl⟩
  have run := storeLowActive_run (dt := dt) started high below
  have body : (s.advance dt).activateStoreLow = u.stopAtRead := by rw [hu]; rfl
  rw [body] at run
  have engine : u.engine = s.engine := by rw [hu]; rfl
  have active : Counted [.storeLowActivation] s u := by rw [hu]; exact counted_one rfl
  obtain ⟨settles, counters⟩ := jobsFinish (v := u.stopAtRead) started sound (by simp [hu]) (by simp [hu]) (by simp [hu])
    (by simp [hu])
  refine ⟨_, run, by simp [onlyChanges_iff, hu], ⟨by simp [hu], by simp [hu, advance_clock]⟩, settles, by simp [hu],
    fun a job running reading => ?_, fun calm => ?_⟩
  · have stops : u.stopAtRead = u.suspendReported a := by
      rw [State.stopAtRead, engine, job]
      exact if_pos ⟨running, reading⟩
    rw [stops] at counters ⊢
    obtain ⟨v, hv⟩ : ∃ v, v = u.suspendActive a := ⟨_, rfl⟩
    have report : u.suspendReported a = v.planJobs := by rw [hv]; rfl
    have low : v.sense.storeLow = true := by rw [hv, hu]; rfl
    obtain ⟨plan, kept, -, moves⟩ := planJobs_waits (v := v) (a := { a with state := .suspended, loaded := false })
      (by rw [hv]; rfl) rfl (fun now => by
        obtain ⟨-, -, -, -, -, -, off, -⟩ := now
        exact absurd (low.symm.trans off) (by decide))
    have suspended : Counted [.storeLowActivation, .suspensions] s v := by
      rw [hv]
      exact counted_of u active rfl
    rw [report] at counters ⊢
    have port : v.planJobs.engine.port ≠ .idle := by
      rw [plan, kept, hv, State.suspendActive]
      simp [engine, reading]
    refine ⟨?_, countedOf_movesOnly (countedOf_movesOnly (countedOf_of_counted suspended) (plan ▸ moves) (by decide))
      (movesOnly_of_counters (cs := []) counters) (by decide)⟩
    have shown : v.planJobs.finish.engine = v.planJobs.engine := by
      simp [State.finish, servePort_busy port]
    have now : v.planJobs.finish.elapsed = u.elapsed := by simp [hv, State.suspendActive]
    rw [now, shown, plan, kept, hv, State.suspendActive]
    simp [engine]
  · have stays : u.stopAtRead = u := by
      rw [State.stopAtRead, engine]
      split
      · rfl
      next a job => exact if_neg fun stop => calm a job stop.1 stop.2
    rw [stays] at counters ⊢
    exact ⟨portServes_finish engine, by simp [hu], counted_congr active rfl counters⟩

/-! ### The content a NORMAL job latches (R122) -/

theorem allLines_between : ∀ first last : Fin 10, (allLines.filter fun n : Fin 10 => decide (first.val ≤ n.val) &&
    decide (n.val ≤ last.val)) = (allLines.drop first).take (last + 1 - first) := by decide

theorem jobLines_get {j : Job} {n : Fin 10} (first : j.first ≤ n.val) (last : n.val ≤ j.last) :
    (allLines.filter fun k : Fin 10 => j.contains k.val)[n.val - j.first]? = some n := by
  have all : ∀ k : Fin 10, allLines[k.val]? = some k := by decide
  have within : (fun k : Fin 10 => j.contains k.val) =
      fun k => decide (j.first ≤ k.val) && decide (k.val ≤ min j.last 9) := by
    funext k
    have below := k.isLt
    simp only [Job.contains]
    congr 2
    exact propext (by omega)
  have lines := allLines_between ⟨j.first, by omega⟩ ⟨min j.last 9, by omega⟩
  dsimp only at lines
  rw [within, lines, List.getElem?_take, if_pos (by omega), List.getElem?_drop,
    show j.first + (n.val - j.first) = n.val by omega, all n]

theorem contentFor_normal {s : State} {j : Job} (normal : j.kind = .normal) {n : Fin 10} (first : j.first ≤ n.val)
    (last : n.val ≤ j.last) : (s.contentFor j).getD (n.val - j.first) [] = s.board.targets.get n := by
  rw [State.contentFor, normal]
  simp [List.getD_eq_getElem?_getD, jobLines_get first last]

/-! ### What store-low releases (R120, R142) -/

theorem linesReady_iff {s : State} {j : Job} : s.linesReady j = true ↔
    (j.mode = .partialMode → ∀ n : Fin 10, j.first ≤ n.val → n.val ≤ j.last →
      (s.engine.lines.get n).ghost < s.loader.loaded.ghostLimit ∧ (s.engine.lines.get n).condition = .settled) := by
  have listed (n : Fin 10) : n ∈ allLines := by revert n; decide
  unfold State.linesReady
  cases mode : j.mode with
  | clearing => simp
  | partialMode =>
    simp only [Bool.or_eq_true, List.all_eq_true, Bool.not_eq_true', Bool.and_eq_true, decide_eq_true_eq, forall_const,
      reduceCtorEq, false_or]
    refine forall_congr' fun n => ?_
    by_cases within : j.contains n.val = true
    · have ends : j.first ≤ n.val ∧ n.val ≤ j.last := by simpa [Job.contains] using within
      simp [listed n, within, ends]
    · have ends : ¬ (j.first ≤ n.val ∧ n.val ≤ j.last) := by simpa [Job.contains] using within
      simp only [Bool.not_eq_true] at within
      simp only [within, true_or, implies_true, true_iff]
      exact fun first last => absurd ⟨first, last⟩ ends

/-- A RUNNING job that has not been loaded keeps an IDLE port busy: a read first, or its load step (R123). -/
theorem servePort_unloaded {v : State} {a : ActiveJob} (job : v.engine.active = some a) (running : a.state = .running)
    (unloaded : a.loaded = false) (idle : v.engine.port = .idle) (phase : v.engine.phaseDeadline = none)
    (read : v.engine.readDeadline = none) : v.servePort.engine = served v.loader.loaded v.elapsed v.engine := by
  have freed : { v with engine := v.engine.release }.servePort.engine = served v.loader.loaded v.elapsed v.engine :=
    servePort_served (v := { v with engine := v.engine.release }) rfl
  rw [← freed]
  unfold State.servePort
  simp [Engine.release, idle, job, running, unloaded, phase, read]

/-- Becoming inactive: the waiting frame, and the staged job (R120, R142, R163). -/
theorem storeLow_releases {s : State} {dt node : Nat} (started : s.started = true) (sound : s.RadioSound)
    (low : s.sense.storeLow = true) (above : s.loader.loaded.warning + 50 < node) :
    ∃ t, exec (.storeLowInactive ⟨dt, node⟩) s = .next t ∧
      OnlyChanges [.elapsed, .clock, .planner, .engine, .sense, .rx, .tx, .counters] s t ∧ Passes dt s t ∧
      RxSettles s.rx.queue s t ∧ t.sense = { s.sense with storeLow := false } ∧
      t.tx = { s.tx with stage := if s.tx.stage = .storeLowWait then .carrierWait else s.tx.stage } ∧
      (s.planner.staged = none ∨ s.engine.active ≠ none → PortServes s t ∧ t.planner = s.planner ∧ Counted [] s t) ∧
      ∀ j, s.planner.staged = some j → j.kind = .normal → s.planner.energy ≠ .dormant → s.engine.active = none →
        s.sense.band.drive = true → s.engine.freshHold = false → s.engine.faulted = false →
        j.remaining + s.loader.loaded.reserve ≤ s.planner.available →
        (j.mode = .partialMode → ∀ n : Fin 10, j.first ≤ n.val → n.val ≤ j.last →
          (s.engine.lines.get n).ghost < s.loader.loaded.ghostLimit ∧ (s.engine.lines.get n).condition = .settled) →
        ∃ a, t.engine.active = some a ∧ a.job = { j with phaseIndex := 0 } ∧ a.band = s.sense.band ∧
          a.state = .running ∧ a.loaded = false ∧
          (∀ n : Fin 10, j.first ≤ n.val → n.val ≤ j.last →
            a.content.getD (n.val - j.first) [] = s.board.targets.get n) ∧
          (s.engine.port = .idle → s.engine.phaseDeadline = none → s.engine.readDeadline = none →
            t.engine = served s.loader.loaded t.elapsed { s.engine with active := some a }) ∧
          CountedOf [.jobPromoted] [.jobPromoted] s t := by
  obtain ⟨u, hu⟩ : ∃ u : State, u = { s.advance dt with
    sense := { s.sense with storeLow := false }, tx := s.tx.leaveStoreLow } := ⟨_, rfl⟩
  have run := storeLowInactive_run (dt := dt) started low above
  have body : (s.advance dt).clearStoreLow = u.promoteJobs := by rw [hu]; rfl
  rw [body] at run
  have engine : u.engine = s.engine := by rw [hu]; rfl
  have planner : u.planner = s.planner := by rw [hu]; rfl
  have quiet : u.counters = s.counters := by rw [hu]; rfl
  have left : s.tx.leaveStoreLow = { s.tx with
      stage := if s.tx.stage = .storeLowWait then .carrierWait else s.tx.stage } := by
    unfold Sender.leaveStoreLow
    split <;> rfl
  obtain ⟨settles, counters⟩ := jobsFinish (v := u.promoteJobs) started sound (by simp [hu]) (by simp [hu])
    (by simp [hu, left]) (by simp [hu])
  refine ⟨_, run, by simp [onlyChanges_iff, hu], ⟨by simp [hu], by simp [hu, advance_clock]⟩, settles, by simp [hu],
    by simp [hu, left], fun none => ?_, fun j staged normal awake empty band fresh sound' covered lines => ?_⟩
  · have stays : u.promoteJobs = u := by
      rcases none with unstaged | taken
      · rw [State.promoteJobs, planner, unstaged]
      · exact promoteJobs_blocked (.inl (by rwa [engine]))
    rw [stays] at counters ⊢
    exact ⟨portServes_finish engine, by simp [planner], counted_nil (counters.trans quiet)⟩
  · have loader : u.loader = s.loader := by rw [hu]; rfl
    have sense : u.sense.band = s.sense.band := by rw [hu]
    have ready : u.promotable j = true := by
      refine promotable_iff.2 ⟨by rw [engine, empty], by rw [hu], by rw [sense, band], by rw [engine, fresh],
        by rw [engine, sound'], ?_, linesReady_iff.2 (by rw [engine, loader]; exact lines)⟩
      rw [State.energyCovers, normal, loader, planner]
      exact decide_eq_true covered
    obtain ⟨p, hp⟩ : ∃ p, p = u.promote j := ⟨_, rfl⟩
    have promoted : u.promoteJobs = p.plan := by
      rw [State.promoteJobs, planner, staged, hp]
      exact if_pos ready
    have job : p.engine = { s.engine with active := some (u.latched j) } := by
      rw [hp, State.promote]
      simp [engine]
    have awake' : p.planner.energy ≠ .dormant := by
      rw [hp, State.promote]
      simpa [planner] using awake
    have planned := plan_awake_engine awake'
    have counted : Counted [.jobPromoted] s p := by
      rw [hp]
      exact counted_congr (s := u) (counted_one rfl) quiet.symm rfl
    rw [promoted] at counters ⊢
    have shown : p.plan.finish.engine = p.plan.servePort.engine := by simp [State.finish]
    refine ⟨u.latched j, ?_, rfl, sense, rfl, rfl, fun n first last => ?_, fun idle phase read => ?_, ?_⟩
    · simp [planned, job]
    · have targets : u.board.targets = s.board.targets := by rw [hu]; rfl
      rw [← targets]
      exact contentFor_normal normal first last
    · have serves := servePort_unloaded (v := p.plan) (a := u.latched j) (by rw [planned, job]) rfl rfl
        (by rw [planned, job]; exact idle) (by rw [planned, job]; exact phase) (by rw [planned, job]; exact read)
      rw [shown, serves, planned, job]
      simp [hp, State.promote, loader]
    · exact countedOf_movesOnly (countedOf_movesOnly (countedOf_of_counted counted) (plan_awake awake').2 (by decide))
        (movesOnly_of_counters (cs := []) counters) (by decide)

/-- Settles O49: no change, what store-low holds, and what it releases. -/
theorem storeLowHoldsAndReleases : Obligations.StoreLowHoldsAndReleases := by
  intro s dt node started sound warning
  refine ⟨fun c none => ⟨_, storeLow_unchanged started none, advance_onlyChanges s dt, advance_passes s dt⟩,
    fun high below => storeLow_holds started sound high below, fun low above => storeLow_releases started sound low above⟩

end Sys2Proof.Proofs
end

section
/-! PROOF. Planning outside DORMANT: the lines as the planner sees them, the seed, the band and its price (O46). -/

namespace Sys2Proof.Proofs

open Sys2Proof Sys2Proof.Machine Sys2Proof.Claims

/-! ### Lines (R100 to R102) -/

theorem dirtyAgainst_iff {target : Cells} {r : LineRecord} :
    dirtyAgainst target r = true ↔ r.glass ≠ some target ∨ r.condition ≠ .settled := by
  unfold dirtyAgainst
  split <;> simp_all

theorem dirty_iff {s : State} {n : Fin 10} : s.dirty n = true ↔ Dirty s n := dirtyAgainst_iff

theorem requiredMode_eq (s : State) (n : Fin 10) : s.requiredMode n = needs s n := by
  simp only [State.requiredMode, needs, Bool.or_eq_true, bne_iff_ne, decide_eq_true_eq, Bool.and_eq_true, or_assoc]

theorem eligible_iff {s : State} {n : Fin 10} : s.eligible n = true ↔ Open s n := by
  have active : s.inActive n = false ↔ ∀ a, s.engine.active = some a → ¬ (a.job.first ≤ n.val ∧ n.val ≤ a.job.last) := by
    unfold State.inActive
    split <;> simp_all [Job.contains]
  have allowed : allowedLine s.planner.energy n = true ↔ match s.planner.energy with
      | .ample | .lean => True
      | .scarce => 1 ≤ n.val ∧ n.val ≤ 3
      | .dormant => False := by
    cases s.planner.energy <;> simp [allowedLine]
  rw [State.eligible, Bool.and_eq_true, Bool.not_eq_true', active, allowed]
  rfl

theorem waits_iff {s : State} {n : Fin 10} : (s.eligible n && s.dirty n) = true ↔ Open s n ∧ Dirty s n := by
  rw [Bool.and_eq_true, eligible_iff, dirty_iff]

theorem flagged_iff {s : State} {n : Fin 10} :
    (s.eligible n && s.planner.sweep.get n) = true ↔ Open s n ∧ s.planner.sweep.get n = true := by
  rw [Bool.and_eq_true, eligible_iff]

/-! ### The band (R105) -/

theorem fits_iff {s : State} {m : Mode} {k : Nat} : s.fits m k = true ↔ Fits s m k := by
  unfold State.fits Fits
  split
  next below =>
    simp only [Bool.and_eq_true, Bool.or_eq_true, decide_eq_true_eq, eligible_iff, dirty_iff, requiredMode_eq, and_assoc]
    constructor
    · exact fun h => ⟨⟨k, below⟩, rfl, h⟩
    · rintro ⟨n, rfl, h⟩
      exact h
  next above =>
    simp only [Bool.false_eq_true, false_iff]
    rintro ⟨n, rfl, -⟩
    exact above n.isLt

/-- What a growth by at most `fuel` lines gives: a band of lines that fit, upward first, as long as lines fit. -/
theorem grow_spec (s : State) (m : Mode) (fuel : Nat) : ∀ first last : Nat, first ≤ last →
    let b := s.grow m fuel (first, last)
    b.1 ≤ first ∧ last ≤ b.2 ∧ b.2 + first ≤ b.1 + last + fuel ∧
      (∀ k, b.1 ≤ k → k ≤ b.2 → k < first ∨ last < k → Fits s m k) ∧
      (b.2 = last + fuel ∨ ¬ Fits s m (b.2 + 1)) ∧
      (b.2 + first = b.1 + last + fuel ∨ b.1 = 0 ∨ ¬ Fits s m (b.1 - 1)) := by
  induction fuel with
  | zero =>
    intro first last _
    exact ⟨le_rfl, le_rfl, by simp [State.grow]; omega, fun k low high out => by simp [State.grow] at *; omega,
      .inl rfl, .inl (by simp [State.grow]; omega)⟩
  | succ fuel ih =>
    intro first last ordered
    dsimp only
    rw [State.grow]
    split
    next up =>
      obtain ⟨low, high, size, inside, upward, downward⟩ := ih first (last + 1) (by omega)
      refine ⟨low, by omega, by omega, fun k from_ to_ out => ?_, upward.imp_left (by omega), downward.imp_left (by omega)⟩
      by_cases next_ : k = last + 1
      · exact next_ ▸ fits_iff.1 up
      · exact inside k from_ to_ (by omega)
    next up =>
      rw [fits_iff] at up
      split
      next down =>
        rw [Bool.and_eq_true, decide_eq_true_eq, fits_iff] at down
        obtain ⟨positive, fit⟩ := down
        obtain ⟨low, high, size, inside, upward, downward⟩ := ih (first - 1) last (by omega)
        have top : (s.grow m fuel (first - 1, last)).2 = last := by
          by_contra beyond
          exact up (inside _ (by omega) (by omega) (.inr (by omega)))
        refine ⟨by omega, high, by omega, fun k from_ to_ out => ?_, .inr (by rwa [top]), downward.imp_left (by omega)⟩
        by_cases before : k = first - 1
        · exact before ▸ fit
        · exact inside k from_ to_ (by omega)
      next down =>
        rw [Bool.and_eq_true, decide_eq_true_eq, fits_iff, not_and_or] at down
        exact ⟨le_rfl, le_rfl, by omega, fun k _ _ _ => by omega, .inr up, .inr (down.imp_left (by omega))⟩

theorem grow_bandGrows (s : State) (m : Mode) (n : Nat) :
    BandGrows s m n (s.grow m 3 (n, n)).1 (s.grow m 3 (n, n)).2 := by
  obtain ⟨low, high, size, inside, upward, downward⟩ := grow_spec s m 3 n n le_rfl
  exact ⟨low, high, by omega, fun k from_ to_ other => inside k from_ to_ (by omega), upward, downward.imp_left (by omega)⟩

/-! ### The seed (R104) -/

/-- The place of a line in the order 1..8, 9, 0 (R104). -/
def lineRank (k : Fin 10) : Nat := if k.val = 0 then 10 else k.val

theorem lineOrder_ranked : lineOrder.Pairwise fun k n => lineRank k < lineRank n := by decide

theorem mem_lineOrder (n : Fin 10) : n ∈ lineOrder := by revert n; decide

/-- The first line that passes a test has the lowest rank of those that do. -/
theorem first_ranked {p : Fin 10 → Bool} {n : Fin 10} (found : lineOrder.find? p = some n) :
    p n = true ∧ ∀ k, p k = true → lineRank n ≤ lineRank k := by
  obtain ⟨passes, before, after, parts, fail⟩ := List.find?_eq_some_iff_append.1 found
  refine ⟨passes, fun k pass => ?_⟩
  have ranked := lineOrder_ranked
  have mem := mem_lineOrder k
  rw [parts] at ranked mem
  rcases List.mem_append.1 mem with early | late
  · exact absurd pass (by simpa using fail k early)
  · rcases List.mem_cons.1 late with rfl | later
    · exact le_rfl
    · exact ((List.pairwise_cons.1 (List.pairwise_append.1 ranked).2.1).1 k later).le

theorem none_ranked {p : Fin 10 → Bool} (found : lineOrder.find? p = none) (k : Fin 10) : ¬ p k = true :=
  List.find?_eq_none.1 found k (mem_lineOrder k)

/-- The line dirty longest among ranked lines, if one has been dirty since an instant. -/
theorem eldest_spec (s : State) (l : List (Fin 10)) (ranked : l.Pairwise fun k n => lineRank k < lineRank n) :
    match eldest s l with
    | none => ∀ k ∈ l, (s.engine.lines.get k).dirtySince = none
    | some (n, u) => n ∈ l ∧ (s.engine.lines.get n).dirtySince = some u ∧
      ∀ k ∈ l, ∀ v, (s.engine.lines.get k).dirtySince = some v → u < v ∨ (u = v ∧ lineRank n ≤ lineRank k) := by
  induction l with
  | nil => simp [eldest]
  | cons n rest ih =>
    obtain ⟨first, others⟩ := List.pairwise_cons.1 ranked
    have later := ih others
    rw [eldest]
    cases since : (s.engine.lines.get n).dirtySince with
    | none =>
      cases best : eldest s rest with
      | none =>
        rw [best] at later
        simpa [since] using later
      | some found =>
        rw [best] at later
        obtain ⟨mem, at_, least⟩ := later
        dsimp only
        refine ⟨.tail _ mem, at_, fun k inside v hv => ?_⟩
        rcases List.mem_cons.1 inside with rfl | inside
        · rw [since] at hv
          cases hv
        · exact least k inside v hv
    | some t =>
      cases best : eldest s rest with
      | none =>
        rw [best] at later
        dsimp only at later ⊢
        refine ⟨.head _, since, fun k inside v hv => ?_⟩
        rcases List.mem_cons.1 inside with rfl | inside
        · exact .inr ⟨Option.some.inj (since.symm.trans hv), le_rfl⟩
        · rw [later k inside] at hv
          cases hv
      | some found =>
        rw [best] at later
        obtain ⟨mem, at_, least⟩ := later
        dsimp only
        by_cases older : t ≤ found.2
        · rw [if_pos older]
          refine ⟨.head _, since, fun k inside v hv => ?_⟩
          rcases List.mem_cons.1 inside with rfl | inside
          · exact .inr ⟨Option.some.inj (since.symm.trans hv), le_rfl⟩
          · have below := first k inside
            have beaten := least k inside v hv
            omega
        · rw [if_neg older]
          refine ⟨.tail _ mem, at_, fun k inside v hv => ?_⟩
          rcases List.mem_cons.1 inside with rfl | inside
          · have same := Option.some.inj (since.symm.trans hv)
            exact .inl (by omega)
          · exact least k inside v hv

/-- A line that waits is dirty for 120 s or more (R104). -/
def Starved (s : State) (k : Fin 10) : Prop :=
  (Open s k ∧ Dirty s k) ∧ ∃ u, (s.engine.lines.get k).dirtySince = some u ∧ u + 120000 ≤ s.elapsed

theorem starvedLine_spec (s : State) : match s.starvedLine with
    | none => ∀ k, ¬ Starved s k
    | some n => Starved s n ∧ ∀ u k v, (s.engine.lines.get n).dirtySince = some u → Open s k ∧ Dirty s k →
      (s.engine.lines.get k).dirtySince = some v → u < v ∨ (u = v ∧ lineRank n ≤ lineRank k) := by
  have spec := eldest_spec s (lineOrder.filter fun n => s.eligible n && s.dirty n) (lineOrder_ranked.filter _)
  have mem (k : Fin 10) : k ∈ (lineOrder.filter fun n => s.eligible n && s.dirty n) ↔ Open s k ∧ Dirty s k := by
    rw [List.mem_filter, waits_iff]
    exact and_iff_right (mem_lineOrder k)
  rw [State.starvedLine]
  cases best : eldest s (lineOrder.filter fun n => s.eligible n && s.dirty n) with
  | none =>
    rw [best] at spec
    rintro k ⟨waits, u, since, -⟩
    rw [spec k ((mem k).2 waits)] at since
    cases since
  | some found =>
    obtain ⟨n, t⟩ := found
    rw [best] at spec
    obtain ⟨inside, at_, least⟩ := spec
    dsimp only
    by_cases long : t + Config.starvedMs ≤ s.elapsed
    · rw [if_pos long]
      refine ⟨⟨(mem n).1 inside, t, at_, long⟩, fun u k v hu waits hv => ?_⟩
      rw [← Option.some.inj (at_.symm.trans hu)]
      exact least k ((mem k).2 waits) v hv
    · rw [if_neg long]
      rintro k ⟨waits, u, since, enough⟩
      have beaten := least k ((mem k).2 waits) u since
      have bound : ¬ t + 120000 ≤ s.elapsed := long
      omega

theorem seed_spec (s : State) : match s.seed with
    | none => ∀ n, ¬ Seed s n
    | some n => Seed s n := by
  have starved := starvedLine_spec s
  rw [State.seed]
  cases first : s.starvedLine with
  | some n =>
    rw [first] at starved
    exact .inl starved
  | none =>
    rw [first] at starved
    cases second : lineOrder.find? fun n => s.eligible n && s.dirty n with
    | some n =>
      obtain ⟨waits, least⟩ := first_ranked second
      exact .inr (.inl ⟨starved, waits_iff.1 waits, fun k other => least k (waits_iff.2 other)⟩)
    | none =>
      have calm (k : Fin 10) : ¬ (Open s k ∧ Dirty s k) := fun waits => none_ranked second k (waits_iff.2 waits)
      by_cases ample : s.planner.energy = .ample
      · cases third : lineOrder.find? fun n => s.eligible n && s.planner.sweep.get n with
        | some n =>
          obtain ⟨flagged, least⟩ := first_ranked third
          simp only [HOrElse.hOrElse, OrElse.orElse, Option.orElse, if_pos ample]
          exact .inr (.inr ⟨calm, ample, flagged_iff.1 flagged, fun k other => least k (flagged_iff.2 other)⟩)
        | none =>
          simp only [HOrElse.hOrElse, OrElse.orElse, Option.orElse, if_pos ample]
          rintro n (⟨⟨waits, -⟩, -⟩ | ⟨-, waits, -⟩ | ⟨-, -, flagged, -⟩)
          · exact calm n waits
          · exact calm n waits
          · exact none_ranked third n (flagged_iff.2 flagged)
      · simp only [HOrElse.hOrElse, OrElse.orElse, Option.orElse, if_neg ample]
        rintro n (⟨⟨waits, -⟩, -⟩ | ⟨-, waits, -⟩ | ⟨-, energy, -⟩)
        · exact calm n waits
        · exact calm n waits
        · exact ample energy

/-! ### What planning comes to (R104 to R107) -/

theorem costLeft_eq (j : Job) : j.remaining = costLeft j := by
  rw [Job.remaining, remainingOf, costLeft]
  cases j.mode <;> rfl

/-- The planner plans: the staged slot is empty, no hold, a drive band and a sound engine (R102, R103). -/
def MayPlan (s : State) : Prop :=
  s.planner.staged = none ∧ s.planner.hold = false ∧ s.sense.band.drive = true ∧ s.engine.faulted = false

theorem plan_idles {s : State} (awake : s.planner.energy ≠ .dormant) (none : ¬ MayPlan s) : s.plan = s := by
  rw [State.plan, if_neg awake, if_pos]
  by_contra free
  simp only [Bool.or_eq_true, not_or, Bool.not_eq_true', Bool.not_eq_true, Option.isSome_eq_false_iff,
    Option.isNone_iff_eq_none, Bool.not_eq_false] at free
  obtain ⟨⟨⟨empty, go⟩, band⟩, sound⟩ := free
  exact none ⟨empty, go, band, sound⟩

theorem plan_stages {s : State} (awake : s.planner.energy ≠ .dormant) (free : MayPlan s) : s.plan = s.stageNormal := by
  obtain ⟨empty, go, band, sound⟩ := free
  rw [State.plan, if_neg awake, if_neg]
  simp [empty, go, band, sound]

theorem stageNormal_plans {s : State} (free : MayPlan s) : ∃ cs,
    PlansBand s s.planner.nextJob s.stageNormal.planner.staged s.stageNormal.planner.nextJob s.stageNormal.planner.hold cs ∧
      Counted cs s s.stageNormal := by
  obtain ⟨empty, go, -, -⟩ := free
  have spec := seed_spec s
  unfold State.stageNormal
  cases seeded : s.seed with
  | none =>
    rw [seeded] at spec
    exact ⟨[], .inl ⟨spec, empty, rfl, go, rfl⟩, counted_nil rfl⟩
  | some n =>
    rw [seeded] at spec
    have covers (cost : Nat) : s.affords cost = true ↔ cost + (match s.engine.active with
        | none => 0
        | some a => costLeft a.job) + s.loader.loaded.reserve ≤ s.planner.available := by
      rw [State.affords, decide_eq_true_eq, State.activeRemaining]
      cases s.engine.active with
      | none => rfl
      | some a => dsimp only; rw [costLeft_eq]
    have ends := grow_bandGrows s (needs s n) n.val
    have alone : s.bandCost (needs s n) n.val n.val = lineCost s.loader.loaded (needs s n) s.sense.band := by
      rw [State.bandCost, Nat.add_sub_cancel_left, Nat.one_mul]
    dsimp only
    rw [requiredMode_eq, alone]
    by_cases whole : s.affords (s.bandCost (needs s n) (s.grow (needs s n) 3 (n.val, n.val)).1
      (s.grow (needs s n) 3 (n.val, n.val)).2) = true
    · rw [if_pos whole]
      exact ⟨[.jobStaged], .inr ⟨n, _, _, spec, ends, (if_pos ((covers _).1 whole)).mpr ⟨rfl, rfl, go, rfl⟩⟩, counted_one rfl⟩
    · have dear := mt (covers _).2 whole
      rw [if_neg whole]
      by_cases narrow : (s.grow (needs s n) 3 (n.val, n.val)).1 < (s.grow (needs s n) 3 (n.val, n.val)).2 ∧
        s.affords (lineCost s.loader.loaded (needs s n) s.sense.band) = true
      · obtain ⟨wide, covered⟩ := narrow
        rw [if_pos ⟨wide, covered⟩]
        exact ⟨[.jobStaged, .bandNarrowed], .inr ⟨n, _, _, spec, ends, (if_neg dear).mpr
          ((if_pos ⟨wide, (covers _).1 covered⟩).mpr ⟨rfl, rfl, go, rfl⟩)⟩, counted_of _ (counted_one rfl) rfl⟩
      · rw [if_neg narrow]
        exact ⟨[.stagingHeld], .inr ⟨n, _, _, spec, ends, (if_neg dear).mpr
          ((if_neg fun h => narrow ⟨h.1, (covers _).2 h.2⟩).mpr ⟨empty, rfl, rfl, rfl⟩)⟩, counted_one rfl⟩

/-! ### What planning looks at -/

/-- Two states that planning outside DORMANT does not tell apart. -/
structure PlansAlike (s t : State) : Prop where
  loader : t.loader.loaded = s.loader.loaded
  targets : t.board.targets = s.board.targets
  lines : t.engine.lines = s.engine.lines
  jobs : t.engine.active.map ActiveJob.job = s.engine.active.map ActiveJob.job
  energy : t.planner.energy = s.planner.energy
  sweep : t.planner.sweep = s.planner.sweep
  available : t.planner.available = s.planner.available
  band : t.sense.band = s.sense.band
  elapsed : t.elapsed = s.elapsed

namespace PlansAlike

variable {s t : State}

theorem symm (h : PlansAlike s t) : PlansAlike t s :=
  ⟨h.loader.symm, h.targets.symm, h.lines.symm, h.jobs.symm, h.energy.symm, h.sweep.symm, h.available.symm, h.band.symm,
    h.elapsed.symm⟩

theorem trans {u : State} (h : PlansAlike s t) (h' : PlansAlike t u) : PlansAlike s u :=
  ⟨h'.loader.trans h.loader, h'.targets.trans h.targets, h'.lines.trans h.lines, h'.jobs.trans h.jobs,
    h'.energy.trans h.energy, h'.sweep.trans h.sweep, h'.available.trans h.available, h'.band.trans h.band,
    h'.elapsed.trans h.elapsed⟩

theorem opens (h : PlansAlike s t) : Open t = Open s := by
  have jobs (r : State) (n : Fin 10) : (∀ a, r.engine.active = some a → ¬ (a.job.first ≤ n.val ∧ n.val ≤ a.job.last)) ↔
      ∀ j ∈ r.engine.active.map ActiveJob.job, ¬ (j.first ≤ n.val ∧ n.val ≤ j.last) := by
    cases r.engine.active <;> simp
  funext n
  simp only [Open, jobs, h.jobs, h.energy]

theorem dirty (h : PlansAlike s t) : Dirty t = Dirty s := by
  funext n
  simp only [Dirty, h.lines, h.targets]

theorem needs (h : PlansAlike s t) : needs t = needs s := by
  funext n
  simp only [Claims.needs, h.lines, h.loader, h.sweep, h.energy]

theorem fits (h : PlansAlike s t) : Fits t = Fits s := by
  funext m k
  simp only [Fits, h.opens, h.needs, h.dirty, h.energy, h.sweep]

theorem seed (h : PlansAlike s t) : Seed t = Seed s := by
  funext n
  simp only [Seed, h.opens, h.dirty, h.lines, h.energy, h.sweep, h.elapsed]

theorem grows (h : PlansAlike s t) : BandGrows t = BandGrows s := by
  funext m n first last
  simp only [BandGrows, h.fits]

theorem plansBand (h : PlansAlike s t) {next after : BitVec 8} {staged : Option Job} {hold : Bool} {cs : List Counter}
    (plans : PlansBand s next staged after hold cs) : PlansBand t next staged after hold cs := by
  have jobs := h.jobs
  unfold PlansBand at plans ⊢
  simp only [h.seed, h.grows, h.needs, h.loader, h.band, h.available] at plans ⊢
  cases before : s.engine.active with
  | none =>
    have after : t.engine.active = none := by simpa [before] using jobs
    simpa only [before, after] using plans
  | some a =>
    obtain ⟨b, after, same⟩ : ∃ b, t.engine.active = some b ∧ b.job = a.job := by simpa [before] using jobs
    simpa only [before, after, same] using plans

end PlansAlike

/-- Planning keeps what it looks at. -/
theorem plan_alike {s : State} (awake : s.planner.energy ≠ .dormant) : PlansAlike s s.plan := by
  rw [(plan_awake awake).1]
  exact ⟨rfl, rfl, rfl, rfl, rfl, rfl, rfl, rfl, rfl⟩

/-- Planning outside DORMANT: nothing where it may not plan, else a band, its seed, a hold or nothing (R102 to R107). -/
theorem plan_plans {s : State} (awake : s.planner.energy ≠ .dormant) (free : MayPlan s) : ∃ cs,
    PlansBand s s.planner.nextJob s.plan.planner.staged s.plan.planner.nextJob s.plan.planner.hold cs ∧
      Counted cs s s.plan := by
  rw [plan_stages awake free]
  exact stageNormal_plans free

theorem plansBand_part (s : State) (awake : s.planner.energy ≠ .dormant) :
    (¬ MayPlan s → s.plan = s) ∧ (MayPlan s → OnlyChanges [.planner, .counters] s s.plan ∧
      s.plan.planner = { s.planner with
        staged := s.plan.planner.staged, nextJob := s.plan.planner.nextJob, hold := s.plan.planner.hold } ∧
      ∃ cs, PlansBand s s.planner.nextJob s.plan.planner.staged s.plan.planner.nextJob s.plan.planner.hold cs ∧
        Counted cs s s.plan) := by
  have only := (plan_awake awake).1
  refine ⟨plan_idles awake, fun free => ⟨?_, congrArg State.planner only, plan_plans awake free⟩⟩
  rw [only]
  simp [onlyChanges_iff]

end Sys2Proof.Proofs
end

section
/-! PROOF. A scan completion: the reports of a changed board and of a changed energy state, and the state that planner
and engine find (O45, O46, O47, O48). -/

namespace Sys2Proof.Proofs

open Sys2Proof Sys2Proof.Machine Sys2Proof.Claims

/-! ### The staged NORMAL job withdrawn (R108) -/

/-- The staged slot once a NORMAL job has been withdrawn from it (R108). -/
def unstaged (s : State) : Option Job := if withdrawals s = [] then s.planner.staged else none

theorem withdrawals_normal {s : State} {j : Job} (staged : s.planner.staged = some j) (normal : j.kind = .normal) :
    withdrawals s = [.stagedWithdrawn] := by
  obtain ⟨number, kind, first, last, mode, cost, phaseIndex⟩ := j
  cases kind with
  | normal => simp [withdrawals, staged]
  | park => cases normal

theorem withdrawals_kept {s : State} (kept : ∀ j, s.planner.staged = some j → j.kind ≠ .normal) : withdrawals s = [] := by
  unfold withdrawals
  split
  next staged => exact absurd rfl (kept _ staged)
  · rfl

theorem unstaged_kept (s : State) : ∀ j, unstaged s = some j → j.kind ≠ .normal := by
  intro j left normal
  unfold unstaged at left
  split at left
  next kept =>
    rw [withdrawals_normal left normal] at kept
    cases kept
  · cases left

theorem withdrawStaged_eq (s : State) : s.withdrawStaged =
    { s with planner := { s.planner with staged := unstaged s }, counters := s.withdrawStaged.counters } ∧
      Counted (withdrawals s) s s.withdrawStaged := by
  have kept (none : withdrawals s = []) (same : s.withdrawStaged = s) : s.withdrawStaged = { s with
      planner := { s.planner with staged := unstaged s }, counters := s.withdrawStaged.counters } ∧
      Counted (withdrawals s) s s.withdrawStaged := by
    rw [same, none, unstaged, if_pos none]
    exact ⟨rfl, counted_nil rfl⟩
  cases staged : s.planner.staged with
  | none => exact kept (withdrawals_kept (by simp [staged])) (by simp [State.withdrawStaged, staged])
  | some j =>
    cases kind : j.kind with
    | park => exact kept (withdrawals_kept (by simp [staged, kind])) (by simp [State.withdrawStaged, staged, kind])
    | normal =>
      have one := withdrawals_normal staged kind
      have gone : s.withdrawStaged = State.count { s with planner := { s.planner with staged := none } } .stagedWithdrawn := by
        simp [State.withdrawStaged, staged, kind]
      rw [unstaged, one, if_neg (by simp), gone]
      exact ⟨rfl, counted_one rfl⟩

/-! ### A changed board reported (R76 to R78, R100) -/

theorem reportedLine_same {s t : State} (same : t.board.targets = s.board.targets) (n : Fin 10) :
    reportedLine s t n = s.engine.lines.get n := by
  simp [reportedLine, same]

theorem judged_eq (old new : Cells) (at_ : Nat) (r : LineRecord) : r.judged old new at_ = { r with
    dirtySince :=
      if ¬ (r.glass ≠ some new ∨ r.condition ≠ .settled) then none
      else if r.glass ≠ some old ∨ r.condition ≠ .settled then some (r.dirtySince.getD at_) else some at_ } := by
  simp only [LineRecord.judged, dirtyAgainst_iff]
  split_ifs <;> rfl

theorem targets_get (v : Vector Cells 10) (n : Fin 10) : v.toList.getD n.val [] = v.get n := by
  simp [Vector.get_eq_getElem]

/-- What a composition reports, up to the planning it calls for (R77, R78, R100, R108). -/
structure Reports (s t : State) : Prop where
  planner : t.planner = { s.planner with
    staged := if t.board.targets = s.board.targets then s.planner.staged else unstaged s }
  engine : t.engine = { s.engine with lines := t.engine.lines }
  lines : ∀ n, t.engine.lines.get n = reportedLine s t n
  board : t.board = { s.board with targets := s.composedTargets }
  moves : MovesOnly [.boardRecomposed, .targetChange, .stagedWithdrawn] s t
  withdrawn : CountedOf [.stagedWithdrawn] (if t.board.targets = s.board.targets then [] else withdrawals s) s t

theorem composeTargets_board (s : State) : s.composeTargets.board = { s.board with targets := s.composedTargets } := by
  have board := compose_board s
  unfold State.compose at board
  by_cases differs : s.boardDiffers = true
  · simpa [if_pos differs] using board
  · have still : s.composeTargets = s := if_neg differs
    rw [if_neg differs] at board
    rw [still]
    exact board

theorem composeTargets_reports (s : State) : Reports s s.composeTargets := by
  have board := composeTargets_board s
  have targets : s.composeTargets.board.targets = s.composedTargets := by rw [board]
  by_cases differs : s.boardDiffers = true
  · obtain ⟨n, -, other⟩ := List.any_eq_true.1 differs
    have changed : s.composedTargets ≠ s.board.targets := fun same => by simp [State.targetDiffers, same] at other
    have reported : s.composeTargets = s.reportTargets s.composedTargets s.targetDiffers := if_pos differs
    obtain ⟨u, hu⟩ : ∃ u, u = (State.count { s with
        board := { s.board with targets := s.composedTargets }
        engine := { s.engine with
          lines := judgeLines s.board.targets s.composedTargets s.elapsed s.targetDiffers s.engine.lines } }
      .boardRecomposed).countMany .targetChange (allLines.countP fun n => s.targetDiffers n.val) := ⟨_, rfl⟩
    have made : s.composeTargets = u.withdrawStaged := by rw [reported, hu]; rfl
    have same : withdrawals u = withdrawals s ∧ unstaged u = unstaged s := by rw [hu]; exact ⟨rfl, rfl⟩
    have moves : MovesOnly [.boardRecomposed, .targetChange] s u := by
      rw [hu]
      exact movesOnly_countMany (movesOnly_count (movesOnly_of_counters rfl) (by decide)) (by decide)
    obtain ⟨gone, counted⟩ := withdrawStaged_eq u
    refine ⟨?_, ?_, fun n => ?_, board, ?_, ?_⟩
    · rw [targets, if_neg changed, made, gone, same.2, hu]
      rfl
    · rw [made, gone, hu]
      rfl
    · have line : s.composeTargets.engine.lines.get n = if s.targetDiffers n.val then (s.engine.lines.get n).judged
          (s.board.targets.get n) (s.composedTargets.get n) s.elapsed else s.engine.lines.get n := by
        rw [made, gone, hu]
        simp only [State.countMany, State.count, judgeLines, mapPlaces_get, targets_get]
      rw [line, State.targetDiffers, targets_get, targets_get, judged_eq]
      simp only [reportedLine, targets, State.composeTargets_frame, bne_iff_ne, ne_eq]
      by_cases still : s.composedTargets.get n = s.board.targets.get n
      · simp [still]
      · rw [if_pos still, if_neg still]
    · rw [made]
      exact movesOnly_trans (movesOnly_mono (by decide) moves) (movesOnly_mono (by decide) (withdrawStaged_movesOnly u))
    · rw [targets, if_neg changed, made, ← same.1]
      exact countedOf_trans (countedOf_movesOnly (countedOf_of_counted (counted_nil rfl)) moves (by decide)) counted
  · have still : s.composeTargets = s := if_neg differs
    have same : s.composedTargets = s.board.targets := by rw [← targets, still]
    rw [still]
    exact ⟨by simp, rfl, fun n => (reportedLine_same rfl n).symm, by rw [same], movesOnly_of_counters rfl,
      by rw [if_pos rfl]; exact countedOf_of_counted (counted_nil rfl)⟩

/-! ### The energy account handed on (R95 to R99, R115, R121, R139, R140, R155) -/

/-- The conversion's voltage taken and the planner's account made, at a scan completion. -/
def accounted (s : State) (dt : Nat) (counts : BitVec 12) : State :=
  let u := (s.advance dt).takeVoltage counts
  u.account (medianOf u.sense.history)

/-- The state planner and engine find at a scan completion: the account made and handed on. -/
def handed (s : State) (dt : Nat) (counts : BitVec 12) : State :=
  (accounted s dt counts).handOnEnergy s.planner.energy s.sense.history.isEmpty

theorem scan_run {s : State} {dt : Nat} {counts : BitVec 12} (started : s.started = true) (converting : s.sense.converting = true) :
    exec (.scanCompletion dt counts) s =
      .next (((handed s dt counts).scanJobs.arbitrateOnChange s.planner.energy).finish) := by
  have ran : exec (.scanCompletion dt counts) s = execScanCompletion dt counts s := rfl
  have started' : (s.advance dt).started = true := started
  have converting' : (s.advance dt).sense.converting = true := converting
  rw [ran, execScanCompletion]
  simp only [State.whenStarted, if_pos started', if_pos converting']
  rfl

/-- The fresh-band hold after the reports of the energy state `e` (R115, R121). -/
def holdAfter (s : State) (e : Energy) : Bool :=
  if e = s.planner.energy then s.engine.freshHold
  else if s.planner.energy = .dormant then true
  else if e = .dormant then false else s.engine.freshHold

theorem dormantEdge_eq (u : State) (before : Energy) : u.dormantEdge before = { u with
    engine := { u.engine with
      freshHold := if before = .dormant then true
        else if u.planner.energy = .dormant then false else u.engine.freshHold
      readRequest := u.engine.readRequest || (before = .dormant && u.engine.port ≠ .reading) }
    planner := { u.planner with halt := if before = .dormant then none else u.planner.halt } } := by
  unfold State.dormantEdge State.requestRead
  by_cases leaves : before = .dormant
  · by_cases reading : u.engine.port = .reading <;> simp [leaves, reading]
  · simp only [if_neg leaves, decide_eq_false leaves, Bool.false_and, Bool.or_false]
    split <;> rfl

theorem setMode_eq (u : State) (e : Energy) :
    u.setMode e = { u with rx := { rxInMode u.loader.loaded u.elapsed e u.rx with radio := u.rx.radio } } := by
  unfold State.setMode
  cases e <;> simp [rxInMode, State.after]

/-- What planner and engine find at a scan completion, by the energy state `e` it leaves. -/
structure Handed (s : State) (dt : Nat) (a v : State) (e : Energy) : Prop where
  planner : v.planner = { a.planner with
    staged := if e = s.planner.energy then s.planner.staged else unstaged s
    halt := if e ≠ s.planner.energy ∧ s.planner.energy = .dormant then none else s.planner.halt }
  engine : v.engine = { s.engine with
    lines := v.engine.lines
    freshHold := holdAfter s e
    readRequest := s.engine.readRequest ||
      (e ≠ s.planner.energy && s.planner.energy = .dormant && s.engine.port ≠ .reading) }
  lines : ∀ n, v.engine.lines.get n = reportedLine s v n
  board : v.board = { s.board with
    targets := if e = s.planner.energy then s.board.targets else v.composedTargets }
  rx : v.rx = if e ≠ s.planner.energy ∨ s.sense.history = [] then
    { rxInMode s.loader.loaded v.elapsed e s.rx with radio := s.rx.radio } else s.rx
  moves : MovesOnly [.scanCompleted, .ampleEntered, .leanEntered, .scarceEntered, .dormantEntered, .stagedWithdrawn,
    .boardRecomposed, .targetChange] s v
  counted : CountedOf [.scanCompleted, .ampleEntered, .leanEntered, .scarceEntered, .dormantEntered, .stagedWithdrawn]
    (.scanCompleted :: if e = s.planner.energy then [] else entryCounter e :: withdrawals s) s v

theorem handed_frame (s : State) (dt : Nat) (counts : BitVec 12) : let v := handed s dt counts
    v.pending = s.pending ∧ v.elapsed = s.elapsed + dt ∧ v.loader = s.loader ∧ v.clock = (s.advance dt).clock ∧
      v.sheets = s.sheets ∧ v.table = s.table ∧ v.sense = ((s.advance dt).takeVoltage counts).sense ∧ v.tx = s.tx := by
  simp [handed, accounted, State.account]

theorem handed_is (s : State) (dt : Nat) (counts : BitVec 12) :
    Handed s dt (accounted s dt counts) (handed s dt counts) (accounted s dt counts).planner.energy := by
  obtain ⟨a, ha⟩ : ∃ a, a = accounted s dt counts := ⟨_, rfl⟩
  have hv : handed s dt counts = a.handOnEnergy s.planner.energy s.sense.history.isEmpty := by rw [ha]; rfl
  have engine : a.engine = s.engine := by rw [ha]; rfl
  have board : a.board = s.board := by rw [ha]; rfl
  have staged : a.planner.staged = s.planner.staged := by rw [ha]; rfl
  have halt : a.planner.halt = s.planner.halt := by rw [ha]; rfl
  have rx : a.rx = s.rx := by rw [ha]; rfl
  have loader : a.loader = s.loader := by rw [ha]; rfl
  have counted : Counted [.scanCompleted] s a := by rw [ha]; exact counted_one rfl
  have moves : MovesOnly [.scanCompleted] s a := by rw [ha]; exact movesOnly_count (movesOnly_of_counters rfl) (by decide)
  have gone : withdrawals a = withdrawals s ∧ unstaged a = unstaged s := by rw [ha]; exact ⟨rfl, rfl⟩
  rw [← ha, hv]
  by_cases same : a.planner.energy = s.planner.energy
  · have moved : a.handOnEnergy s.planner.energy s.sense.history.isEmpty = { a with
        rx := if s.sense.history = [] then { rxInMode s.loader.loaded a.elapsed a.planner.energy s.rx with
          radio := s.rx.radio } else s.rx } := by
      rw [State.handOnEnergy, if_neg (not_not.2 same)]
      by_cases first : s.sense.history = []
      · simp only [first, List.isEmpty_nil, if_true, setMode_eq, rx, loader]
      · simp only [first, List.isEmpty_eq_false_iff.2 first, if_false, ← rx, Bool.false_eq_true]
    obtain ⟨v, hv⟩ : ∃ v, v = a.handOnEnergy s.planner.energy s.sense.history.isEmpty := ⟨_, rfl⟩
    rw [← hv]
    have lines : v.engine = s.engine := by rw [hv, moved]; exact engine
    have targets : v.board = s.board := by rw [hv, moved]; exact board
    have planner : v.planner = a.planner := by rw [hv, moved]
    have counters : v.counters = a.counters := by rw [hv, moved]
    have only := counted_congr counted rfl counters
    refine ⟨?_, ?_, fun n => ?_, ?_, ?_, ?_, ?_⟩
    · rw [planner, if_pos same, if_neg (fun changed => changed.1 same), ← staged, ← halt]
    · simp [lines, holdAfter, same]
    · rw [reportedLine_same (by rw [targets]), lines]
    · simp [targets, same]
    · rw [hv, moved]
      simp [same]
    · exact movesOnly_trans (movesOnly_mono (by decide) moves) (movesOnly_of_counters counters)
    · rw [if_pos same]
      exact countedOf_of_counted only
  · obtain ⟨w, hw⟩ : ∃ w, w = (a.count (enteredCounter a.planner.energy)).withdrawStaged := ⟨_, rfl⟩
    obtain ⟨p, hp⟩ : ∃ p, p = w.dormantEdge s.planner.energy := ⟨_, rfl⟩
    obtain ⟨v, hv⟩ : ∃ v, v = a.handOnEnergy s.planner.energy s.sense.history.isEmpty := ⟨_, rfl⟩
    have changed : v = (p.composeTargets).setMode p.planner.energy := by
      have energy : p.planner.energy = a.planner.energy := by simp [hp, hw]
      rw [hv, State.handOnEnergy, if_pos same, State.energyChanged, ← hw, ← hp, ← energy]
    have reports := composeTargets_reports p
    obtain ⟨only, withdrawn⟩ := withdrawStaged_eq (a.count (enteredCounter a.planner.energy))
    rw [← hw] at only withdrawn
    have wengine : w.engine = s.engine := by rw [only]; exact engine
    have wboard : w.board = s.board := by rw [only]; exact board
    have wrx : w.rx = s.rx := by rw [only]; exact rx
    have wloader : w.loader = s.loader := by rw [only]; exact loader
    have wplanner : w.planner = { a.planner with staged := unstaged s } := by rw [only, ← gone.2]; rfl
    rw [dormantEdge_eq] at hp
    have entered : enteredCounter a.planner.energy = entryCounter a.planner.energy := by
      cases a.planner.energy <;> rfl
    have emptied : p.planner.staged = unstaged s := by rw [hp]; simp [wplanner]
    have none : withdrawals p = [] := withdrawals_kept (by rw [emptied]; exact unstaged_kept s)
    have still : unstaged p = unstaged s := by rw [unstaged, none, if_pos rfl, emptied]
    have energy : p.planner.energy = a.planner.energy := by rw [hp]; simp [wplanner]
    have quiet : p.counters = w.counters := by rw [hp]
    rw [setMode_eq] at changed
    have counters : v.counters = p.composeTargets.counters := by rw [changed]
    rw [← hv]
    refine ⟨?_, ?_, fun n => ?_, ?_, ?_, ?_, ?_⟩
    · have planner : v.planner = p.composeTargets.planner := by rw [changed]
      rw [planner, reports.planner, emptied, still, ite_self, if_neg same, hp, wplanner]
      simp [same, halt]
    · have shown : v.engine = p.composeTargets.engine := by rw [changed]
      rw [shown, reports.engine, hp]
      simp [wengine, wplanner, holdAfter, same]
    · have line := reports.lines n
      have before : p.engine.lines = s.engine.lines ∧ p.board.targets = s.board.targets := by
        rw [hp, ← wengine, ← wboard]
        exact ⟨rfl, rfl⟩
      rw [changed]
      simpa [reportedLine, before] using line
    · have shown : v.board = p.composeTargets.board := by rw [changed]
      have composed : v.composedTargets = p.composedTargets := by
        rw [changed]
        exact composedTargets_congr (by simp) (by simp) (by simp) (by simp) (by simp) (by simp) (by simp)
      have before : p.board = s.board := by rw [hp]; exact wboard
      rw [shown, reports.board, composed, if_neg same, before]
    · have before : p.rx = s.rx ∧ p.loader = s.loader := by rw [hp]; exact ⟨wrx, wloader⟩
      rw [if_pos (.inl same), changed]
      simp [before, energy]
    · have first : MovesOnly [.ampleEntered, .leanEntered, .scarceEntered, .dormantEntered] a
          (a.count (enteredCounter a.planner.energy)) :=
        movesOnly_count (movesOnly_of_counters rfl) (by cases a.planner.energy <;> decide)
      have second : MovesOnly [.stagedWithdrawn] (a.count (enteredCounter a.planner.energy)) w := by
        rw [hw]
        exact withdrawStaged_movesOnly _
      have third : MovesOnly [.boardRecomposed, .targetChange, .stagedWithdrawn] p v :=
        movesOnly_trans reports.moves (movesOnly_of_counters counters)
      exact movesOnly_trans (movesOnly_mono (by decide) moves) (movesOnly_trans (movesOnly_mono (by decide) first)
        (movesOnly_trans (movesOnly_mono (by decide) second) (movesOnly_trans (movesOnly_of_counters quiet)
          (movesOnly_mono (by decide) third))))
    · have taken : Counted (.scanCompleted :: entryCounter a.planner.energy :: withdrawals s) s w := by
        have one : Counted [entryCounter a.planner.energy] a (a.count (enteredCounter a.planner.energy)) := by
          rw [entered]
          exact counted_one rfl
        rw [show withdrawals (a.count (enteredCounter a.planner.energy)) = withdrawals s from gone.1] at withdrawn
        exact counted_trans counted (counted_trans one withdrawn)
      rw [if_neg same]
      have edge : Counted (.scanCompleted :: entryCounter a.planner.energy :: withdrawals s) s p := counted_congr taken rfl quiet
      intro k listed below
      rw [State.counter_congr counters k]
      by_cases withdrawal : k = .stagedWithdrawn
      · have again := countedOf_append (countedOf_of_counted edge) reports.withdrawn
        rw [none, ite_self, List.append_nil] at again
        exact again k (by simp [withdrawal]) below
      · rw [reports.moves k (by rintro (_ | ⟨_, _ | ⟨_, _ | ⟨_, ⟨⟩⟩⟩⟩) <;> simp at listed withdrawal)]
        exact edge k below

end Sys2Proof.Proofs
end

section
/-! PROOF. A scan completion that finds the energy state as it was, or a SUSPENDED job (O45, O46). -/

namespace Sys2Proof.Proofs

open Sys2Proof Sys2Proof.Machine Sys2Proof.Claims

/-! ### The end of a scan completion -/

/-- The end of a command counts at most a frame cut off (R151). -/
theorem finish_movesOnly (s : State) : MovesOnly [.truncated] s s.finish := by
  have followed (u : State) : MovesOnly [.truncated] u u.followRadio := by
    unfold State.followRadio State.enterHunt
    split
    · split
      · exact movesOnly_count (movesOnly_of_counters rfl) (by decide)
      · exact movesOnly_of_counters rfl
    · exact movesOnly_of_counters rfl
  have closed (u : State) : u.closeHeld.counters = u.counters := by
    unfold State.closeHeld
    split <;> rfl
  exact movesOnly_trans (movesOnly_of_counters (by simp)) (movesOnly_trans (movesOnly_of_counters (closed _)) (followed _))

/-- The send side after a scan completion's work `u` (R161). -/
theorem arbitrateOnChange_eq (u : State) (before : Energy) : u.arbitrateOnChange before = { u with
    tx := if u.planner.energy = before then u.tx else arbitrated u u.tx u.elapsed } := by
  unfold State.arbitrateOnChange
  split
  · rfl
  · exact arbitrate_eq u

/-- The state a scan completion leaves. -/
def scanned (s : State) (dt : Nat) (counts : BitVec 12) : State :=
  ((handed s dt counts).scanJobs.arbitrateOnChange s.planner.energy).finish

/-- What planner and engine leave of a scan completion is what it ends with, but for the port. -/
theorem scanned_is (s : State) (dt : Nat) (counts : BitVec 12) : let w := (handed s dt counts).scanJobs
    let t := scanned s dt counts
    t.planner = w.planner ∧ PortServes w t ∧ t.board = w.board ∧ t.sense = w.sense ∧ t.elapsed = w.elapsed ∧
      t.loader = w.loader ∧ MovesOnly [.truncated] w t := by
  intro w t
  have ended : t = (w.arbitrateOnChange s.planner.energy).finish := rfl
  have counters : (w.arbitrateOnChange s.planner.energy).counters = w.counters := by
    rw [arbitrateOnChange_eq]
  rw [ended]
  refine ⟨by simp, portServes_finish (by simp), by simp, by simp, by simp, by simp, ?_⟩
  exact movesOnly_trans (movesOnly_of_counters counters) (finish_movesOnly _)

theorem scanned_energy (s : State) (dt : Nat) (counts : BitVec 12) :
    (scanned s dt counts).planner.energy = (accounted s dt counts).planner.energy ∧
      (handed s dt counts).planner.energy = (accounted s dt counts).planner.energy := by
  obtain ⟨planner, -⟩ := scanned_is s dt counts
  have kept : (handed s dt counts).planner.energy = (accounted s dt counts).planner.energy := by simp [handed]
  exact ⟨by rw [planner, ← kept]; simp, kept⟩

/-- A scan completion that leaves the energy state as it is leaves engine and board to the planning that follows. -/
theorem handed_same {s : State} {dt : Nat} {counts : BitVec 12}
    (same : (accounted s dt counts).planner.energy = s.planner.energy) :
    (handed s dt counts).engine = s.engine ∧ (handed s dt counts).board = s.board ∧
      (handed s dt counts).planner.staged = s.planner.staged := by
  have h := handed_is s dt counts
  have board : (handed s dt counts).board = s.board := by rw [h.board, if_pos same]
  have lines : (handed s dt counts).engine.lines = s.engine.lines := by
    refine Vector.ext fun n below => ?_
    have line := h.lines ⟨n, below⟩
    rwa [reportedLine_same (by rw [board])] at line
  refine ⟨?_, board, by rw [h.planner, if_pos same]⟩
  rw [h.engine, lines, same]
  simp [holdAfter]

/-! ### A RUNNING job on the glass (R106, R140) -/

theorem tryResume_running {s : State} {a : ActiveJob} (job : s.engine.active = some a) (running : a.state = .running) :
    s.tryResume = s := by
  unfold State.tryResume
  rw [job]
  exact if_neg (by simp [State.resumable, running])

theorem scanJobs_running {v : State} {a : ActiveJob} (awake : v.planner.energy ≠ .dormant) (job : v.engine.active = some a)
    (running : a.state = .running) : v.scanJobs = v.plan := by
  have kept : v.plan.engine.active = some a := by rw [plan_awake_engine awake, job]
  have blocked : v.plan.promoteJobs = v.plan := promoteJobs_blocked (.inl (by rw [kept]; exact Option.some_ne_none a))
  rw [State.scanJobs, State.planJobs, blocked, tryResume_running kept running, blocked]

theorem runningJob_replans (s : State) (dt : Nat) (counts : BitVec 12) (a : ActiveJob) (started : s.started = true)
    (converting : s.sense.converting = true) (job : s.engine.active = some a) (running : a.state = .running)
    (staged : s.planner.staged = none) (band : s.sense.band.drive = true) (sound : s.engine.faulted = false)
    (awake : s.planner.energy ≠ .dormant) : ∃ t, exec (.scanCompletion dt counts) s = .next t ∧
      (t.planner.energy = s.planner.energy →
        t.engine.active = some a ∧ t.engine.lines = s.engine.lines ∧ t.board = s.board ∧
        ∃ cs, PlansBand t s.planner.nextJob t.planner.staged t.planner.nextJob t.planner.hold cs ∧
          CountedOf [.jobStaged, .bandNarrowed, .stagingHeld] cs s t) := by
  refine ⟨scanned s dt counts, scan_run started converting, fun same => ?_⟩
  obtain ⟨energy, kept⟩ := scanned_energy s dt counts
  rw [energy] at same
  obtain ⟨v, hv⟩ : ∃ v, v = handed s dt counts := ⟨_, rfl⟩
  have h := handed_is s dt counts
  obtain ⟨engine, board, slot⟩ := handed_same same
  obtain ⟨planner, ⟨port, -⟩, shown, sense, elapsed, loader, ends⟩ := scanned_is s dt counts
  obtain ⟨-, -, -, -, -, -, judged, -⟩ := handed_frame s dt counts
  have next : v.planner.nextJob = s.planner.nextJob := by rw [hv, h.planner]; rfl
  have go : v.planner.hold = false := by rw [hv, h.planner]; rfl
  rw [← hv] at kept engine board slot planner port shown sense elapsed loader ends judged h
  have awake' : v.planner.energy ≠ .dormant := by rwa [kept, same]
  rw [scanJobs_running awake' (by rw [engine, job]) running] at planner port shown sense elapsed loader ends
  have free : MayPlan v := ⟨slot.trans staged, go, by rw [judged]; exact band, by rw [engine, sound]⟩
  obtain ⟨cs, plans, counted⟩ := plan_plans awake' free
  have still : v.plan.engine = s.engine := (plan_awake_engine awake').trans engine
  have alike : PlansAlike v.plan (scanned s dt counts) :=
    ⟨by rw [loader], by rw [shown], by rw [port], by rw [port], by rw [planner], by rw [planner], by rw [planner],
      by rw [sense], elapsed⟩
  refine ⟨by rw [port, still]; exact job, by rw [port, still], by rw [shown]; simp [board], cs, ?_, ?_⟩
  · rw [← next, planner]
    exact ((plan_alike awake').trans alike).plansBand plans
  · exact countedOf_within h.moves (by decide) (countedOf_of_counted counted) ends (by decide)

/-- Settles O46: planning outside DORMANT, and a scan completion beside a RUNNING job. -/
theorem planningStagesABand : Obligations.PlanningStagesABand :=
  ⟨plansBand_part, fun s dt counts a started _ converting job running staged band sound awake =>
    runningJob_replans s dt counts a started converting job running staged band sound awake⟩

end Sys2Proof.Proofs
end

section
/-! PROOF. A scan completion: voltage, energy state, receive mode, and a SUSPENDED job (O45). -/

namespace Sys2Proof.Proofs

open Sys2Proof Sys2Proof.Machine Sys2Proof.Claims

/-! ### The account (R95, R97, R98, R139, R140) -/

theorem pushVoltage_eq {h : List Nat} (short : h.length ≤ 3) (v : Nat) :
    pushVoltage h v = (h ++ [v]).drop (h.length - 2) := by
  unfold pushVoltage
  simp only [List.length_append, List.length_singleton]
  by_cases full : 3 < h.length + 1
  · rw [if_pos full, show h.length - 2 = 1 by omega]
  · rw [if_neg full, show h.length - 2 = 0 by omega, List.drop_zero]

/-- The median is one of the voltages, with one not above and one not below it where there are three (R140). -/
theorem medianOf_middle (a b d : Nat) : let v := medianOf [a, b, d]
    (v = a ∨ v = b ∨ v = d) ∧ ∃ x y, [a, b, d].Perm [x, v, y] ∧ x ≤ v ∧ v ≤ y := by
  intro v
  have middle : v = max (min a b) (min (max a b) d) := rfl
  have cases_ : (v = a ∧ (b ≤ v ∧ v ≤ d ∨ d ≤ v ∧ v ≤ b)) ∨ (v = b ∧ (a ≤ v ∧ v ≤ d ∨ d ≤ v ∧ v ≤ a)) ∨
      (v = d ∧ (a ≤ v ∧ v ≤ b ∨ b ≤ v ∧ v ≤ a)) := by omega
  have perm (x y z : Nat) : [x, y, z].Perm [y, x, z] := .swap y x [z]
  have last (x y z : Nat) : [x, y, z].Perm [x, z, y] := .cons x (.swap z y [])
  rcases cases_ with ⟨same, order⟩ | ⟨same, order⟩ | ⟨same, order⟩ <;> refine ⟨by simp [same], ?_⟩ <;> rw [same] at order ⊢
  · rcases order with order | order
    · exact ⟨b, d, perm a b d, order⟩
    · exact ⟨d, b, (last a b d).trans (perm a d b), order⟩
  · rcases order with order | order
    · exact ⟨a, d, .refl _, order⟩
    · exact ⟨d, a, (perm a b d).trans ((last b a d).trans (perm b d a)), order⟩
  · rcases order with order | order
    · exact ⟨a, b, last a b d, order⟩
    · exact ⟨b, a, (perm a b d).trans (last b a d), order⟩

theorem availableEnergy_eq (c : Loaded) (v : Nat) : availableEnergy c v =
    if v > c.floorVoltage then (100 * c.capacitance * (v ^ 2 - c.floorVoltage ^ 2)) / 2000000 else 0 := by
  rw [availableEnergy, sq, sq]

theorem nextEnergy_eq (c : Loaded) (before : Energy) (eav tp tl : Nat) :
    nextEnergy c before eav tp tl = energyAfter c before eav tp tl := by
  unfold nextEnergy energyAfter richState
  by_cases parks : eav ≤ tp
  · rw [if_pos parks, if_pos parks]
  · rw [if_neg parks, if_neg parks]
    cases before <;> simp

theorem parkThreshold_eq (c : Loaded) (b : Band) : parkThresholdOf c b = c.reserve + 9 * (match b with
    | .b2 => c.clearingCost.b2
    | .b3 => c.clearingCost.b3
    | .b4 => c.clearingCost.b4
    | _ => c.clearingCost.b1) := by
  cases b <;> rfl

theorem entryCounter_eq (e : Energy) : entryCounter e ∈ [.ampleEntered, .leanEntered, .scarceEntered, .dormantEntered] := by
  cases e <;> decide

/-! ### The receive mode (R155, R158) -/

/-- In the mode an energy state sets, radio power is on (R155, R158). -/
theorem finish_inMode {u : State} {c : Loaded} {e : Energy} {r : Receiver} {radio : Bool} (started : u.started = true)
    (rx : u.rx = { rxInMode c u.elapsed e r with radio := radio }) : u.finish.rx = rxInMode c u.elapsed e r := by
  have served : u.servePort.rx = { rxInMode c u.elapsed e r with radio := radio } := by simpa using rx
  have wanted : u.servePort.radioWanted = true := by
    refine radioWanted_iff.2 ⟨by simpa [State.started] using started, fun sniff => .inr (.inr ?_)⟩
    rw [served] at sniff ⊢
    have dormant : e = .dormant := by
      by_contra other
      simp only [rxInMode, if_neg other] at sniff
      split at sniff <;> cases sniff
    exact ⟨u.elapsed, by simp [rxInMode, dormant], by simp⟩
  have shut : ¬ (u.servePort.rx.window = .held ∧ u.servePort.rx.state ≠ .assemble) := by
    rw [served]
    simp [rxInMode]
  rw [State.finish, State.settleRadio, closeHeld_of_not shut, followRadio_of_wanted wanted, served]
  rfl

/-! ### A SUSPENDED job at a scan completion (R132) -/

/-- A SUSPENDED job resumed (R132). -/
def resumed (s : State) (a : ActiveJob) : State := State.count
  { s with engine := { s.engine with active := some { a with state := .running, loaded := false }, suspendedAt := none } }
  .resumptions

/-- Planning beside the PARK job, or outside DORMANT, is the planner's alone. -/
theorem plan_beside {s : State} {a : ActiveJob} (job : s.engine.active = some a)
    (normal : a.job.kind = .normal → s.planner.energy ≠ .dormant) : s.plan.engine = s.engine ∧
      s.plan.planner.halt = s.planner.halt ∧ MovesOnly bandCounters s s.plan := by
  by_cases dormant : s.planner.energy = .dormant
  · have park : a.job.kind = .park := by
      cases kind : a.job.kind with
      | park => rfl
      | normal => exact absurd dormant (normal kind)
    rw [plan_parked job park dormant]
    exact ⟨rfl, rfl, movesOnly_of_counters rfl⟩
  · have halt := congrArg (fun s => s.planner.halt) (plan_awake dormant).1
    exact ⟨plan_awake_engine dormant, halt, (plan_awake dormant).2⟩

theorem planJobs_beside {s : State} {a : ActiveJob} (job : s.engine.active = some a)
    (normal : a.job.kind = .normal → s.planner.energy ≠ .dormant) : s.planJobs = s.plan :=
  promoteJobs_blocked (.inl (by rw [(plan_beside job normal).1, job]; exact Option.some_ne_none a))

theorem scanJobs_suspended {v : State} {a : ActiveJob} (job : v.engine.active = some a)
    (normal : a.job.kind = .normal → v.planner.energy ≠ .dormant) :
    v.scanJobs = if v.plan.resumable a then (resumed v.plan a).plan else v.plan := by
  have kept : v.plan.engine.active = some a := by rw [(plan_beside job normal).1, job]
  have taken (u : State) (b : ActiveJob) (job' : u.engine.active = some b) : u.promoteJobs = u :=
    promoteJobs_blocked (.inl (by rw [job']; exact Option.some_ne_none b))
  have resume : v.plan.tryResume = if v.plan.resumable a then (resumed v.plan a).planJobs else v.plan := by
    unfold State.tryResume
    rw [kept]
    rfl
  have again : (resumed v.plan a).planJobs = (resumed v.plan a).plan :=
    planJobs_beside (a := { a with state := .running, loaded := false }) rfl (by simpa [resumed] using normal)
  have on := (plan_beside (s := resumed v.plan a) (a := { a with state := .running, loaded := false }) rfl
    (by simpa [resumed] using normal)).1
  rw [State.scanJobs, planJobs_beside job normal, resume, again]
  split
  · exact taken _ { a with state := .running, loaded := false } (by rw [on]; rfl)
  · exact taken _ a kept

theorem resumable_iff {w : State} {a : ActiveJob} (suspended : a.state = .suspended)
    (normal : a.job.kind = .normal → w.planner.energy ≠ .dormant) : w.resumable a = true ↔
      w.sense.storeLow = false ∧ w.sense.band.drive = true ∧ w.engine.freshHold = false ∧
        w.planner.halt ≠ some a.job.number ∧
        costLeft a.job + (if a.job.kind = .normal then w.loader.loaded.reserve else 0) ≤ w.planner.available ∧
        (a.job.mode = .partialMode → ∀ n : Fin 10, a.job.first ≤ n.val → n.val ≤ a.job.last →
          (w.engine.lines.get n).ghost < w.loader.loaded.ghostLimit ∧ (w.engine.lines.get n).condition = .settled) := by
  have covers : w.energyCovers a.job = true ↔
      costLeft a.job + (if a.job.kind = .normal then w.loader.loaded.reserve else 0) ≤ w.planner.available := by
    unfold State.energyCovers
    cases a.job.kind <;> simp [costLeft_eq]
  have kind : (a.job.kind = .park ∨ w.planner.energy ≠ .dormant) := by
    cases kind : a.job.kind with
    | park => exact .inl rfl
    | normal => exact .inr (normal kind)
  simp only [State.resumable, Bool.and_eq_true, Bool.not_eq_true', Bool.or_eq_true, decide_eq_true_eq, bne_iff_ne,
    State.halted, decide_eq_false_iff_not, covers, linesReady_iff, suspended, kind, true_and, and_true, and_assoc]

/-! ### What the planner keeps outside DORMANT -/

/-- What a scan completion's planning and resumption may count outside DORMANT (R117, R138). -/
def awakeCounters : List Counter := [.jobPromoted, .jobStaged, .bandNarrowed, .stagingHeld, .resumptions]

/-- What planning, promotion and resumption keep outside DORMANT. -/
structure KeepsAwake (s t : State) : Prop where
  energy : t.planner.energy = s.planner.energy
  halt : t.planner.halt = s.planner.halt
  lines : t.engine.lines = s.engine.lines
  moves : MovesOnly awakeCounters s t

namespace KeepsAwake

theorem refl (s : State) : KeepsAwake s s := ⟨rfl, rfl, rfl, movesOnly_of_counters rfl⟩

theorem trans {s t u : State} (h : KeepsAwake s t) (h' : KeepsAwake t u) : KeepsAwake s u :=
  ⟨h'.energy.trans h.energy, h'.halt.trans h.halt, h'.lines.trans h.lines, movesOnly_trans h.moves h'.moves⟩

theorem plan {s : State} (awake : s.planner.energy ≠ .dormant) : KeepsAwake s s.plan := by
  obtain ⟨only, moves⟩ := plan_awake awake
  exact ⟨by simp, congrArg (fun s => s.planner.halt) only, by rw [plan_awake_engine awake],
    movesOnly_mono (by decide) moves⟩

theorem promoteJobs {s : State} (awake : s.planner.energy ≠ .dormant) : KeepsAwake s s.promoteJobs := by
  unfold State.promoteJobs
  split
  · exact refl s
  next j _ =>
    split
    · have promoted : KeepsAwake s (s.promote j) :=
        ⟨rfl, rfl, rfl, movesOnly_count (movesOnly_of_counters rfl) (by decide)⟩
      exact promoted.trans (plan (by rwa [promoted.energy]))
    · exact refl s

theorem planJobs {s : State} (awake : s.planner.energy ≠ .dormant) : KeepsAwake s s.planJobs :=
  (plan awake).trans (promoteJobs (by rwa [(plan awake).energy]))

theorem tryResume {s : State} (awake : s.planner.energy ≠ .dormant) : KeepsAwake s s.tryResume := by
  unfold State.tryResume
  split
  · exact refl s
  next a _ =>
    split
    · have resumes : KeepsAwake s (resumed s a) :=
        ⟨rfl, rfl, rfl, movesOnly_count (movesOnly_of_counters rfl) (by decide)⟩
      exact resumes.trans (planJobs (by rwa [resumes.energy]))
    · exact refl s

theorem scanJobs {s : State} (awake : s.planner.energy ≠ .dormant) : KeepsAwake s s.scanJobs := by
  have planned := planJobs awake
  have resumes := planned.trans (tryResume (by rwa [planned.energy]))
  exact resumes.trans (promoteJobs (by rwa [resumes.energy]))

end KeepsAwake

theorem scanJobs_movesOnly (s : State) : MovesOnly (.resumptions :: .jobPromoted :: planCounters) s s.scanJobs := by
  have resumes (u : State) : MovesOnly (.resumptions :: .jobPromoted :: planCounters) u u.tryResume := by
    unfold State.tryResume
    split
    · exact movesOnly_of_counters rfl
    next a _ =>
      split
      · exact movesOnly_trans (movesOnly_count (movesOnly_of_counters rfl) (by decide))
          (movesOnly_mono (by decide) (planJobs_movesOnly (resumed u a)))
      · exact movesOnly_of_counters rfl
  exact movesOnly_trans (movesOnly_mono (by decide) (planJobs_movesOnly s))
    (movesOnly_trans (resumes _) (movesOnly_mono (by decide) (promoteJobs_movesOnly _)))

/-- A read that has been asked for is made at the latest when the port is IDLE (R123, R136). -/
theorem finish_asked {u : State} (asked : u.engine.readRequest = true ∨ u.engine.port = .reading) :
    u.finish.engine.readRequest = true ∨ u.finish.engine.port = .reading := by
  have served : u.finish.engine = u.servePort.engine := by simp [State.finish]
  rw [served, State.servePort]
  by_cases idle : u.engine.port = .idle
  · rcases asked with request | reading
    · right
      rw [if_pos idle, if_pos request]
    · rw [idle] at reading
      cases reading
  · rw [if_neg idle]
    exact asked

/-! ### The whole of it -/

/-- A scan completion's receive side (R155). -/
theorem scanned_rx {s : State} {dt : Nat} {counts : BitVec 12} (started : s.started = true) :
    let t := scanned s dt counts
    let e := (accounted s dt counts).planner.energy
    if e ≠ s.planner.energy ∨ s.sense.history = [] then t.rx = rxInMode s.loader.loaded t.elapsed e s.rx
    else RxSettles s.rx.queue s t := by
  intro t e
  obtain ⟨v, hv⟩ : ∃ v, v = handed s dt counts := ⟨_, rfl⟩
  obtain ⟨u, hu⟩ : ∃ u, u = v.scanJobs.arbitrateOnChange s.planner.energy := ⟨_, rfl⟩
  have ended : t = u.finish := by rw [hu, hv]; rfl
  have rx : u.rx = v.rx := by simp [hu]
  have set := (handed_is s dt counts).rx
  rw [← hv, ← rx] at set
  have loader : v.loader = s.loader := by rw [hv]; exact (handed_frame s dt counts).2.2.1
  have started' : u.started = true := by simpa [State.started, hu, loader] using started
  have same : u.elapsed = v.elapsed := by simp [hu]
  have elapsed : t.elapsed = u.elapsed := by rw [ended]; simp
  split at set
  next change =>
    rw [if_pos change, ended, ← ended, elapsed, ended]
    exact finish_inMode started' (by rw [set, same])
  next still =>
    rw [if_neg still, ended]
    exact rxSettles_finish started' set

/-- What a scan completion leaves of the blocks it does not plan for. -/
theorem scanned_frame (s : State) (dt : Nat) (counts : BitVec 12) : let t := scanned s dt counts
    t.pending = s.pending ∧ t.elapsed = s.elapsed + dt ∧ t.loader = s.loader ∧ t.clock = (s.advance dt).clock ∧
      t.sheets = s.sheets ∧ t.table = s.table ∧ t.sense = ((s.advance dt).takeVoltage counts).sense := by
  obtain ⟨pending, elapsed, loader, clock, sheets, table, sense, -⟩ := handed_frame s dt counts
  simp [scanned, pending, elapsed, loader, clock, sheets, table, sense]

theorem scanned_board (s : State) (dt : Nat) (counts : BitVec 12) : let t := scanned s dt counts
    t.board = { s.board with targets := if (accounted s dt counts).planner.energy = s.planner.energy then s.board.targets
      else t.composedTargets } := by
  intro t
  have h := handed_is s dt counts
  have shown : t.board = (handed s dt counts).board := by simp [t, scanned]
  have composed : t.composedTargets = (handed s dt counts).composedTargets :=
    composedTargets_congr (by simp [t, scanned]) (by simp [t, scanned]) (by simp [t, scanned]) (by simp [t, scanned])
      (by simp [t, scanned]) (by simp [t, scanned]) (by simp [t, scanned])
  rw [shown, h.board, composed]

theorem scanned_tx (s : State) (dt : Nat) (counts : BitVec 12) : let t := scanned s dt counts
    t.tx = if (accounted s dt counts).planner.energy = s.planner.energy then s.tx else arbitrated t s.tx t.elapsed := by
  intro t
  obtain ⟨w, hw⟩ : ∃ w, w = (handed s dt counts).scanJobs := ⟨_, rfl⟩
  have send : w.tx = s.tx := by rw [hw]; simp [handed_frame s dt counts]
  have energy : w.planner.energy = (accounted s dt counts).planner.energy := by
    rw [hw]; simp [(scanned_energy s dt counts).2]
  have shown : t.tx = (w.arbitrateOnChange s.planner.energy).tx := by simp [t, scanned, hw]
  have alike : arbitrated t s.tx t.elapsed = arbitrated w s.tx w.elapsed := by
    have same : t.elapsed = w.elapsed := by simp [t, scanned, hw]
    rw [same]
    exact arbitrated_congr (by simp [t, scanned, hw]) (by simp [t, scanned, hw]) (by simp [t, scanned, hw]) _ _
  rw [shown, arbitrateOnChange_eq, alike, energy, send]

/-- A scan completion that leaves DORMANT asks for a read and clears the halt request (R115, R143). -/
theorem scanned_leaves {s : State} {dt : Nat} {counts : BitVec 12}
    (awake : (accounted s dt counts).planner.energy ≠ .dormant) (before : s.planner.energy = .dormant) :
    let t := scanned s dt counts
    t.planner.halt = none ∧ (t.engine.readRequest = true ∨ t.engine.port = .reading) := by
  intro t
  obtain ⟨v, hv⟩ : ∃ v, v = handed s dt counts := ⟨_, rfl⟩
  have h := handed_is s dt counts
  obtain ⟨planner, serves, -⟩ := scanned_is s dt counts
  have energy := (scanned_energy s dt counts).2
  rw [← hv] at h planner serves energy
  have change : (accounted s dt counts).planner.energy ≠ s.planner.energy := fun same => awake (same.trans before)
  have cleared : v.planner.halt = none := by
    rw [h.planner]
    exact if_pos ⟨change, before⟩
  have asks : v.engine.readRequest = true ∨ v.engine.port = .reading := by
    rw [h.engine]
    by_cases reading : s.engine.port = .reading
    · exact .inr reading
    · exact .inl (by simp [awake, before, reading])
  refine ⟨?_, ?_⟩
  · rw [planner, (KeepsAwake.scanJobs (by rwa [energy])).halt, cleared]
  · have ended : t = (v.scanJobs.arbitrateOnChange s.planner.energy).finish := by rw [hv]; rfl
    rw [ended]
    exact finish_asked (by simpa using asks)

/-- A job SUSPENDED at a scan completion resumes or stays as it is (R132). -/
theorem scanned_suspended {s t : State} {dt : Nat} {counts : BitVec 12} {a : ActiveJob} (ended : t = scanned s dt counts) (job : s.engine.active = some a)
    (suspended : a.state = .suspended)
    (normal : a.job.kind = .normal → (accounted s dt counts).planner.energy ≠ .dormant) :
    let c := s.loader.loaded
    let resumes := s.sense.storeLow = false ∧ s.sense.band.drive = true ∧ t.engine.freshHold = false ∧
      t.planner.halt ≠ some a.job.number ∧
      costLeft a.job + (if a.job.kind = .normal then c.reserve else 0) ≤ (accounted s dt counts).planner.available ∧
      (a.job.mode = .partialMode → ∀ n : Fin 10, a.job.first ≤ n.val → n.val ≤ a.job.last →
        (s.engine.lines.get n).ghost < c.ghostLimit ∧ (s.engine.lines.get n).condition = .settled)
    (resumes → t.engine.active = some { a with state := .running, loaded := false } ∧
      t.engine.suspendedAt = none ∧ CountedOf [.resumptions] [.resumptions] s t) ∧
    (¬ resumes → t.engine.active = some a ∧ t.engine.suspendedAt = s.engine.suspendedAt ∧
      CountedOf [.resumptions] [] s t) := by
  intro c resumes
  obtain ⟨v, hv⟩ : ∃ v, v = handed s dt counts := ⟨_, rfl⟩
  have h := handed_is s dt counts
  obtain ⟨planner, ⟨serves, -⟩, -, -, -, -, ends⟩ := scanned_is s dt counts
  rw [← ended] at planner serves ends
  have energy := (scanned_energy s dt counts).2
  obtain ⟨-, -, loader, -, -, -, sense, -⟩ := handed_frame s dt counts
  rw [← hv] at h planner serves ends energy loader sense
  have job' : v.engine.active = some a := by rw [h.engine]; exact job
  have normal' : a.job.kind = .normal → v.planner.energy ≠ .dormant := fun kind => energy ▸ normal kind
  obtain ⟨engine, halt, moves⟩ := plan_beside job' normal'
  have jobs := scanJobs_suspended job' normal'
  have on := plan_beside (s := resumed v.plan a) (a := { a with state := .running, loaded := false }) rfl
    (by simpa [resumed] using normal')
  obtain ⟨onEngine, onHalt, onMoves⟩ := on
  have halts : t.planner.halt = v.plan.planner.halt := by
    rw [planner, jobs]
    split
    · exact onHalt
    · rfl
  have hold : t.engine.freshHold = v.plan.engine.freshHold := by
    have shown := congrArg Engine.freshHold serves
    rw [jobs] at shown
    split at shown
    · have kept : (resumed v.plan a).plan.engine.freshHold = v.plan.engine.freshHold := by rw [onEngine]; rfl
      exact shown.trans kept
    · exact shown
  have lines (n : Fin 10) : (v.plan.engine.lines.get n).ghost = (s.engine.lines.get n).ghost ∧
      (v.plan.engine.lines.get n).condition = (s.engine.lines.get n).condition := by
    rw [engine, h.lines, reportedLine]
    dsimp only
    split <;> exact ⟨rfl, rfl⟩
  have available : v.plan.planner.available = (accounted s dt counts).planner.available := by
    simp [h.planner]
  have low : v.plan.sense.storeLow = s.sense.storeLow := by simp only [State.plan_frame, sense]; rfl
  have band : v.plan.sense.band = s.sense.band := by simp only [State.plan_frame, sense]; rfl
  have loaded : v.plan.loader = s.loader := by simp only [State.plan_frame, loader]
  have iff : v.plan.resumable a = true ↔ resumes := by
    have conditions := resumable_iff (w := v.plan) suspended (by simpa using normal')
    rw [low, band, loaded, available, ← halts, ← hold] at conditions
    simp only [lines] at conditions
    exact conditions
  constructor
  · intro yes
    rw [if_pos (iff.2 yes)] at jobs
    rw [jobs] at serves ends
    have job : (resumed v.plan a).plan.engine.active = some { a with state := .running, loaded := false } := by
      rw [onEngine]; rfl
    have since : (resumed v.plan a).plan.engine.suspendedAt = none := by rw [onEngine]; rfl
    refine ⟨(congrArg Engine.active serves).trans job, (congrArg Engine.suspendedAt serves).trans since, ?_⟩
    have counted : Counted [.resumptions] v.plan (resumed v.plan a) := counted_one rfl
    have before := movesOnly_trans (movesOnly_mono (ds := (_ ++ bandCounters)) (List.subset_append_left _ _) h.moves)
      (movesOnly_mono (List.subset_append_right _ _) moves)
    exact countedOf_movesOnly (countedOf_within before (by decide) (countedOf_of_counted counted) onMoves (by decide))
      ends (by decide)
  · intro no
    rw [if_neg (mt iff.1 no)] at jobs
    rw [jobs] at serves ends
    have job : v.plan.engine.active = some a := by rw [engine, job']
    have since : v.plan.engine.suspendedAt = s.engine.suspendedAt := by rw [engine, h.engine]
    refine ⟨(congrArg Engine.active serves).trans job, (congrArg Engine.suspendedAt serves).trans since, ?_⟩
    exact countedOf_movesOnly (countedOf_movesOnly (countedOf_movesOnly (countedOf_of_counted (counted_nil rfl)) h.moves
      (by decide)) moves (by decide)) ends (by decide)

/-- The energy state of a scan completion, by the voltage `v` (R95, R97, R98). -/
theorem accounted_planner (s : State) (dt : Nat) (counts : BitVec 12) :
    let c := s.loader.loaded
    let v := medianOf (pushVoltage s.sense.history (voltageOf c counts))
    let tp := parkThresholdOf c s.sense.band
    let tl := leanThresholdOf c tp
    (accounted s dt counts).planner = { s.planner with
      voltage := some v, available := availableEnergy c v, parkThreshold := tp, leanThreshold := tl,
      energy := energyAfter c s.planner.energy (availableEnergy c v) tp tl, hold := false } := by
  intro c v tp tl
  rw [← nextEnergy_eq]
  rfl

theorem withdrawals_count (s : State) {k : Counter} (other : k ≠ .stagedWithdrawn) : (withdrawals s).count k = 0 := by
  unfold withdrawals
  split
  · simp [other.symm]
  · rfl

theorem scanned_freshHold (s : State) (dt : Nat) (counts : BitVec 12) : (scanned s dt counts).engine.freshHold =
    holdAfter s (accounted s dt counts).planner.energy := by
  have kept : (scanned s dt counts).engine.freshHold = (handed s dt counts).engine.freshHold := by simp [scanned]
  rw [kept, (handed_is s dt counts).engine]

theorem scanned_counted (s : State) (dt : Nat) (counts : BitVec 12) :
    CountedOf [.scanCompleted, .ampleEntered, .leanEntered, .scarceEntered, .dormantEntered]
      (.scanCompleted :: if (accounted s dt counts).planner.energy = s.planner.energy then []
        else [entryCounter (accounted s dt counts).planner.energy]) s (scanned s dt counts) := by
  obtain ⟨-, -, -, -, -, -, ends⟩ := scanned_is s dt counts
  have apart : ∀ k ∈ [Counter.scanCompleted, .ampleEntered, .leanEntered, .scarceEntered, .dormantEntered],
      k ∈ [Counter.scanCompleted, .ampleEntered, .leanEntered, .scarceEntered, .dormantEntered, .stagedWithdrawn] ∧
        k ≠ .stagedWithdrawn ∧ k ∉ Counter.resumptions :: .jobPromoted :: planCounters ∧ k ∉ [Counter.truncated] := by
    decide
  intro k own below
  obtain ⟨listed, other, jobs, cut⟩ := apart k own
  have counted := (handed_is s dt counts).counted k listed below
  rw [ends k cut, scanJobs_movesOnly _ k jobs, counted]
  split
  · rfl
  · simp [List.count_cons, withdrawals_count s other]

/-- Settles O45: the voltage, the account and what its change sets in motion, and a SUSPENDED job. -/
theorem scansDriveTheEnergyState : Obligations.ScansDriveTheEnergyState := by
  intro s dt counts started sound converting short c h tp tl
  obtain ⟨t, ended⟩ : ∃ t, t = scanned s dt counts := ⟨_, rfl⟩
  have account := accounted_planner s dt counts
  obtain ⟨e, he⟩ : ∃ e, e = (accounted s dt counts).planner.energy := ⟨_, rfl⟩
  have push : pushVoltage s.sense.history (voltageOf c counts) = h := pushVoltage_eq short _
  have park : parkThresholdOf c s.sense.band = tp := parkThreshold_eq c s.sense.band
  have lean : leanThresholdOf c tp = tl := rfl
  dsimp only at account
  rw [push, park, lean] at account
  obtain ⟨pending, elapsed, loader, clock, sheets, table, sense⟩ := scanned_frame s dt counts
  have board := scanned_board s dt counts
  have tx := scanned_tx s dt counts
  have rx := scanned_rx (counts := counts) (dt := dt) started
  have hold := scanned_freshHold s dt counts
  have counted := scanned_counted s dt counts
  dsimp only at board tx rx
  rw [← ended, ← he] at board tx rx hold
  rw [← ended] at pending elapsed loader clock sheets table sense
  refine ⟨t, medianOf h, by rw [ended]; exact scan_run started converting, ?_, ⟨elapsed, by rw [clock, advance_clock]⟩, ?_, ?_, ?_⟩
  · rw [ended, scanned]
    simp [onlyChanges_iff, handed_frame]
  · have long : h.length = min (s.sense.history.length + 1) 3 := by
      simp only [h, List.length_drop, List.length_append, List.length_singleton]
      omega
    match h, long with
    | [_], _ => rfl
    | [_, _], _ => rfl
    | [a, b, d], _ => exact medianOf_middle a b d
    | [], long =>
      rw [List.length_nil] at long
      omega
    | _ :: _ :: _ :: _ :: _, long =>
      simp only [List.length_cons] at long
      omega
  · rw [sense, ← push]
    rfl
  · intro eav e'
    have spare : availableEnergy s.loader.loaded (medianOf h) = eav := availableEnergy_eq c _
    rw [spare] at account
    have same : e = e' := by rw [he, account]
    have planner : t.planner.voltage = some (medianOf h) ∧ t.planner.available = eav ∧ t.planner.parkThreshold = tp ∧
        t.planner.leanThreshold = tl ∧ t.planner.energy = e := by
      have kept : (handed s dt counts).planner.voltage = some (medianOf h) ∧ (handed s dt counts).planner.available = eav ∧
          (handed s dt counts).planner.parkThreshold = tp ∧ (handed s dt counts).planner.leanThreshold = tl ∧
          (handed s dt counts).planner.energy = e := by
        rw [(handed_is s dt counts).planner, he, account]
        exact ⟨rfl, rfl, rfl, rfl, rfl⟩
      rw [ended, scanned]
      simpa using kept
    obtain ⟨voltage, available, parks, leans, energy⟩ := planner
    rw [← same]
    refine ⟨voltage, available, parks, leans, energy, rx, board, tx, fun still => ?_, fun change => ?_,
      fun awake dormant => ?_, ?_, fun a job suspended normal => ?_⟩
    · rw [hold, holdAfter, if_pos still]
    · rw [hold, holdAfter, if_neg change]
      by_cases before : s.planner.energy = .dormant
      · have awake : e ≠ .dormant := fun after => change (after.trans before.symm)
        simp [before, awake]
      · simp [before]
    · have left := scanned_leaves (dt := dt) (counts := counts) (he ▸ awake) dormant
      rwa [← ended] at left
    · rw [← ended, ← he] at counted
      exact counted
    · have job := scanned_suspended ended job suspended (he ▸ normal)
      rwa [show (accounted s dt counts).planner.available = eav by rw [account]] at job

end Sys2Proof.Proofs
end

section
/-! PROOF. A scan completion that leaves the part in DORMANT: the PARK job (O48). -/

namespace Sys2Proof.Proofs

open Sys2Proof Sys2Proof.Machine Sys2Proof.Claims

/-! ### Planning in DORMANT (R111, R112) -/

theorem plan_unwanted {v : State} (dormant : v.planner.energy = .dormant) (unwanted : v.parkWanted = false) :
    v.plan = v := by
  rw [State.plan, if_pos dormant, State.planPark, unwanted]
  rfl

theorem promoteJobs_empty {v : State} (empty : v.planner.staged = none) : v.promoteJobs = v := by
  rw [State.promoteJobs, empty]

theorem tryResume_stays {v : State} (stays : ∀ a, v.engine.active = some a → v.resumable a = false) :
    v.tryResume = v := by
  unfold State.tryResume
  split
  · rfl
  next a job => exact if_neg (by simp [stays a job])

theorem resumable_dormant {v : State} {a : ActiveJob} (dormant : v.planner.energy = .dormant)
    (normal : a.job.kind = .normal) : v.resumable a = false := by
  simp [State.resumable, dormant, normal]

/-- With board-parked set or a PARK job in hand, a PARK job may resume, and nothing else happens (R111, R132). -/
theorem scanJobs_unwanted {v : State} (dormant : v.planner.energy = .dormant) (empty : v.planner.staged = none)
    (unwanted : v.parkWanted = false) : v.scanJobs = v ∨ ∃ a, v.scanJobs = resumed v a := by
  have planned : v.planJobs = v := by rw [State.planJobs, plan_unwanted dormant unwanted, promoteJobs_empty empty]
  rw [State.scanJobs, planned]
  unfold State.tryResume
  split
  · exact .inl (promoteJobs_empty empty)
  next a job =>
    split
    next resumes =>
      have park : a.job.kind = .park := by
        cases kind : a.job.kind with
        | park => rfl
        | normal => simp [resumable_dormant dormant kind] at resumes
      have still : (resumed v a).plan = resumed v a :=
        plan_parked (a := { a with state := .running, loaded := false }) rfl park dormant
      have again : (resumed v a).planJobs = resumed v a := by
        rw [State.planJobs, still, promoteJobs_empty (v := resumed v a) empty]
      exact .inr ⟨a, (congrArg State.promoteJobs again).trans (promoteJobs_empty (v := resumed v a) empty)⟩
    · exact .inl (promoteJobs_empty empty)

theorem parkWanted_of {v : State} (dormant : v.planner.energy = .dormant) (empty : v.planner.staged = none)
    (unparked : v.planner.boardParked = false) (jobs : ∀ a, v.engine.active = some a → a.job.kind = .normal) :
    v.parkWanted = true := parkWanted_iff.2 ⟨dormant, unparked, by simp [empty], jobs⟩

/-- The PARK job staged in an empty slot is promoted, and planning has no more to do (R112, R120). -/
theorem scanJobs_promoted {v p : State} (staged : v.plan = parkStaged p) (dormant : p.planner.energy = .dormant)
    (empty : p.engine.active = none) (fresh : p.engine.freshHold = false) (possible : ParkPossible p p.planner.available)
    (standby : p.loader.loaded.standby.length = 32) : v.scanJobs = parkPromoted p := by
  have promoted : v.planJobs = parkPromoted p := by
    rw [State.planJobs, staged, parkStaged_promotes dormant empty possible standby, if_neg (by simp [fresh])]
  rw [State.scanJobs, promoted, tryResume_running (a := parkActive p) rfl rfl, promoteJobs_empty (v := parkPromoted p) rfl]

/-- The PARK job with an empty active slot (R112). -/
theorem scanJobs_empty {v : State} (dormant : v.planner.energy = .dormant) (staged : v.planner.staged = none)
    (unparked : v.planner.boardParked = false) (empty : v.engine.active = none) (fresh : v.engine.freshHold = false)
    (standby : v.loader.loaded.standby.length = 32) :
    (ParkPossible v v.planner.available → v.scanJobs = parkPromoted v) ∧
      (¬ ParkPossible v v.planner.available → v.scanJobs = v) := by
  have wanted := parkWanted_of dormant staged unparked (by simp [empty])
  have asked : v.askHalt = v := by simp [State.askHalt, empty]
  have free : (v.slotFreeForPark && v.parkPossible && v.planner.staged.isNone) = true ↔
      ParkPossible v v.planner.available := by
    simp [State.slotFreeForPark, empty, staged, parkPossible_iff]
  have plan : v.plan = v.stagePark := by rw [State.plan, if_pos dormant, State.planPark, if_pos wanted, asked]
  constructor
  · intro possible
    refine scanJobs_promoted ?_ dormant empty fresh possible standby
    rw [plan, State.stagePark, if_pos (free.2 possible), State.clearForPark, empty]
    rfl
  · intro no
    have planned : v.planJobs = v := by
      rw [State.planJobs, plan, State.stagePark, if_neg (mt free.1 no), promoteJobs_empty staged]
    rw [State.scanJobs, planned, tryResume_stays (by simp [empty]), promoteJobs_empty staged]

/-! ### A NORMAL job on the glass (R111, R112, R130) -/

/-- A NORMAL job once the PARK job is wanted: asked to halt where it runs and has not been asked, and stopped at once
where it then waits for a read (R111, R130). -/
def askedJob (v : State) (a : ActiveJob) : ActiveJob :=
  if a.state = .running ∧ a.haltAsked = false then
    { a with
      haltAsked := true
      state := if v.engine.port = .reading then .suspended else a.state
      loaded := if v.engine.port = .reading then false else a.loaded }
  else a

/-- What that counts. -/
def askedCounters (v : State) (a : ActiveJob) : List Counter :=
  (if a.state = .running ∧ a.haltAsked = false then [.haltRequested] else []) ++
    if (a.state = .running ∧ a.haltAsked = false) ∧ v.engine.port = .reading then [.suspensions] else []

theorem askHalt_asks {v : State} {a : ActiveJob} (job : v.engine.active = some a) (normal : a.job.kind = .normal) :
    v.askHalt = { v with
      engine := { v.engine with
        active := some (askedJob v a)
        suspendedAt := if (a.state = .running ∧ a.haltAsked = false) ∧ v.engine.port = .reading then some v.elapsed
          else v.engine.suspendedAt }
      planner := { v.planner with
        halt := if a.state = .running ∧ a.haltAsked = false then some a.job.number else v.planner.halt }
      counters := v.askHalt.counters } ∧ Counted (askedCounters v a) v v.askHalt := by
  unfold State.askHalt
  rw [job]
  dsimp only
  by_cases asks : a.state = .running ∧ a.haltAsked = false
  · obtain ⟨running, unasked⟩ := id asks
    rw [if_pos ⟨running, normal, unasked⟩]
    by_cases reading : v.engine.port = .reading
    · have stops : State.stopWaiting (State.count { v with
          planner := { v.planner with halt := some a.job.number }
          engine := { v.engine with active := some { a with haltAsked := true } } } .haltRequested) =
          State.suspendActive (State.count { v with
            planner := { v.planner with halt := some a.job.number }
            engine := { v.engine with active := some { a with haltAsked := true } } } .haltRequested)
            { a with haltAsked := true } := if_pos ⟨running, reading, .inr (by simp [State.halted])⟩
      rw [stops]
      simp only [askedJob, askedCounters, asks, reading, and_self, if_true]
      exact ⟨rfl, counted_of _ (counted_one rfl) rfl⟩
    · have goes : State.stopWaiting (State.count { v with
          planner := { v.planner with halt := some a.job.number }
          engine := { v.engine with active := some { a with haltAsked := true } } } .haltRequested) =
          State.count { v with
            planner := { v.planner with halt := some a.job.number }
            engine := { v.engine with active := some { a with haltAsked := true } } } .haltRequested :=
        if_neg fun stop => reading stop.2.1
      rw [goes]
      simp only [askedJob, askedCounters, if_pos asks, reading, and_false, if_false]
      exact ⟨rfl, counted_one rfl⟩
  · rw [if_neg fun all => asks ⟨all.1, all.2.2⟩]
    simp only [askedJob, askedCounters, asks, false_and, if_false, ← job]
    exact ⟨trivial, counted_nil rfl⟩

theorem askedJob_job (v : State) (a : ActiveJob) : (askedJob v a).job = a.job := by
  unfold askedJob
  split <;> rfl

/-- The PARK job with a NORMAL job on the glass (R111, R112). -/
theorem scanJobs_normal {v : State} {a : ActiveJob} (dormant : v.planner.energy = .dormant)
    (staged : v.planner.staged = none) (unparked : v.planner.boardParked = false) (job : v.engine.active = some a)
    (normal : a.job.kind = .normal) (fresh : v.engine.freshHold = false) (standby : v.loader.loaded.standby.length = 32) :
    ((askedJob v a).state = .suspended ∧ ParkPossible v v.planner.available →
      v.scanJobs = parkPromoted (v.askHalt.dropActive (askedJob v a))) ∧
    (¬ ((askedJob v a).state = .suspended ∧ ParkPossible v v.planner.available) → v.scanJobs = v.askHalt) := by
  have wanted := parkWanted_of dormant staged unparked (fun b other => by
    rw [job] at other
    cases other
    exact normal)
  obtain ⟨u, hu⟩ : ∃ u, u = v.askHalt := ⟨_, rfl⟩
  have asked := (askHalt_asks job normal).1
  rw [← hu] at asked ⊢
  have taken : u.engine.active = some (askedJob v a) := by rw [asked]
  have slot : u.planner.staged = none := by rw [asked]; exact staged
  have energy : u.planner.energy = .dormant := by rw [asked]; exact dormant
  have kind : (askedJob v a).job.kind = .normal := by rw [askedJob_job, normal]
  have free : (u.slotFreeForPark && u.parkPossible && u.planner.staged.isNone) = true ↔
      (askedJob v a).state = .suspended ∧ ParkPossible v v.planner.available := by
    have same : ParkPossible u u.planner.available ↔ ParkPossible v v.planner.available := by rw [asked]; rfl
    simp [State.slotFreeForPark, taken, slot, kind, parkPossible_iff, same]
  have plan : v.plan = u.stagePark := by rw [State.plan, if_pos dormant, State.planPark, if_pos wanted, ← hu]
  constructor
  · intro yes
    have possible : ParkPossible (u.dropActive (askedJob v a)) (u.dropActive (askedJob v a)).planner.available := by
      rw [asked]
      exact yes.2
    refine scanJobs_promoted ?_ energy rfl (by rw [asked]; exact fresh) possible (by rw [asked]; exact standby)
    rw [plan, State.stagePark, if_pos (free.2 yes), State.clearForPark, taken]
    rfl
  · intro no
    have planned : v.planJobs = u := by
      rw [State.planJobs, plan, State.stagePark, if_neg (mt free.1 no), promoteJobs_empty slot]
    rw [State.scanJobs, planned, tryResume_stays, promoteJobs_empty slot]
    intro b other
    rw [taken] at other
    cases other
    exact resumable_dormant energy kind

/-! ### What a scan completion that leaves DORMANT finds (R108, R111) -/

/-- What planning and engine can count beside a PARK job's staging and a NORMAL job's end. -/
def parkCounters : List Counter :=
  [.stagedWithdrawn, .parkStaged, .jobPromoted, .suspensions, .abandonments, .haltRequested, .jobStaged]

theorem reportedLine_congr {s v t : State} (targets : t.board.targets = v.board.targets) (elapsed : t.elapsed = v.elapsed) :
    reportedLine s t = reportedLine s v := by
  funext n
  simp only [reportedLine, targets, elapsed]

theorem withdrawals_none {s : State} (empty : s.planner.staged = none) : withdrawals s = [] :=
  withdrawals_kept (by simp [empty])

theorem unstaged_normal {s : State} (normal : ∀ j, s.planner.staged = some j → j.kind = .normal) : unstaged s = none := by
  unfold unstaged
  split
  next kept =>
    cases staged : s.planner.staged with
    | none => rfl
    | some j =>
      rw [withdrawals_normal staged (normal j staged)] at kept
      cases kept
  · rfl

/-- What planner and engine find where a scan completion leaves the part in DORMANT. -/
structure HandedDormant (s : State) (dt : Nat) (v : State) : Prop where
  energy : v.planner.energy = .dormant
  staged : v.planner.staged = none
  parked : v.planner.boardParked = s.planner.boardParked
  halt : v.planner.halt = s.planner.halt
  next : v.planner.nextJob = s.planner.nextJob
  active : v.engine.active = s.engine.active
  port : v.engine.port = s.engine.port
  suspendedAt : v.engine.suspendedAt = s.engine.suspendedAt
  faulted : v.engine.faulted = s.engine.faulted
  fresh : v.engine.freshHold = false
  lines : ∀ n, v.engine.lines.get n = reportedLine s v n
  loader : v.loader = s.loader
  band : v.sense.band = s.sense.band
  low : v.sense.storeLow = s.sense.storeLow
  counted : CountedOf parkCounters (withdrawals s) s v

theorem handed_dormant {s : State} {dt : Nat} {counts : BitVec 12}
    (energy : (accounted s dt counts).planner.energy = .dormant)
    (staged : ∀ j, s.planner.staged = some j → j.kind = .normal ∧ s.planner.energy ≠ .dormant)
    (fresh : s.planner.energy = .dormant → s.engine.freshHold = false) : HandedDormant s dt (handed s dt counts) := by
  have h := handed_is s dt counts
  obtain ⟨-, -, loader, -, -, -, sense, -⟩ := handed_frame s dt counts
  have normal := fun j slot => (staged j slot).1
  have before (dormant : s.planner.energy = .dormant) : s.planner.staged = none := by
    cases slot : s.planner.staged with
    | none => rfl
    | some j => exact absurd dormant (staged j slot).2
  have halts : ¬ ((accounted s dt counts).planner.energy ≠ s.planner.energy ∧ s.planner.energy = .dormant) :=
    fun ⟨change, was⟩ => change (energy.trans was.symm)
  refine ⟨(scanned_energy s dt counts).2.trans energy, ?_, ?_, ?_, ?_, ?_, ?_, ?_, ?_, ?_, h.lines, loader,
    by rw [sense]; rfl, by rw [sense]; rfl, ?_⟩
  · rw [h.planner, energy]
    dsimp only
    split
    next same => exact before same.symm
    · exact unstaged_normal normal
  · rw [h.planner]; rfl
  · rw [h.planner]
    exact if_neg halts
  · rw [h.planner]; rfl
  · rw [h.engine]
  · rw [h.engine]
  · rw [h.engine]
  · rw [h.engine]
  · rw [h.engine, energy]
    dsimp only
    unfold holdAfter
    split
    next same => exact fresh same.symm
    next change =>
      rw [if_neg (fun was => change was.symm)]
      rfl
  · intro k own below
    by_cases withdrawal : k = .stagedWithdrawn
    · subst withdrawal
      have counted := h.counted .stagedWithdrawn (by decide) below
      rw [counted]
      split
      next same => rw [withdrawals_none (before (same.symm.trans energy))]; rfl
      next => cases (accounted s dt counts).planner.energy <;> rfl
    · have quiet : ∀ k ∈ parkCounters, k ≠ .stagedWithdrawn → k ∉ [Counter.scanCompleted, .ampleEntered, .leanEntered,
          .scarceEntered, .dormantEntered, .stagedWithdrawn, .boardRecomposed, .targetChange] := by decide
      rw [h.moves k (quiet k own withdrawal), withdrawals_count s withdrawal]
      omega

/-- What the end of a scan completion shows of planner's and engine's work `w`. -/
structure Shows (s w t : State) : Prop where
  planner : t.planner = w.planner
  active : t.engine.active = w.engine.active
  suspendedAt : t.engine.suspendedAt = w.engine.suspendedAt
  lines : t.engine.lines = w.engine.lines
  reported : reportedLine s t = reportedLine s w
  elapsed : t.elapsed = w.elapsed
  moves : MovesOnly [.truncated] w t

theorem shows_of {s w t : State} (planner : t.planner = w.planner) (serves : PortServes w t) (board : t.board = w.board)
    (elapsed : t.elapsed = w.elapsed) (moves : MovesOnly [.truncated] w t) : Shows s w t :=
  ⟨planner, by rw [serves.1], by rw [serves.1], by rw [serves.1],
    reportedLine_congr (congrArg Board.targets board) elapsed, elapsed, moves⟩

theorem scanned_shows (s : State) (dt : Nat) (counts : BitVec 12) :
    Shows s (handed s dt counts).scanJobs (scanned s dt counts) := by
  obtain ⟨planner, serves, board, -, elapsed, -, moves⟩ := scanned_is s dt counts
  exact shows_of planner serves board elapsed moves

theorem parkActive_congr {s v : State} (next : v.planner.nextJob = s.planner.nextJob) (loader : v.loader = s.loader)
    (band : v.sense.band = s.sense.band) : parkActive v = parkActive s := by
  simp only [parkActive, parkJob, next, loader, band]

theorem parkPossible_congr {s v : State} {available : Nat} (loader : v.loader = s.loader)
    (band : v.sense.band = s.sense.band) (low : v.sense.storeLow = s.sense.storeLow)
    (faulted : v.engine.faulted = s.engine.faulted) : ParkPossible v available ↔ ParkPossible s available := by
  simp only [ParkPossible, loader, band, low, faulted]

theorem parkPromoted_counted (p : State) : Counted [.parkStaged, .jobPromoted] p (parkPromoted p) :=
  counted_of (parkStaged p) (counted_one rfl) rfl

/-- Counting carried from what planner and engine find to the end of a scan completion. -/
theorem dormant_counted {s v w t : State} {dt : Nat} {cs : List Counter} (h : HandedDormant s dt v)
    (counted : Counted cs v w) (shows : Shows s w t) : CountedOf parkCounters (withdrawals s ++ cs) s t :=
  countedOf_movesOnly (countedOf_trans h.counted counted) shows.moves (by decide)

/-- Nothing is staged beside board-parked or a PARK job in hand (R111). -/
theorem dormant_unwanted {s v t : State} {dt : Nat} (h : HandedDormant s dt v) (shows : Shows s v.scanJobs t)
    (none : s.planner.boardParked = true ∨ ∃ a, s.engine.active = some a ∧ a.job.kind = .park) :
    t.planner.staged = Option.none ∧ t.planner.nextJob = s.planner.nextJob ∧
      (∀ n, t.engine.lines.get n = reportedLine s t n) ∧ t.planner.halt = s.planner.halt ∧
      CountedOf parkCounters (withdrawals s) s t := by
  have unwanted : v.parkWanted = false := by
    by_contra wanted
    obtain ⟨-, unparked, -, normal⟩ := parkWanted_iff.1 (Bool.not_eq_false _ ▸ wanted)
    rcases none with parked | ⟨a, job, park⟩
    · rw [h.parked, parked] at unparked
      cases unparked
    · rw [normal a (by rw [h.active, job])] at park
      cases park
  have kept : v.scanJobs.planner = v.planner ∧ v.scanJobs.engine.lines = v.engine.lines ∧
      reportedLine s v.scanJobs = reportedLine s v ∧ MovesOnly [.resumptions] v v.scanJobs := by
    rcases scanJobs_unwanted h.energy h.staged unwanted with same | ⟨a, same⟩ <;> rw [same]
    · exact ⟨rfl, rfl, rfl, movesOnly_of_counters rfl⟩
    · exact ⟨rfl, rfl, rfl, movesOnly_count (movesOnly_of_counters rfl) (by decide)⟩
  obtain ⟨planner, lines, reported, moves⟩ := kept
  rw [shows.planner, planner, shows.reported, reported, shows.lines, lines]
  exact ⟨h.staged, h.next, h.lines, h.halt,
    countedOf_movesOnly (countedOf_movesOnly h.counted moves (by decide)) shows.moves (by decide)⟩

/-- The PARK job with an empty active slot (R112). -/
theorem dormant_empty {s v t : State} {dt : Nat} (h : HandedDormant s dt v) (shows : Shows s v.scanJobs t)
    (standby : s.loader.loaded.standby.length = 32) (unparked : s.planner.boardParked = false)
    (empty : s.engine.active = none) : t.planner.staged = none ∧ (ParkPossible s t.planner.available →
      t.engine.active = some (parkActive s) ∧ t.planner.nextJob = s.planner.nextJob + 1#8 ∧
        (∀ n, t.engine.lines.get n = reportedLine s t n) ∧
        CountedOf parkCounters (withdrawals s ++ [.parkStaged, .jobPromoted]) s t) ∧
      (¬ ParkPossible s t.planner.available → t.engine.active = none ∧ t.planner.nextJob = s.planner.nextJob ∧
        (∀ n, t.engine.lines.get n = reportedLine s t n) ∧ CountedOf parkCounters (withdrawals s ++ []) s t) := by
  have same : t.planner.available = v.planner.available := by rw [shows.planner]; simp
  have possible := parkPossible_congr (available := v.planner.available) h.loader h.band h.low h.faulted
  obtain ⟨parks, waits⟩ := scanJobs_empty h.energy h.staged (h.parked.trans unparked) (h.active.trans empty) h.fresh
    (by rw [h.loader, standby])
  rw [same, ← possible]
  by_cases now : ParkPossible v v.planner.available
  · have made := parks now
    rw [made] at shows
    have counted := dormant_counted h (parkPromoted_counted v) shows
    rw [shows.planner, shows.active, shows.reported, shows.lines]
    refine ⟨rfl, fun _ => ⟨?_, ?_, h.lines, counted⟩, fun no => absurd now no⟩
    · exact congrArg some (parkActive_congr h.next h.loader h.band)
    · exact congrArg (· + 1#8) h.next
  · have stays := waits now
    rw [stays] at shows
    have counted := dormant_counted h (counted_nil rfl) shows
    rw [shows.planner, shows.active, shows.reported, shows.lines]
    exact ⟨h.staged, fun yes => absurd yes now, fun _ => ⟨h.active.trans empty, h.next, h.lines, counted⟩⟩

/-- The PARK job with a NORMAL job on the glass (R111, R112, R130). -/
theorem dormant_normal {s v t : State} {dt : Nat} {a : ActiveJob} (h : HandedDormant s dt v)
    (shows : Shows s v.scanJobs t) (standby : s.loader.loaded.standby.length = 32)
    (unparked : s.planner.boardParked = false) (job : s.engine.active = some a) (normal : a.job.kind = .normal) :
    t.planner.staged = none ∧
      ((askedJob s a).state = .suspended ∧ ParkPossible s t.planner.available →
        t.engine.active = some (parkActive s) ∧ LinesAbandoned a.job (reportedLine s t) t ∧
        t.planner.nextJob = s.planner.nextJob + 1#8 ∧ t.engine.suspendedAt = none ∧
        CountedOf parkCounters (withdrawals s ++ (askedCounters s a ++ [.abandonments, .parkStaged, .jobPromoted])) s t) ∧
      (¬ ((askedJob s a).state = .suspended ∧ ParkPossible s t.planner.available) →
        t.engine.active = some (askedJob s a) ∧ (t.planner.nextJob = s.planner.nextJob ∧
          ∀ n, t.engine.lines.get n = reportedLine s t n) ∧
        t.planner.halt = (if a.state = .running ∧ a.haltAsked = false then some a.job.number else s.planner.halt) ∧
        t.engine.suspendedAt = (if (a.state = .running ∧ a.haltAsked = false) ∧ s.engine.port = .reading
          then some t.elapsed else s.engine.suspendedAt) ∧
        CountedOf parkCounters (withdrawals s ++ askedCounters s a) s t) := by
  have same : t.planner.available = v.planner.available := by rw [shows.planner]; simp
  have possible := parkPossible_congr (available := v.planner.available) h.loader h.band h.low h.faulted
  have job' : v.engine.active = some a := h.active.trans job
  have asked : askedJob v a = askedJob s a ∧ askedCounters v a = askedCounters s a := by
    simp only [askedJob, askedCounters, h.port, and_self]
  obtain ⟨u, hu⟩ : ∃ u, u = v.askHalt := ⟨_, rfl⟩
  obtain ⟨is, counted⟩ := askHalt_asks job' normal
  obtain ⟨parks, waits⟩ := scanJobs_normal h.energy h.staged (h.parked.trans unparked) job' normal h.fresh
    (by rw [h.loader, standby])
  rw [asked.1] at parks waits is
  rw [asked.2] at counted
  rw [← hu] at parks waits is counted
  rw [same, ← possible]
  have reported : reportedLine s u = reportedLine s v := by rw [is]; rfl
  by_cases now : (askedJob s a).state = .suspended ∧ ParkPossible v v.planner.available
  · have made := parks now
    rw [made] at shows
    obtain ⟨d, hd⟩ : ∃ d, d = u.dropActive (askedJob s a) := ⟨_, rfl⟩
    rw [← hd] at shows
    have dropped : Counted [.abandonments] u d := by rw [hd]; exact counted_one rfl
    have counts := dormant_counted h (counted_trans counted (counted_trans dropped (parkPromoted_counted d))) shows
    have again : reportedLine s (parkPromoted d) = reportedLine s v := by rw [← reported, hd]; rfl
    have next : d.planner.nextJob = s.planner.nextJob := by rw [hd, is]; exact h.next
    have loader : d.loader = s.loader := by rw [hd, is]; exact h.loader
    have band : d.sense.band = s.sense.band := by rw [hd, is]; exact h.band
    refine ⟨by rw [shows.planner]; rfl, fun _ => ⟨?_, fun n => ?_, ?_, ?_, counts⟩, fun no => absurd now no⟩
    · rw [shows.active]
      exact congrArg some (parkActive_congr next loader band)
    · have lines : (parkPromoted d).engine.lines = d.engine.lines := rfl
      have before : u.engine.lines.get n = reportedLine s v n := by rw [is]; exact h.lines n
      have late : u.elapsed = t.elapsed := by rw [shows.elapsed, hd]; rfl
      rw [shows.lines, shows.reported, again, lines, hd, dropActive_lines, askedJob_job, before, late]
      rfl
    · rw [shows.planner]
      exact congrArg (· + 1#8) next
    · rw [shows.suspendedAt, hd]
      rfl
  · have stays := waits now
    rw [stays] at shows
    have counts := dormant_counted h counted shows
    refine ⟨by rw [shows.planner, is]; exact h.staged, fun yes => absurd yes now, fun _ => ⟨?_, ⟨?_, fun n => ?_⟩, ?_, ?_, counts⟩⟩
    · rw [shows.active, is]
    · rw [shows.planner, is]
      exact h.next
    · rw [shows.lines, shows.reported, reported, is]
      exact h.lines n
    · rw [shows.planner, is, h.halt]
    · rw [shows.suspendedAt, shows.elapsed, is, h.suspendedAt, h.port]

/-- Settles O48: nothing wanted, an empty slot, and a NORMAL job on the glass. -/
theorem planningParksTheBoard : Obligations.PlanningParksTheBoard := by
  intro s dt counts started _ converting staged fresh standby
  obtain ⟨t, ended⟩ : ∃ t, t = scanned s dt counts := ⟨_, rfl⟩
  refine ⟨t, by rw [ended]; exact scan_run started converting, fun dormant => ?_⟩
  have shows := scanned_shows s dt counts
  have energy := (scanned_energy s dt counts).1
  rw [← ended] at shows energy
  have h := handed_dormant (dt := dt) (counts := counts) (energy.symm.trans dormant) staged fresh
  have empty : t.planner.staged = none := by
    by_cases parked : s.planner.boardParked = true
    · exact (dormant_unwanted h shows (.inl parked)).1
    · have unparked := Bool.eq_false_iff.2 parked
      cases job : s.engine.active with
      | none => exact (dormant_empty h shows standby unparked job).1
      | some a =>
        cases kind : a.job.kind with
        | park => exact (dormant_unwanted h shows (.inr ⟨a, job, kind⟩)).1
        | normal => exact (dormant_normal h shows standby unparked job kind).1
  refine ⟨empty, fun none => ?_, fun unparked => ⟨fun slot => ?_, fun a job normal => ?_⟩⟩
  · obtain ⟨-, next, lines, halt, counted⟩ := dormant_unwanted h shows none
    rw [← List.append_nil (withdrawals s)] at counted
    exact ⟨⟨next, lines⟩, halt, counted⟩
  · obtain ⟨-, parks, waits⟩ := dormant_empty h shows standby unparked slot
    refine ⟨parks, fun no => ?_⟩
    obtain ⟨active, next, lines, counted⟩ := waits no
    exact ⟨active, ⟨next, lines⟩, counted⟩
  · exact (dormant_normal h shows standby unparked job normal).2

end Sys2Proof.Proofs
end

section
/-! PROOF. What the commands of table, clock and notice store do before the board is composed anew (O47). -/

namespace Sys2Proof.Proofs

open Sys2Proof Sys2Proof.Machine Sys2Proof.Claims

/-! ### Operations that reach neither planner, engine nor targets -/

/-- What withdrawal, staging and abandonment count (R117, R138). -/
def reportCounters : List Counter := [.stagedWithdrawn, .abandonments, .jobStaged, .bandNarrowed, .stagingHeld]

/-- An operation that reaches neither planner, engine, sense unit, loader nor the targets, and counts no withdrawal, no
staging and no abandonment. -/
structure Quiet (s t : State) : Prop where
  planner : t.planner = s.planner
  engine : t.engine = s.engine
  sense : t.sense = s.sense
  loader : t.loader = s.loader
  targets : t.board.targets = s.board.targets
  counters : ∀ k ∈ reportCounters, t.counter k = s.counter k

namespace Quiet

theorem refl (s : State) : Quiet s s := ⟨rfl, rfl, rfl, rfl, rfl, fun _ _ => rfl⟩

theorem trans {s t u : State} (h : Quiet s t) (h' : Quiet t u) : Quiet s u :=
  ⟨h'.planner.trans h.planner, h'.engine.trans h.engine, h'.sense.trans h.sense, h'.loader.trans h.loader,
    h'.targets.trans h.targets, fun k hk => (h'.counters k hk).trans (h.counters k hk)⟩

theorem moves {s t : State} {cs : List Counter} (m : MovesOnly cs s t) (apart : ∀ k ∈ reportCounters, k ∉ cs) :
    ∀ k ∈ reportCounters, t.counter k = s.counter k := fun k hk => m k (apart k hk)

theorem still {s t : State} (h : t.counters = s.counters) : ∀ k ∈ reportCounters, t.counter k = s.counter k :=
  fun k _ => State.counter_congr h k

theorem count (s : State) {c : Counter} (other : c ∉ reportCounters) : Quiet s (s.count c) :=
  ⟨by simp, by simp, by simp, by simp, by simp,
    moves (movesOnly_count (movesOnly_of_counters rfl) (List.mem_singleton_self c)) fun k hk same =>
      other (List.mem_singleton.1 same ▸ hk)⟩

theorem advance (s : State) (dt : Nat) : Quiet s (s.advance dt) := ⟨rfl, rfl, rfl, rfl, rfl, still rfl⟩

theorem fillPass (s : State) : Quiet s s.fillPass :=
  ⟨by simp, by simp, by simp, by simp, by simp, moves (fillPass_keeps s).2 (by decide)⟩

theorem fillOrOwe (s : State) : Quiet s s.fillOrOwe :=
  ⟨by simp, by simp, by simp, by simp, by simp, moves (fillOrOwe_keeps s).2 (by decide)⟩

theorem sightLossChecks (s : State) : Quiet s s.sightLossChecks :=
  ⟨by simp, by simp, by simp, by simp, by simp, moves (sightLossChecks_movesOnly s) (by decide)⟩

theorem evaluateAll (s : State) : Quiet s s.evaluateAll :=
  ⟨by simp, by simp, by simp, by simp, by simp, moves (evaluateAll_movesOnly s) (by decide)⟩

theorem rollTable (s : State) : Quiet s s.rollTable :=
  ⟨by simp, by simp, by simp, by simp, by simp, moves (rollTable_movesOnly s) (by decide)⟩

theorem flushTable (s : State) : Quiet s s.flushTable :=
  ⟨by simp, by simp, by simp, by simp, by simp, moves (flushTable_movesOnly s) (by decide)⟩

theorem changeDays (s : State) : Quiet s s.changeDays :=
  ⟨by simp, by simp, by simp, by simp, by simp, moves (changeDays_movesOnly s) (by decide)⟩

theorem fillAndCommit (s : State) (commitFirst : Bool) : Quiet s (s.fillAndCommit commitFirst) :=
  ⟨by simp, by simp, by simp, by simp, by simp, moves (fillAndCommit_movesOnly s commitFirst) (by decide)⟩

theorem completeRebuild (s : State) (r : Rebuild) : Quiet s (s.completeRebuild r) :=
  ⟨by simp, by simp, by simp, by simp, by simp, moves (completeRebuild_movesOnly s r) (by decide)⟩

theorem expireNotices (s : State) : Quiet s s.expireNotices := by
  have targets : s.expireNotices.board.targets = s.board.targets := by
    unfold State.expireNotices State.removeNotices
    dsimp only
    (repeat' split) <;> simp
  exact ⟨by simp, by simp, by simp, by simp, targets, moves (expireNotices_movesOnly s) (by decide)⟩

theorem rotateNotices (s : State) : Quiet s s.rotateNotices := by
  have targets : s.rotateNotices.board.targets = s.board.targets := by
    unfold State.rotateNotices
    (repeat' split) <;> rfl
  exact ⟨by simp, by simp, by simp, by simp, targets, still (by simp)⟩

theorem noticeTick (s : State) : Quiet s s.noticeTick := by
  unfold State.noticeTick
  split
  · exact (expireNotices s).trans (rotateNotices _)
  · exact refl s

theorem changeEntry (s : State) (slot : SlotIx) (day : Day) (run : Nat) (f : Entry → Entry) :
    Quiet s (s.changeEntry slot day run f) :=
  ⟨rfl, rfl, rfl, rfl, rfl, moves (cs := [.observationExpired, .overdueRemoval])
    (movesOnly_countMany (movesOnly_countMany (movesOnly_of_counters rfl) (by decide)) (by decide)) (by decide)⟩

theorem placeRelay (s : State) (f : SendFrame) : Quiet s (s.placeRelay f) :=
  ⟨by simp, by simp, by simp, by simp, by simp, moves (placeRelay_movesOnly s f) (by decide)⟩

theorem takeOut (s : State) (p : Entry → Bool) : Quiet s (s.takeOut p) := ⟨rfl, rfl, rfl, rfl, rfl, still rfl⟩

theorem tableSecond (s : State) (pass : PassPlace) : Quiet s (s.tableSecond pass) :=
  ⟨by simp, by simp, by simp, by simp, by simp, moves (tableSecond_movesOnly pass s) (by decide)⟩

/-! ### The clock's commands -/

theorem stepTable (s : State) (passFirst : Bool) : Quiet s (s.stepTable passFirst) := by
  unfold State.stepTable
  split
  · exact (fillOrOwe s).trans (sightLossChecks _)
  · exact (sightLossChecks s).trans (fillOrOwe _)

theorem setTime (s : State) (m : Moment) : Quiet s (s.setTime m) := ⟨rfl, rfl, rfl, rfl, rfl, still rfl⟩

theorem takeStratum (s : State) (stratum : Nat) : Quiet s (s.takeStratum stratum) :=
  (show Quiet s { s with clock := (s.takeStratum stratum).clock } from ⟨rfl, rfl, rfl, rfl, rfl, still rfl⟩).trans
    (count _ (by decide))

theorem startTimers (s : State) : Quiet s s.startBeacon ∧ Quiet s s.startOffers :=
  ⟨⟨rfl, rfl, rfl, rfl, rfl, still rfl⟩, ⟨rfl, rfl, rfl, rfl, rfl, still rfl⟩⟩

theorem adoptFirst (s : State) (m : Moment) (offerFirst : Bool) : Quiet s (s.adoptFirst m offerFirst) := by
  have timed : Quiet s (State.setTime { s with clock := { s.clock with timeValid := true } } m) :=
    ⟨rfl, rfl, rfl, rfl, rfl, still rfl⟩
  unfold State.adoptFirst
  dsimp only
  split
  · exact timed.trans ((startTimers _).2.trans ((startTimers _).1.trans ((count _ (by decide)).trans
      ((flushTable _).trans (fillPass _)))))
  · exact timed.trans ((startTimers _).1.trans ((startTimers _).2.trans ((count _ (by decide)).trans
      ((flushTable _).trans (fillPass _)))))

theorem adoptTime (s : State) (m : Moment) (offerFirst passFirst : Bool) :
    Quiet s (s.adoptTime m offerFirst passFirst) := by
  unfold State.adoptTime
  split
  · exact adoptFirst s m offerFirst
  · split
    · exact (count s (by split <;> decide)).trans ((setTime _ m).trans (stepTable _ passFirst))
    · split
      · exact (count s (by decide)).trans ((setTime _ m).trans ((rollTable _).trans ((changeDays _).trans
          (stepTable _ passFirst))))
      · exact (count s (by decide)).trans ((setTime _ m).trans ((changeDays _).trans ((flushTable _).trans
          (fillAndCommit _ _))))

theorem tickSecond (s : State) : Quiet s s.tickSecond := ⟨rfl, rfl, rfl, rfl, rfl, still rfl⟩

theorem rollIfDue (s : State) : Quiet s s.rollIfDue := by
  unfold State.rollIfDue
  split
  · exact refl s
  · exact (show Quiet s { s with clock := { s.clock with day := s.clock.day + 1#16, second := 0 } } from
      ⟨rfl, rfl, rfl, rfl, rfl, still rfl⟩).trans ((rollTable _).trans (changeDays _))

/-! ### The table's commands -/

theorem countIf (s : State) (p : Prop) [Decidable p] {c : Counter} (other : c ∉ reportCounters) :
    Quiet s (if p then s.count c else s) := by
  split
  · exact count s other
  · exact refl s

theorem relayPass (s : State) (p : PassFields) : Quiet s (s.relayPass p) := by
  unfold State.relayPass
  split
  · exact placeRelay s _
  · exact refl s

theorem weighPass (s : State) (slot : SlotIx) (p : PassFields) (e : Entry) : Quiet s (s.weighPass slot p e) := by
  unfold State.weighPass
  dsimp only
  have counted := countIf s (e.stale s.loader.loaded s.now = true) (c := .observationExpired) (by decide)
  generalize (if e.stale s.loader.loaded s.now = true then s.count .observationExpired else s) = u at counted ⊢
  split
  · split
    · exact counted.trans ((count _ (c := .passNotAdvancing) (by decide)).trans (changeEntry _ _ _ _ _))
    · exact counted.trans (count _ (c := .passNotAdvancing) (by decide))
  · exact counted.trans ((count _ (by decide)).trans ((changeEntry _ _ _ _ _).trans (relayPass _ _)))

theorem takeServedPass (s : State) (slot : SlotIx) (p : PassFields) : Quiet s (s.takeServedPass slot p) := by
  unfold State.takeServedPass
  split
  · exact count s (by decide)
  · split
    · exact (takeOut s _).trans (count _ (by decide))
    · split
      · exact count s (by decide)
      · exact weighPass s slot p _

theorem takeAt (s : State) (e : Entry) : Quiet s (s.takeAt e) :=
  (countIf s (e.stale s.loader.loaded s.now = true) (c := .observationExpired) (by decide)).trans
    ((count _ (by decide)).trans (changeEntry _ _ _ _ _))

theorem reportDeparture (s : State) (e : Entry) (leave : Int) : Quiet s (s.reportDeparture e leave) := by
  rw [reportDeparture_eq]
  split
  · exact count s (by decide)
  · exact (count s (by decide)).trans ((count _ (by decide)).trans (placeRelay _ _))

theorem takeLeaving (s : State) (e : Entry) : Quiet s (s.takeLeaving e) := by
  unfold State.takeLeaving
  split
  · exact (takeOut s _).trans (reportDeparture _ _ _)
  · exact count s (by decide)

/-! ### The notice store's command -/

theorem setNotices (s : State) (ns : List Notice) (current : Option Nat) (same : Bool) :
    Quiet s (s.setNotices ns current same) := ⟨rfl, rfl, rfl, rfl, rfl, still rfl⟩

theorem relayNotice (s : State) (n : Notice) (hops : Nat) : Quiet s (s.relayNotice n hops) := by
  unfold State.relayNotice
  split
  · exact (count s (by decide)).trans (placeRelay _ _)
  · exact refl s

theorem storeNotice (s : State) (n : Notice) (hops : Nat) : Quiet s (s.storeNotice n hops) := by
  unfold State.storeNotice
  split
  · exact (setNotices s _ _ _).trans ((count _ (by decide)).trans (relayNotice _ _ _))
  · unfold State.storeNew
    split
    · exact (setNotices s _ _ _).trans ((count _ (by decide)).trans (relayNotice _ _ _))
    · split
      · split
        · exact (setNotices s _ _ _).trans ((count _ (by decide)).trans ((count _ (by decide)).trans (relayNotice _ _ _)))
        · exact count s (by decide)
      · exact count s (by decide)

theorem countTruncation (s : State) (f : NoticeFields) : Quiet s (s.countTruncation f) :=
  countIf s _ (by decide)

end Quiet

end Sys2Proof.Proofs
end

section
/-! PROOF. Commands that may change the board: the composition they come to (O47). -/

namespace Sys2Proof.Proofs

open Sys2Proof Sys2Proof.Machine Sys2Proof.Claims

/-! ### The composition a command comes to (R77) -/

/-- A command has left the targets as they were, or has come to a composition from `u`. -/
def ComesToBoard (s t : State) : Prop :=
  t.board.targets = s.board.targets ∨ ∃ u, Quiet s u ∧ t = u.compose.finish

theorem comesToBoard_quiet {s t : State} (h : Quiet s t) : ComesToBoard s t := .inl h.targets

theorem comesToBoard_compose {s u : State} (h : Quiet s u) : ComesToBoard s u.compose.finish := .inr ⟨u, h, rfl⟩

theorem comesToBoard_composeAfter {s u : State} (h : Quiet s u) (before : List Entry) (tick : Bool) :
    ComesToBoard s (u.composeAfter before tick).finish := by
  unfold State.composeAfter
  split
  · exact comesToBoard_compose h
  · exact .inl (by simpa using h.targets)

/-- A dispatch takes the head off the queue, or finds none (R154). -/
theorem onDispatch_quiet (s : State) (dt : Nat) (k : Kind) (f : ReceivedFrame → State → State) :
    s.onDispatch dt k f = s.advance dt ∨ ∃ g u, Quiet s u ∧ s.onDispatch dt k f = f g u := by
  unfold State.onDispatch State.whenStarted State.dispatch
  dsimp only
  split
  · cases queue : (s.advance dt).rx.queue with
    | nil => exact .inl rfl
    | cons g rest =>
      dsimp only
      split
      next empty head =>
        split at head
        · cases head
        · exact .inl rfl
      next found v head =>
        split at head
        · cases head
          exact .inr ⟨g, { s.advance dt with rx := { (s.advance dt).rx with queue := rest } },
            ⟨rfl, rfl, rfl, rfl, rfl, Quiet.still rfl⟩, rfl⟩
        · cases head
  · exact .inl rfl

theorem comesToBoard_dispatch {s : State} {dt : Nat} {k : Kind} {f : ReceivedFrame → State → State}
    (h : ∀ g u, Quiet s u → ComesToBoard s (f g u)) : ComesToBoard s (s.onDispatch dt k f) := by
  rcases onDispatch_quiet s dt k f with none | ⟨g, u, quiet, taken⟩
  · rw [none]
    exact comesToBoard_quiet (Quiet.advance s dt)
  · rw [taken]
    exact h g u quiet

theorem takeClock_comes {s u : State} (h : Quiet s u) (f : ClockFields) (stamp : Nat) (offerFirst passFirst : Bool) :
    ComesToBoard s (u.takeClock f stamp offerFirst passFirst) := by
  unfold State.takeClock
  split
  · exact comesToBoard_quiet (h.trans (Quiet.count u (by decide)))
  · dsimp only
    split
    · exact comesToBoard_compose (h.trans ((Quiet.takeStratum u _).trans ((Quiet.adoptTime _ _ _ _).trans
        ((Quiet.evaluateAll _).trans (Quiet.expireNotices _)))))
    · split
      · exact comesToBoard_quiet (h.trans (Quiet.count u (by decide)))
      · exact comesToBoard_quiet (h.trans (Quiet.count u (by decide)))

theorem takePass_comes {s u : State} (h : Quiet s u) (p : PassFields) : ComesToBoard s (u.takePass p) := by
  unfold State.takePass
  split
  · exact comesToBoard_quiet (h.trans (Quiet.count u (by decide)))
  · exact comesToBoard_composeAfter (h.trans (Quiet.takeServedPass u _ p)) _ _

theorem takeSight_comes {s u : State} (h : Quiet s u) (f : SightFields) : ComesToBoard s (u.takeSight f) := by
  unfold State.takeSight
  split
  · exact comesToBoard_quiet (h.trans (Quiet.count u (by decide)))
  next e _ =>
    split
    · exact comesToBoard_composeAfter (h.trans (Quiet.takeAt u e)) _ _
    · split
      · exact comesToBoard_composeAfter (h.trans (Quiet.takeLeaving u e)) _ _
      · exact comesToBoard_quiet (h.trans (Quiet.count u (by decide)))

theorem takeNotice_comes {s u : State} (h : Quiet s u) (f : NoticeFields) : ComesToBoard s (u.takeNotice f) := by
  unfold State.takeNotice
  split
  next c refused =>
    refine comesToBoard_quiet (h.trans (Quiet.count u ?_))
    unfold State.noticeRefusal at refused
    split_ifs at refused <;> cases refused <;> decide
  · exact comesToBoard_compose (h.trans ((Quiet.countTruncation u f).trans (Quiet.storeNotice _ _ _)))

theorem rebuildCompletion_comes (s : State) (ending : RebuildEnd) {t : State}
    (run : exec (.rebuildCompletion ending) s = .next t) : ComesToBoard s t := by
  have ran : exec (.rebuildCompletion ending) s = execRebuildCompletion ending s := rfl
  rw [ran, execRebuildCompletion] at run
  cases run
  unfold State.whenStarted
  dsimp only
  split
  · split
    · exact comesToBoard_quiet (Quiet.advance s _)
    next r _ =>
      exact comesToBoard_composeAfter ((Quiet.advance s _).trans ((Quiet.completeRebuild _ r).trans
        (Quiet.fillAndCommit _ _))) _ _
  · exact comesToBoard_quiet (Quiet.advance s _)

/-! ### A counted second -/

/-- A counted second comes to its composition and its sweep, in either order (R65, R77, R109). -/
theorem countedSecond_comes (s : State) (pass : PassPlace) (turn : SweepTurn) {t : State}
    (run : exec (.countedSecond pass turn) s = .next t) :
    (t = s ∧ ¬ (s.started = true ∧ s.clock.timeValid = true)) ∨ ∃ u before tick, Quiet s u ∧
      t = (u.composeAndSweep before tick turn.sweepFirst turn.order).finish := by
  have ran : exec (.countedSecond pass turn) s = execCountedSecond pass turn s := rfl
  rw [ran, execCountedSecond] at run
  cases run
  unfold State.whenStarted
  dsimp only
  split
  next on =>
    split
    · exact .inr ⟨_, _, _, (Quiet.tickSecond s).trans ((Quiet.rollIfDue _).trans ((Quiet.tableSecond _ pass).trans
        (Quiet.noticeTick _))), rfl⟩
    next invalid => exact .inl ⟨rfl, fun both => invalid both.2⟩
  next off => exact .inl ⟨rfl, fun both => off both.1⟩

theorem atSweep_iff {c : Loaded} {second : Nat} : sweepTime c second = true ↔ AtSweep c second := by
  simp [sweepTime, AtSweep, Config.daySeconds, and_comm]

theorem sweepIfDue_none {u : State} (none : ¬ AtSweep u.loader.loaded u.clock.second) (order : SweepOrder) :
    u.sweepIfDue order = u := if_neg (mt atSweep_iff.1 none)

theorem sweepIfDue_due {u : State} (due : AtSweep u.loader.loaded u.clock.second) (order : SweepOrder) :
    u.sweepIfDue order = u.sweepNow order := if_pos (atSweep_iff.2 due)

/-- Apart from the sweep's second, a command that composes the board has left it as it was, or has composed it. -/
theorem composes_comes {c : Instr} {s t : State} (composes : Composes c) (run : exec c s = .next t)
    (apart : (∀ pass turn, c ≠ .countedSecond pass turn) ∨ ¬ AtSweep s.loader.loaded t.clock.second) :
    ComesToBoard s t := by
  cases c with
  | clockFrame dt a b =>
    cases run
    exact comesToBoard_dispatch fun g u h => takeClock_comes h _ _ _ _
  | passFrame dt =>
    cases run
    exact comesToBoard_dispatch fun g u h => takePass_comes h _
  | sightFrame dt =>
    cases run
    exact comesToBoard_dispatch fun g u h => takeSight_comes h _
  | noticeFrame dt =>
    cases run
    exact comesToBoard_dispatch fun g u h => takeNotice_comes h _
  | rebuildCompletion ending => exact rebuildCompletion_comes s ending run
  | countedSecond pass turn =>
    have none : ¬ AtSweep s.loader.loaded t.clock.second := by
      rcases apart with other | none
      · exact absurd rfl (other pass turn)
      · exact none
    rcases countedSecond_comes s pass turn run with ⟨same, -⟩ | ⟨u, before, tick, quiet, ended⟩
    · rw [same]
      exact comesToBoard_quiet (Quiet.refl s)
    · have clock : t.clock = u.clock := by simp [ended]
      rw [clock, ← quiet.loader] at none
      have plain : u.composeAndSweep before tick turn.sweepFirst turn.order = u.composeAfter before tick := by
        unfold State.composeAndSweep
        split
        · rw [sweepIfDue_none none]
        · exact sweepIfDue_none (by simpa using none) _
      rw [ended, plain]
      exact comesToBoard_composeAfter quiet _ _
  | _ => cases composes

end Sys2Proof.Proofs
end

section
/-! PROOF. What withdrawn jobs leave: the planning anew, and the lines (O47). -/

namespace Sys2Proof.Proofs

open Sys2Proof Sys2Proof.Machine Sys2Proof.Claims

/-! ### Planning anew (R103 to R108) -/

theorem counter_same {ks : List Counter} {s u t : State} {cs : List Counter}
    (before : ∀ k ∈ ks, u.counter k = s.counter k) (h : CountedOf ks cs u t) : CountedOf ks cs s t := by
  intro k hk below
  rw [← before k hk] at below ⊢
  exact h k hk below

/-- What a second occasion of planning finds after a first: nothing more to do (R102 to R107). -/
theorem plan_settled {x u : State} (awake : x.planner.energy ≠ .dormant) (alike : PlansAlike x.plan u)
    (planner : u.planner = x.plan.planner) (band : u.sense.band = x.sense.band) (faulted : u.engine.faulted = x.engine.faulted) :
    u.plan = u := by
  have awake' : u.planner.energy ≠ .dormant := by rw [planner]; simpa using awake
  by_cases free : MayPlan x
  · by_cases again : MayPlan u
    · obtain ⟨cs, plans, -⟩ := plan_plans awake free
      obtain ⟨empty, go, -, -⟩ := id again
      rw [← planner, empty, go] at plans
      rcases plans with ⟨unseeded, -⟩ | ⟨n, first, last, -, -, staged⟩
      · have seedless := ((plan_alike awake).trans alike).seed
        have spec := seed_spec u
        rw [plan_stages awake' again, State.stageNormal]
        cases seeded : u.seed with
        | none => rfl
        | some n =>
          rw [seeded, seedless] at spec
          exact absurd spec (unseeded n)
      · dsimp only at staged
        split_ifs at staged <;> simp at staged
    · exact plan_idles awake' again
  · have idle := plan_idles awake free
    refine plan_idles awake' fun again => free ?_
    obtain ⟨empty, go, drives, sound⟩ := again
    rw [planner, idle] at empty go
    rw [band] at drives
    rw [faulted] at sound
    exact ⟨empty, go, drives, sound⟩

theorem planJobs_blocked {x : State} (awake : x.planner.energy ≠ .dormant) (blocked : Blocked x) : x.planJobs = x.plan :=
  promoteJobs_blocked (by simpa [Blocked, plan_awake_engine awake] using blocked)

/-- Planning anew as R104 to R107 say, from a state `x` that finds the staged slot empty, seen at the end `t` (R103, R108). -/
theorem replans_of {s x t : State} {free : Prop} (awake : x.planner.energy ≠ .dormant)
    (empty : x.planner.staged = none) (next : x.planner.nextJob = s.planner.nextJob) (may : MayPlan x ↔ free)
    (before : ∀ k ∈ [Counter.jobStaged, .bandNarrowed, .stagingHeld], x.counter k = s.counter k)
    (planner : t.planner = x.plan.planner) (alike : PlansAlike x.plan t)
    (after : ∀ k ∈ [Counter.jobStaged, .bandNarrowed, .stagingHeld], t.counter k = x.plan.counter k) : Replans free s t := by
  constructor
  · intro can
    obtain ⟨cs, plans, counted⟩ := plan_plans awake (may.2 can)
    refine ⟨cs, ?_, counter_same before fun k hk below => ?_⟩
    · rw [planner, ← next]
      exact ((plan_alike awake).trans alike).plansBand plans
    · rw [after k hk]
      exact counted k below
  · intro cannot
    have idle := plan_idles awake (mt may.1 cannot)
    rw [idle] at planner after
    refine ⟨by rw [planner, empty], by rw [planner, next], fun k hk below => ?_⟩
    rw [after k hk, before k hk]
    simp [below]

/-! ### Planning in DORMANT (R111, R112, R133) -/

/-- What planning in DORMANT may count beside an abandonment. -/
def dormantCounters : List Counter := [.jobPromoted, .haltRequested, .suspensions, .parkStaged]

/-- A NORMAL job `a` has been abandoned for the PARK job. -/
structure AbandonedFor (p t : State) (a : ActiveJob) : Prop where
  unparked : p.planner.boardParked = false
  job : p.engine.active = some a
  normal : a.job.kind = .normal
  lines : ∀ n, t.engine.lines.get n = if a.job.first ≤ n.val ∧ n.val ≤ a.job.last
    then (p.engine.lines.get n).abandoned p.elapsed else p.engine.lines.get n
  counted : CountedOf [.abandonments] [.abandonments] p t
  moves : MovesOnly (.abandonments :: dormantCounters) p t

/-- Planning in DORMANT leaves the lines, or abandons a NORMAL job for the PARK job. -/
def ParksLines (p t : State) : Prop :=
  (t.engine.lines = p.engine.lines ∧ MovesOnly dormantCounters p t) ∨ ∃ a, AbandonedFor p t a

/-- The promotion of the PARK job calls for no more planning (R103, R111). -/
theorem promoteJobs_park {q : State} (dormant : q.planner.energy = .dormant)
    (park : ∀ j, q.planner.staged = some j → j.kind = .park) :
    q.promoteJobs.engine.lines = q.engine.lines ∧ MovesOnly [.jobPromoted] q q.promoteJobs := by
  unfold State.promoteJobs
  split
  · exact ⟨rfl, movesOnly_of_counters rfl⟩
  next j staged =>
    split
    · have still : (q.promote j).plan = q.promote j :=
        plan_parked (a := q.latched j) rfl (park j staged) dormant
      rw [still]
      exact ⟨rfl, movesOnly_count (movesOnly_of_counters rfl) (by decide)⟩
    · exact ⟨rfl, movesOnly_of_counters rfl⟩

theorem ParksLines.promoted {p q : State} (h : ParksLines p q) (dormant : q.planner.energy = .dormant)
    (park : ∀ j, q.planner.staged = some j → j.kind = .park) : ParksLines p q.promoteJobs := by
  obtain ⟨lines, moves⟩ := promoteJobs_park dormant park
  rcases h with ⟨kept, quiet⟩ | ⟨a, abandoned⟩
  · exact .inl ⟨lines.trans kept, movesOnly_trans quiet (movesOnly_mono (by decide) moves)⟩
  · exact .inr ⟨a, abandoned.unparked, abandoned.job, abandoned.normal, fun n => by rw [lines]; exact abandoned.lines n,
      countedOf_movesOnly abandoned.counted moves (by decide),
      movesOnly_trans abandoned.moves (movesOnly_mono (by decide) moves)⟩

/-- The PARK job staged, or not, once a halt has been asked for. -/
theorem stagePark_lines {u : State} (park : ∀ j, u.planner.staged = some j → j.kind = .park) :
    (∀ j, u.stagePark.planner.staged = some j → j.kind = .park) ∧
      (u.stagePark.engine.lines = u.engine.lines ∧ MovesOnly [.parkStaged] u u.stagePark ∨
        ∃ a, u.engine.active = some a ∧ u.stagePark.engine.lines = (u.dropActive a).engine.lines ∧
          MovesOnly [.parkStaged] (u.dropActive a) u.stagePark) := by
  unfold State.stagePark
  split
  · refine ⟨?_, ?_⟩
    · rintro j ⟨⟩
      rfl
    · unfold State.clearForPark
      split
      · exact .inl ⟨rfl, movesOnly_count (movesOnly_of_counters rfl) (by decide)⟩
      next a job => exact .inr ⟨a, job, rfl, movesOnly_count (movesOnly_of_counters rfl) (by decide)⟩
  · exact ⟨park, .inl ⟨rfl, movesOnly_of_counters rfl⟩⟩

theorem askHalt_only (p : State) : MovesOnly dormantCounters p p.askHalt := by
  have waits (u : State) : MovesOnly dormantCounters u u.stopWaiting := by
    unfold State.stopWaiting
    split
    · exact movesOnly_of_counters rfl
    · split
      · exact movesOnly_count (movesOnly_of_counters rfl) (by decide)
      · exact movesOnly_of_counters rfl
  unfold State.askHalt
  split
  · exact movesOnly_of_counters rfl
  · split
    · exact movesOnly_trans (movesOnly_count (movesOnly_of_counters rfl) (by decide)) (waits _)
    · exact movesOnly_of_counters rfl

theorem planJobs_dormant {p : State} (dormant : p.planner.energy = .dormant)
    (park : ∀ j, p.planner.staged = some j → j.kind = .park) : ParksLines p p.planJobs := by
  have energy : p.plan.planner.energy = .dormant := by simpa using dormant
  by_cases wanted : p.parkWanted = true
  · obtain ⟨-, unparked, -, normal⟩ := parkWanted_iff.1 wanted
    have plan : p.plan = p.askHalt.stagePark := by rw [State.plan, if_pos dormant, State.planPark, if_pos wanted]
    cases job : p.engine.active with
    | none =>
      have asked : p.askHalt = p := by simp [State.askHalt, job]
      rw [asked] at plan
      obtain ⟨still, ⟨lines, moves⟩ | ⟨a, other, -⟩⟩ := stagePark_lines park
      · rw [← plan] at still lines moves
        exact ParksLines.promoted (.inl ⟨lines, movesOnly_mono (by decide) moves⟩) energy still
      · rw [job] at other
        cases other
    | some a =>
      obtain ⟨is, asks⟩ := askHalt_asks job (normal a job)
      obtain ⟨u, hu⟩ : ∃ u, u = p.askHalt := ⟨_, rfl⟩
      rw [← hu] at is asks plan
      have asked : MovesOnly dormantCounters p u := by
        rw [hu]
        exact askHalt_only p
      obtain ⟨still, ⟨lines, moves⟩ | ⟨b, taken, lines, moves⟩⟩ := stagePark_lines (u := u) (by rw [is]; exact park)
      · rw [← plan] at still lines moves
        refine ParksLines.promoted (.inl ⟨lines.trans (by rw [is]), movesOnly_trans asked (movesOnly_mono (by decide) moves)⟩)
          energy still
      · rw [← plan] at still lines moves
        have same : b = askedJob p a := by
          rw [is] at taken
          exact (Option.some.inj taken).symm
        have dropped : Counted [.abandonments] u (u.dropActive b) := counted_one rfl
        refine ParksLines.promoted (.inr ⟨a, unparked, job, normal a job, fun n => ?_, ?_, ?_⟩) energy still
        · have record : u.engine.lines = p.engine.lines ∧ u.elapsed = p.elapsed := by rw [is]; exact ⟨rfl, rfl⟩
          rw [lines, dropActive_lines, same, askedJob_job, record.1, record.2]
        · exact countedOf_within asked (by decide) (countedOf_of_counted dropped) moves (by decide)
        · exact movesOnly_trans (movesOnly_mono (by decide) asked) (movesOnly_trans
            (movesOnly_count (movesOnly_of_counters rfl) (by decide)) (movesOnly_mono (by decide) moves))
  · have still := plan_unwanted dormant (Bool.eq_false_iff.2 wanted)
    have planned : p.planJobs = p.promoteJobs := by rw [State.planJobs, still]
    rw [planned]
    exact ParksLines.promoted (.inl ⟨rfl, movesOnly_of_counters rfl⟩) dormant park

/-! ### The end of a command, and a changed board (R77, R78, R100, R108) -/

theorem finish_shows (s u : State) : Shows s u u.finish :=
  shows_of (by simp) (portServes_finish rfl) (by simp) (by simp) (finish_movesOnly u)

/-- The end of a command, as planning sees it. -/
theorem finish_alike (u : State) : PlansAlike u u.finish := by
  have shows := finish_shows u u
  exact ⟨by simp, by simp, shows.lines, congrArg (Option.map ActiveJob.job) shows.active, by simp, by simp, by simp,
    by simp, shows.elapsed⟩

/-- A composition that has changed the targets: the changed lines reported, and then planning. -/
theorem compose_reports {u : State} (changed : u.compose.board.targets ≠ u.board.targets) : ∃ p, Reports u p ∧
    u.compose = p.planJobs ∧ p.board.targets ≠ u.board.targets ∧ p.board.targets = u.compose.board.targets ∧
    p.elapsed = u.elapsed ∧ p.loader = u.loader ∧ p.sense = u.sense := by
  have differs : u.boardDiffers = true := by
    by_contra same
    exact changed (by rw [State.compose, if_neg same])
  have composed : u.compose = u.composeTargets.planJobs := if_pos differs
  have targets : u.composeTargets.board.targets = u.compose.board.targets := by rw [composed]; simp
  exact ⟨u.composeTargets, composeTargets_reports u, composed, by rwa [targets], targets, by simp, by simp, by simp⟩

theorem reportedLine_quiet {s u p : State} (quiet : Quiet s u) : reportedLine u p = reportedLine s p := by
  funext n
  simp only [reportedLine, quiet.engine, quiet.targets]

theorem withdrawals_quiet {s u : State} (quiet : Quiet s u) : withdrawals u = withdrawals s ∧ unstaged u = unstaged s := by
  have same : withdrawals u = withdrawals s := by rw [withdrawals, withdrawals, quiet.planner]
  exact ⟨same, by rw [unstaged, unstaged, same, quiet.planner]⟩

theorem staged_park {s : State} (j : Job) (left : unstaged s = some j) : j.kind = .park := by
  cases kind : j.kind with
  | park => rfl
  | normal => exact absurd kind (unstaged_kept s j left)

/-- What is left staged once a NORMAL job has been withdrawn (R108). -/
theorem unstaged_none {s : State} (none : s.planner.staged = none ∨ withdrawals s ≠ []) : unstaged s = Option.none := by
  rcases none with empty | gone
  · rw [unstaged, withdrawals_none empty, if_pos rfl, empty]
  · rw [unstaged, if_neg gone]

/-- The lines and the withdrawal after a changed board, outside the sweep's second. -/
theorem composed_withdraws {s u t : State} (quiet : Quiet s u) (ended : t = u.compose.finish)
    (changed : t.board.targets ≠ s.board.targets) :
    ((∀ n, t.engine.lines.get n = reportedLine s t n) ∧ CountedOf [.abandonments] [] s t ∨
      s.planner.energy = .dormant ∧ s.planner.boardParked = false ∧
        ∃ a, s.engine.active = some a ∧ a.job.kind = .normal ∧ LinesAbandoned a.job (reportedLine s t) t ∧
          CountedOf [.abandonments] [.abandonments] s t) ∧
    CountedOf [.stagedWithdrawn] (withdrawals s) s t ∧
    (s.planner.staged = none ∨ withdrawals s ≠ [] → s.engine.active ≠ none ∨ s.sense.storeLow = true →
      s.planner.energy ≠ .dormant →
      Replans (s.planner.hold = false ∧ s.sense.band.drive = true ∧ s.engine.faulted = false) s t) := by
  have shown : t.board.targets = u.compose.board.targets := by simp [ended]
  obtain ⟨p, reports, composed, differs, targets, late, loader, sense⟩ := compose_reports (u := u)
    (by rwa [← shown, quiet.targets])
  obtain ⟨withdrawn, left⟩ := withdrawals_quiet quiet
  have shows := finish_shows s u.compose
  rw [← ended, composed] at shows
  have energy : p.planner.energy = s.planner.energy := by rw [reports.planner]; simp [quiet.planner]
  have reported : reportedLine s t = reportedLine s p :=
    reportedLine_congr (shown.trans targets.symm) (by rw [shows.elapsed]; simp)
  have lines (n : Fin 10) : p.engine.lines.get n = reportedLine s t n := by
    rw [reported, ← reportedLine_quiet quiet]
    exact reports.lines n
  have staged : p.planner.staged = unstaged s := by rw [reports.planner, ← left]; exact if_neg differs
  have own : [.stagedWithdrawn] ++ [.abandonments] ⊆ reportCounters := by decide
  have staging : [.jobStaged, .bandNarrowed, .stagingHeld] ⊆ reportCounters := by decide
  have withdraws : CountedOf [.stagedWithdrawn] (withdrawals s) s p := by
    have counted := reports.withdrawn
    rw [if_neg differs, withdrawn] at counted
    exact counter_same (fun k hk => quiet.counters k (own (List.mem_append_left _ hk))) counted
  have still : CountedOf [.abandonments] [] s p := by
    refine counter_same (u := u) (fun k hk => quiet.counters k (own (List.mem_append_right _ hk))) ?_
    exact countedOf_movesOnly (countedOf_of_counted (counted_nil rfl)) reports.moves (by decide)
  have gone : CountedOf [.stagedWithdrawn] (withdrawals s) s t :=
    countedOf_movesOnly (countedOf_movesOnly withdraws (planJobs_movesOnly p) (by decide)) shows.moves (by decide)
  refine ⟨?_, gone, fun empty stuck awake => ?_⟩
  · by_cases dormant : s.planner.energy = .dormant
    · rcases planJobs_dormant (p := p) (energy.trans dormant) (by rw [staged]; exact staged_park) with
        ⟨kept, moves⟩ | ⟨a, abandoned⟩
      · exact .inl ⟨fun n => by rw [shows.lines, kept, lines],
          countedOf_movesOnly (countedOf_movesOnly still moves (by decide)) shows.moves (by decide)⟩
      · refine .inr ⟨dormant, ?_, a, ?_, abandoned.normal, fun n => ?_, ?_⟩
        · have parked := abandoned.unparked
          rw [reports.planner, quiet.planner] at parked
          exact parked
        · have job := abandoned.job
          rw [reports.engine, quiet.engine] at job
          exact job
        · have time : p.elapsed = t.elapsed := by rw [shows.elapsed]; simp
          rw [shows.lines, abandoned.lines, lines, time]
          rfl
        · exact countedOf_movesOnly (countedOf_append still abandoned.counted) shows.moves (by decide)
    · have kept := KeepsAwake.planJobs (s := p) (by rwa [energy])
      exact .inl ⟨fun n => by rw [shows.lines, kept.lines, lines],
        countedOf_movesOnly (countedOf_movesOnly still kept.moves (by decide)) shows.moves (by decide)⟩
  · have engine : p.engine.active = s.engine.active ∧ p.engine.faulted = s.engine.faulted := by
      rw [reports.engine, quiet.engine]
      exact ⟨rfl, rfl⟩
    have planner : p.planner.hold = s.planner.hold ∧ p.planner.nextJob = s.planner.nextJob := by
      rw [reports.planner, quiet.planner]
      exact ⟨rfl, rfl⟩
    have slot : p.planner.staged = none := staged.trans (unstaged_none empty)
    have awake' : p.planner.energy ≠ .dormant := by rwa [energy]
    have blocked : p.planJobs = p.plan := planJobs_blocked awake' (by
      rw [Blocked, engine.1, sense, quiet.sense]
      exact stuck)
    have before : ∀ k ∈ [Counter.jobStaged, .bandNarrowed, .stagingHeld], p.counter k = s.counter k := fun k hk =>
      (reports.moves k (by revert k; decide)).trans (quiet.counters k (staging hk))
    have alike := finish_alike u.compose
    rw [← ended, composed, blocked] at alike
    rw [blocked] at shows
    refine replans_of awake' slot planner.2 ?_ before shows.planner alike fun k hk => shows.moves k (by revert k; decide)
    simp only [MayPlan, slot, planner.1, engine.2, sense, quiet.sense, true_and]

end Sys2Proof.Proofs
end

section
/-! PROOF. The sweep, a change of energy state or band, and the staged job they withdraw (O47). -/

namespace Sys2Proof.Proofs

open Sys2Proof Sys2Proof.Machine Sys2Proof.Claims

/-! ### Lines outside an abandonment (R100) -/

/-- Planning looks at no NORMAL job on the glass: the part is not in DORMANT, or the board is parked (R111). -/
def Calm (s : State) : Prop := s.planner.energy ≠ .dormant ∨ s.planner.boardParked = true

theorem plan_calm {s : State} (calm : Calm s) : s.plan.engine.lines = s.engine.lines := by
  by_cases dormant : s.planner.energy = .dormant
  · have parked := calm.resolve_left (not_not.2 dormant)
    rw [plan_unwanted dormant (by simp [State.parkWanted, parked])]
  · rw [plan_awake_engine dormant]

theorem promoteJobs_calm {s : State} (calm : Calm s) : s.promoteJobs.engine.lines = s.engine.lines := by
  unfold State.promoteJobs
  split
  · rfl
  next j _ =>
    split
    · exact plan_calm (s := s.promote j) calm
    · rfl

theorem planJobs_calm {s : State} (calm : Calm s) : s.planJobs.engine.lines = s.engine.lines :=
  (promoteJobs_calm (by simpa [Calm] using calm)).trans (plan_calm calm)

theorem compose_same {x : State} (same : x.compose.board.targets = x.board.targets) : x.compose = x := by
  by_contra other
  have composed := congrArg Board.targets (compose_board x)
  have differs : x.boardDiffers = true := by
    by_contra none
    exact other (if_neg none)
  obtain ⟨n, -, changed⟩ := List.any_eq_true.1 differs
  have held : x.composedTargets = x.board.targets := composed.symm.trans same
  simp [State.targetDiffers, held] at changed

theorem composeAfter_same {x : State} {before : List Entry} {tick : Bool}
    (same : (x.composeAfter before tick).board.targets = x.board.targets) : x.composeAfter before tick = x := by
  unfold State.composeAfter at same ⊢
  split at same
  next due => rw [if_pos due, compose_same same]
  next none => rw [if_neg none]

theorem composeAfter_lines {x : State} (calm : Calm x) (before : List Entry) (tick : Bool) (n : Fin 10) :
    (x.composeAfter before tick).engine.lines.get n = reportedLine x (x.composeAfter before tick) n := by
  by_cases same : (x.composeAfter before tick).board.targets = x.board.targets
  · rw [reportedLine_same same, composeAfter_same same]
  · have composed : x.composeAfter before tick = x.compose := by
      unfold State.composeAfter at same ⊢
      split
      · rfl
      next none =>
        rw [if_neg none] at same
        exact absurd rfl same
    rw [composed] at same ⊢
    obtain ⟨p, reports, planned, -, targets, late, -, -⟩ := compose_reports same
    have parks : Calm p := by
      rw [Calm, reports.planner]
      exact calm
    have reported : reportedLine x x.compose = reportedLine x p :=
      reportedLine_congr targets.symm (by rw [late]; simp)
    rw [reported, planned, planJobs_calm parks]
    exact reports.lines n

theorem withdrawStaged_calm {s : State} (calm : Calm s) : Calm s.withdrawStaged ∧ s.withdrawStaged.engine = s.engine := by
  rw [(withdrawStaged_eq s).1]
  exact ⟨calm, rfl⟩

theorem planSweep_calm {s : State} (calm : Calm s) : s.planSweep.engine.lines = s.engine.lines := by
  obtain ⟨still, kept⟩ := withdrawStaged_calm (s := s.setSweep) calm
  rw [State.planSweep, planJobs_calm still, kept]
  rfl

theorem leaveFaulted_eq (s : State) : s.leaveFaulted = { s with engine := { s.engine with
    faulted := false, faults := if s.engine.faulted = true then 2 else s.engine.faults } } := by
  unfold State.leaveFaulted
  cases faulted : s.engine.faulted
  · rw [if_neg (by simp), if_neg (by simp), ← faulted]
  · simp

theorem leaveAndPromote_calm {s : State} (calm : Calm s) : s.leaveAndPromote.engine.lines = s.engine.lines := by
  unfold State.leaveAndPromote
  split
  · rw [promoteJobs_calm (by rw [leaveFaulted_eq]; exact calm), leaveFaulted_eq]
  · rfl

theorem sweepIfDue_calm {s : State} (calm : Calm s) (order : SweepOrder) :
    (s.sweepIfDue order).engine.lines = s.engine.lines := by
  unfold State.sweepIfDue
  split
  · cases order with
    | planner => exact (leaveAndPromote_calm (by simpa [Calm] using calm)).trans (planSweep_calm calm)
    | engine =>
      refine (planSweep_calm (s := s.leaveFaulted) (by rw [leaveFaulted_eq]; exact calm)).trans ?_
      rw [leaveFaulted_eq]
    | promotion => exact (planSweep_calm (by simpa [Calm] using calm)).trans (leaveAndPromote_calm calm)
  · rfl

theorem composeAndSweep_lines {u : State} (calm : Calm u) (before : List Entry) (tick first : Bool) (order : SweepOrder)
    (n : Fin 10) : (u.composeAndSweep before tick first order).engine.lines.get n =
      reportedLine u (u.composeAndSweep before tick first order) n := by
  unfold State.composeAndSweep
  cases first with
  | true =>
    have lines := composeAfter_lines (x := u.sweepIfDue order) (by simpa [Calm] using calm) before tick n
    have targets : (u.sweepIfDue order).board.targets = u.board.targets := by simp
    simpa [reportedLine, sweepIfDue_calm calm, targets] using lines
  | false =>
    have lines := composeAfter_lines calm before tick n
    have swept := sweepIfDue_calm (s := u.composeAfter before tick) (by simpa [Calm] using calm) order
    have reported : reportedLine u ((u.composeAfter before tick).sweepIfDue order) =
        reportedLine u (u.composeAfter before tick) := reportedLine_congr (by simp) (by simp)
    simpa [reported, swept] using lines

/-- A reported change sets the line's dirty-since time, and no other line's (R100). -/
theorem composes_lines {c : Instr} {s t : State} (composes : Composes c) (run : exec c s = .next t)
    (changed : t.board.targets ≠ s.board.targets) (calm : Calm s) (n : Fin 10) :
    t.engine.lines.get n = reportedLine s t n := by
  by_cases second : ∃ pass turn, c = .countedSecond pass turn
  · obtain ⟨pass, turn, rfl⟩ := second
    rcases countedSecond_comes s pass turn run with ⟨same, -⟩ | ⟨u, before, tick, quiet, ended⟩
    · exact absurd (by rw [same]) changed
    · have shows := finish_shows s (u.composeAndSweep before tick turn.sweepFirst turn.order)
      rw [← ended] at shows
      have lines := composeAndSweep_lines (u := u) (by rw [Calm, quiet.planner]; exact calm) before tick turn.sweepFirst
        turn.order n
      rw [shows.lines, shows.reported, lines, reportedLine_quiet quiet]
  · rcases composes_comes composes run (.inl fun pass turn same => second ⟨pass, turn, same⟩) with same | ⟨u, quiet, ended⟩
    · exact absurd same changed
    · rcases (composed_withdraws quiet ended changed).1 with ⟨lines, -⟩ | ⟨dormant, unparked, -⟩
      · exact lines n
      · rcases calm with awake | parked
        · exact absurd dormant awake
        · rw [parked] at unparked
          cases unparked

/-! ### The sweep (R108, R109, R135) -/

theorem leaveAndPromote_blocked {x : State} (blocked : Blocked x) : x.leaveAndPromote = x.leaveFaulted := by
  unfold State.leaveAndPromote
  split
  · refine promoteJobs_blocked ?_
    rw [leaveFaulted_eq]
    exact blocked
  next sound => exact (if_neg sound).symm

/-- The state the planner's work at the sweep time plans from: flags set, the staged NORMAL job withdrawn. -/
def sweptFor (y : State) : State := y.setSweep.withdrawStaged

theorem sweptFor_is (y : State) : (sweptFor y).planner = { y.setSweep.planner with staged := unstaged y } ∧
    (sweptFor y).engine = y.engine ∧ (sweptFor y).sense = y.sense ∧
    CountedOf [.stagedWithdrawn] (withdrawals y) y (sweptFor y) ∧ MovesOnly [.sweepMade, .stagedWithdrawn] y (sweptFor y) := by
  obtain ⟨is, counted⟩ := withdrawStaged_eq y.setSweep
  have flagged : MovesOnly [.sweepMade] y y.setSweep := movesOnly_count (movesOnly_of_counters rfl) (by decide)
  have same : withdrawals y.setSweep = withdrawals y ∧ unstaged y.setSweep = unstaged y := ⟨rfl, rfl⟩
  rw [same.1] at counted
  rw [same.2] at is
  refine ⟨by rw [sweptFor, is], by rw [sweptFor, is]; rfl, by rw [sweptFor, is]; rfl, ?_,
    movesOnly_trans (movesOnly_mono (by decide) flagged) (movesOnly_mono (by decide) (withdrawStaged_movesOnly _))⟩
  exact countedOf_within flagged (by decide) (countedOf_of_counted counted) (movesOnly_of_counters (cs := []) rfl) (by decide)

/-- The sweep with nothing to promote: the planner's work on `y`, and what the engine does after it. -/
theorem sweepNow_blocked {u : State} (blocked : Blocked u) (order : SweepOrder) : ∃ y : State,
    y.planner = u.planner ∧ y.engine.active = u.engine.active ∧ y.sense = u.sense ∧ y.counters = u.counters ∧
      (y.engine.faulted = false ↔ (u.engine.faulted = true → order ≠ .planner)) ∧
      (u.sweepNow order = y.planSweep ∨ u.sweepNow order = y.planSweep.leaveAndPromote) := by
  cases order with
  | planner => exact ⟨u, rfl, rfl, rfl, rfl, by simp, .inr rfl⟩
  | engine =>
    refine ⟨u.leaveFaulted, ?_, ?_, ?_, ?_, ?_, .inl rfl⟩ <;> rw [leaveFaulted_eq]
    simp
  | promotion =>
    refine ⟨u.leaveFaulted, ?_, ?_, ?_, ?_, ?_, .inl ?_⟩
    on_goal 6 => exact congrArg State.planSweep (leaveAndPromote_blocked blocked)
    all_goals rw [leaveFaulted_eq]
    simp

theorem leaveAndPromote_only (s : State) : MovesOnly (.jobPromoted :: planCounters) s s.leaveAndPromote := by
  unfold State.leaveAndPromote
  split
  · refine movesOnly_trans (movesOnly_of_counters ?_) (promoteJobs_movesOnly _)
    rw [leaveFaulted_eq]
  · exact movesOnly_of_counters rfl

/-- The sweep's second with no changed target (R108, R109). -/
theorem sweep_withdraws {s u t : State} {before : List Entry} {tick first : Bool} {order : SweepOrder} (quiet : Quiet s u)
    (ended : t = (u.composeAndSweep before tick first order).finish) (due : AtSweep s.loader.loaded t.clock.second)
    (still : t.board.targets = s.board.targets) (stuck : s.engine.active ≠ none ∨ s.sense.storeLow = true) :
    CountedOf [.stagedWithdrawn] (withdrawals s) s t ∧
    (s.planner.staged = none ∨ withdrawals s ≠ [] → s.planner.energy ≠ .dormant →
      Replans (s.planner.hold = false ∧ s.sense.band.drive = true ∧ (s.engine.faulted = true → order ≠ .planner)) s t) := by
  have time : t.clock = u.clock := by simp [ended]
  have targets : (u.composeAndSweep before tick first order).board.targets = u.board.targets := by
    rw [quiet.targets, ← still, ended]
    simp
  rw [time, ← quiet.loader] at due
  have swept : u.composeAndSweep before tick first order = u.sweepNow order := by
    unfold State.composeAndSweep at targets ⊢
    cases first with
    | true =>
      rw [sweepIfDue_due due] at targets ⊢
      exact composeAfter_same (by simpa using targets)
    | false =>
      have same : u.composeAfter before tick = u := composeAfter_same (by simpa using targets)
      simp only [Bool.false_eq_true, if_false, same]
      exact sweepIfDue_due due order
  have blocked : Blocked u := by rw [Blocked, quiet.engine, quiet.sense]; exact stuck
  obtain ⟨y, planner, active, sense, counters, sound, ends⟩ := sweepNow_blocked blocked order
  obtain ⟨planned, engine, sensed, withdrawn, moves⟩ := sweptFor_is y
  have left : withdrawals y = withdrawals s ∧ unstaged y = unstaged s := by
    have same : withdrawals y = withdrawals s := by rw [withdrawals, withdrawals, planner, quiet.planner]
    exact ⟨same, by rw [unstaged, unstaged, same, planner, quiet.planner]⟩
  have same (k : Counter) (own : k ∈ reportCounters) : y.counter k = s.counter k :=
    (State.counter_congr counters k).trans (quiet.counters k own)
  have shows := finish_shows s (u.sweepNow order)
  have work : y.planSweep = (sweptFor y).planJobs := rfl
  rw [← swept, ← ended, swept] at shows
  rw [left.1] at withdrawn
  have gone := counter_same (s := s) (fun k own => same k (by
    rw [List.mem_singleton.1 own]
    decide)) withdrawn
  refine ⟨?_, fun empty awake => ?_⟩
  · have plans := countedOf_movesOnly gone (planJobs_movesOnly _) (by decide)
    rw [← work] at plans
    rcases ends with ends | ends <;> rw [ends] at shows
    · exact countedOf_movesOnly plans shows.moves (by decide)
    · exact countedOf_movesOnly (countedOf_movesOnly plans (leaveAndPromote_only _) (by decide)) shows.moves (by decide)
  · have energy : (sweptFor y).planner.energy ≠ .dormant := by
      rw [planned]
      change y.planner.energy ≠ .dormant
      rwa [planner, quiet.planner]
    have stays : Blocked (sweptFor y) := by rw [Blocked, engine, sensed, active, sense]; exact blocked
    have jobs : y.planSweep = (sweptFor y).plan := work.trans (planJobs_blocked energy stays)
    have same_engine := plan_awake_engine energy
    have ended' : (u.sweepNow order).planner = (sweptFor y).plan.planner ∧ PlansAlike (sweptFor y).plan (u.sweepNow order) ∧
        (u.sweepNow order).counters = (sweptFor y).plan.counters := by
      rcases ends with ends | ends <;> rw [ends, jobs]
      · exact ⟨rfl, ⟨rfl, rfl, rfl, rfl, rfl, rfl, rfl, rfl, rfl⟩, rfl⟩
      · have on : Blocked (sweptFor y).plan := by simpa [Blocked, same_engine] using stays
        rw [leaveAndPromote_blocked on, leaveFaulted_eq]
        exact ⟨rfl, ⟨rfl, rfl, rfl, rfl, rfl, rfl, rfl, rfl, rfl⟩, rfl⟩
    obtain ⟨plannerEnds, alike, quietly⟩ := ended'
    have finished := finish_alike (u.sweepNow order)
    rw [← swept, ← ended, swept] at finished
    refine replans_of (x := sweptFor y) energy ?_ ?_ ?_ ?_ (shows.planner.trans plannerEnds) (alike.trans finished) ?_
    · rw [planned, left.2, unstaged_none empty]
    · rw [planned]
      change y.planner.nextJob = _
      rw [planner, quiet.planner]
    · have slot : (sweptFor y).planner.staged = none := by rw [planned, left.2, unstaged_none empty]
      have hold : (sweptFor y).planner.hold = s.planner.hold := by
        rw [planned]
        change y.planner.hold = _
        rw [planner, quiet.planner]
      rw [quiet.engine] at sound
      simp only [MayPlan, slot, hold, engine, sensed, sense, quiet.sense, sound, true_and]
    · exact fun k own => (moves k (by revert k; decide)).trans (same k (by revert k; decide))
    · exact fun k own => (shows.moves k (by revert k; decide)).trans (State.counter_congr quietly k)

end Sys2Proof.Proofs
end

section
/-! PROOF. The staged job at a change of the energy state and of the band (O47). -/

namespace Sys2Proof.Proofs

open Sys2Proof Sys2Proof.Machine Sys2Proof.Claims

/-! ### A change of the energy state (R99, R108) -/

/-- With nothing to promote, a scan completion plans once, whatever it resumes (R103, R132). -/
theorem scanJobs_blocked {v : State} (awake : v.planner.energy ≠ .dormant) (blocked : Blocked v) :
    v.scanJobs = v.plan ∨ ∃ a, v.plan.engine.active = some a ∧ v.scanJobs = resumed v.plan a := by
  have engine := plan_awake_engine awake
  have on : Blocked v.plan := by simpa [Blocked, engine] using blocked
  rw [State.scanJobs, planJobs_blocked awake blocked]
  unfold State.tryResume
  cases job : v.plan.engine.active with
  | none => exact .inl (promoteJobs_blocked on)
  | some a =>
    dsimp only
    split
    · have taken : Blocked (resumed v.plan a) := .inl (Option.some_ne_none _)
      have settled : (resumed v.plan a).plan = resumed v.plan a :=
        plan_settled (x := v) awake ⟨rfl, rfl, rfl, by rw [job]; rfl, rfl, rfl, rfl, rfl, rfl⟩ rfl
          (show v.plan.sense.band = v.sense.band by simp) (show v.plan.engine.faulted = v.engine.faulted by rw [engine])
      have again : (resumed v.plan a).planJobs = resumed v.plan a :=
        (planJobs_blocked (x := resumed v.plan a) (by simpa [resumed] using awake) taken).trans settled
      exact .inr ⟨a, rfl, (congrArg State.promoteJobs again).trans (promoteJobs_blocked taken)⟩
    · exact .inl (promoteJobs_blocked on)

theorem scan_withdraws {s t : State} {dt : Nat} {counts : BitVec 12} (ended : t = scanned s dt counts)
    (change : t.planner.energy ≠ s.planner.energy) :
    CountedOf [.stagedWithdrawn] (withdrawals s) s t ∧
    (t.planner.energy ≠ .dormant →
      (∀ n, t.engine.lines.get n = reportedLine s t n) ∧
      (s.planner.staged = none ∨ withdrawals s ≠ [] → s.engine.active ≠ none ∨ s.sense.storeLow = true →
        Replans (s.sense.band.drive = true ∧ s.engine.faulted = false) s t)) := by
  have h := handed_is s dt counts
  have shows := scanned_shows s dt counts
  obtain ⟨energy, kept⟩ := scanned_energy s dt counts
  obtain ⟨-, -, -, -, -, -, judged, -⟩ := handed_frame s dt counts
  obtain ⟨-, port, board, sense, elapsed, loader, -⟩ := scanned_is s dt counts
  obtain ⟨v, hv⟩ : ∃ v, v = handed s dt counts := ⟨_, rfl⟩
  rw [← ended] at shows energy port board sense elapsed loader
  rw [← hv] at h shows kept judged port board sense elapsed loader
  rw [energy] at change ⊢
  have withdrawn : CountedOf [.stagedWithdrawn] (withdrawals s) s v := by
    intro k own below
    have only := List.mem_singleton.1 own
    subst only
    have counted := h.counted .stagedWithdrawn (by decide) below
    rw [if_neg change] at counted
    have others : List.count Counter.stagedWithdrawn (.scanCompleted :: entryCounter (accounted s dt counts).planner.energy ::
        withdrawals s) = (withdrawals s).count .stagedWithdrawn := by
      cases (accounted s dt counts).planner.energy <;> rfl
    rwa [others] at counted
  refine ⟨countedOf_movesOnly (countedOf_movesOnly withdrawn (scanJobs_movesOnly v) (by decide)) shows.moves (by decide),
    fun awake => ⟨fun n => ?_, fun empty stuck => ?_⟩⟩
  · have lines := (KeepsAwake.scanJobs (s := v) (by rwa [kept])).lines
    have same : reportedLine s v.scanJobs = reportedLine s v := reportedLine_congr (by simp) (by simp)
    rw [shows.lines, lines, shows.reported, same]
    exact h.lines n
  · have awake' : v.planner.energy ≠ .dormant := by rwa [kept]
    have slot : v.planner.staged = none := by
      rw [h.planner]
      exact (if_neg change).trans (unstaged_none empty)
    have blocked : Blocked v := by
      rw [Blocked, h.engine, judged]
      exact stuck
    have before : ∀ k ∈ [Counter.jobStaged, .bandNarrowed, .stagingHeld], v.counter k = s.counter k :=
      fun k own => h.moves k (by revert k; decide)
    have work : v.scanJobs.planner = v.plan.planner ∧ PlansAlike v.plan v.scanJobs ∧
        MovesOnly [.resumptions] v.plan v.scanJobs := by
      rcases scanJobs_blocked awake' blocked with same | ⟨a, job, same⟩ <;> rw [same]
      · exact ⟨rfl, ⟨rfl, rfl, rfl, rfl, rfl, rfl, rfl, rfl, rfl⟩, movesOnly_of_counters rfl⟩
      · exact ⟨rfl, ⟨rfl, rfl, rfl, by rw [job]; rfl, rfl, rfl, rfl, rfl, rfl⟩,
          movesOnly_count (movesOnly_of_counters rfl) (by decide)⟩
    obtain ⟨planner, alike, moves⟩ := work
    have finished : PlansAlike v.scanJobs t := ⟨by rw [loader], by rw [board], shows.lines,
      congrArg (Option.map ActiveJob.job) shows.active, by rw [shows.planner], by rw [shows.planner],
      by rw [shows.planner], by rw [sense], elapsed⟩
    refine replans_of awake' slot ?_ ?_ before (shows.planner.trans planner) (alike.trans finished) fun k own =>
      (shows.moves k (by revert k; decide)).trans (moves k (by revert k; decide))
    · rw [h.planner]; rfl
    · have go : v.planner.hold = false := by rw [h.planner]; rfl
      have band : v.sense.band = s.sense.band := by rw [judged]; rfl
      have faulted : v.engine.faulted = s.engine.faulted := by rw [h.engine]
      simp only [MayPlan, slot, go, band, faulted, true_and]

/-- A scan completion that changes the energy state has completed a conversion. -/
theorem scan_changed {s t : State} {dt : Nat} {counts : BitVec 12} (started : s.started = true)
    (run : exec (.scanCompletion dt counts) s = .next t) (change : t.planner.energy ≠ s.planner.energy) :
    t = scanned s dt counts := by
  by_cases converting : s.sense.converting = true
  · rw [scan_run started converting, ← scanned] at run
    exact (Host.Outcome.next.inj run).symm
  · have ran : exec (.scanCompletion dt counts) s = execScanCompletion dt counts s := rfl
    have idle : ¬ (s.advance dt).sense.converting = true := converting
    rw [ran, execScanCompletion] at run
    simp only [State.whenStarted, if_neg idle, ite_self] at run
    rw [← Host.Outcome.next.inj run] at change
    exact absurd rfl change

/-! ### A change of the band (R108, R144 to R146) -/

/-- The state planning finds at a change of the band: the sense unit `u` taken over, the staged NORMAL job withdrawn. -/
def bandFor (w : State) (u : Sense) : State := ((State.count { w with sense := u } .bandChanged).withdrawStaged)

/-- A read's work on planner and engine before the band is judged (R124, R136): the port alone. -/
structure PortOnly (s w : State) : Prop where
  planner : w.planner = s.planner
  active : w.engine.active = s.engine.active
  faulted : w.engine.faulted = s.engine.faulted
  sense : w.sense = s.sense
  counters : ∀ k ∈ reportCounters, w.counter k = s.counter k

theorem band_withdraws {s w r t : State} {u : Sense} (port : PortOnly s w) (low : u.storeLow = s.sense.storeLow)
    (moves : MovesOnly (.jobPromoted :: planCounters) (bandFor w u).planJobs r) (ended : t = r.finish)
    (stays : Blocked (bandFor w u) → (bandFor w u).planner.energy ≠ .dormant → r = { (bandFor w u).plan with
      engine := { (bandFor w u).plan.engine with freshHold := r.engine.freshHold } }) :
    CountedOf [.stagedWithdrawn] (withdrawals s) s t ∧
    (s.planner.staged = none ∨ withdrawals s ≠ [] → s.engine.active ≠ none ∨ s.sense.storeLow = true →
      s.planner.energy ≠ .dormant →
      Replans (s.planner.hold = false ∧ u.band.drive = true ∧ s.engine.faulted = false) s t) := by
  obtain ⟨x, hx⟩ : ∃ x, x = bandFor w u := ⟨_, rfl⟩
  obtain ⟨is, counted⟩ := withdrawStaged_eq (State.count { w with sense := u } .bandChanged)
  have body : (State.count { w with sense := u } .bandChanged).withdrawStaged = x := hx.symm
  have banded : MovesOnly [.bandChanged] w (State.count { w with sense := u } .bandChanged) :=
    movesOnly_count (movesOnly_of_counters rfl) (by decide)
  have left : withdrawals (State.count { w with sense := u } .bandChanged) = withdrawals s ∧
      unstaged (State.count { w with sense := u } .bandChanged) = unstaged s := by
    have same : withdrawals (State.count { w with sense := u } .bandChanged) = withdrawals s :=
      (show _ = withdrawals w from rfl).trans (by rw [withdrawals, withdrawals, port.planner])
    exact ⟨same, by rw [unstaged, unstaged, same, ← port.planner]; rfl⟩
  have gone_moves := withdrawStaged_movesOnly (State.count { w with sense := u } .bandChanged)
  rw [body] at is counted gone_moves
  rw [left.1] at counted
  rw [left.2] at is
  rw [← hx] at moves stays
  have shows := finish_shows s r
  rw [← ended] at shows
  have planner : x.planner = { s.planner with staged := unstaged s } := by rw [is, ← port.planner]; rfl
  have engine : x.engine = w.engine := by rw [is]; rfl
  have sense : x.sense = u := by rw [is]; rfl
  have withdrawn : CountedOf [.stagedWithdrawn] (withdrawals s) s x :=
    counter_same (fun k own => port.counters k (by rw [List.mem_singleton.1 own]; decide))
      (countedOf_within banded (by decide) (countedOf_of_counted counted) (movesOnly_of_counters (cs := []) rfl) (by decide))
  refine ⟨countedOf_movesOnly (countedOf_movesOnly (countedOf_movesOnly withdrawn (planJobs_movesOnly x) (by decide)) moves
    (by decide)) shows.moves (by decide), fun empty stuck awake => ?_⟩
  have awake' : x.planner.energy ≠ .dormant := by rw [planner]; exact awake
  have blocked : Blocked x := by rw [Blocked, engine, port.active, sense, low]; exact stuck
  have slot : x.planner.staged = none := by rw [planner]; exact unstaged_none empty
  have same := stays blocked awake'
  have work : r.planner = x.plan.planner ∧ PlansAlike x.plan r ∧ r.counters = x.plan.counters := by
    rw [same]
    exact ⟨rfl, ⟨rfl, rfl, rfl, rfl, rfl, rfl, rfl, rfl, rfl⟩, rfl⟩
  obtain ⟨plans, alike, quietly⟩ := work
  have finished := finish_alike r
  rw [← ended] at finished
  refine replans_of awake' slot (by rw [planner]) ?_ (fun k own => ?_) (shows.planner.trans plans) (alike.trans finished)
    fun k own => (shows.moves k (by revert k; decide)).trans (State.counter_congr quietly k)
  · have hold : x.planner.hold = s.planner.hold := by rw [planner]
    simp only [MayPlan, slot, hold, engine, port.faulted, sense, true_and]
  · have early : k ∈ reportCounters ∧ k ∉ [Counter.bandChanged] ∧ k ∉ [Counter.stagedWithdrawn] := by
      revert k
      decide
    obtain ⟨listed, unbanded, kept⟩ := early
    rw [gone_moves k kept, banded k unbanded, port.counters k listed]

theorem portOnly_count {s w : State} {c : Counter} (h : PortOnly s w) (other : c ∉ reportCounters) :
    PortOnly s (w.count c) :=
  ⟨h.planner, h.active, h.faulted, h.sense, fun k own => ((Quiet.count w other).counters k own).trans (h.counters k own)⟩

theorem portOnly_release (s : State) (dt : Nat) : PortOnly s (s.advance dt).releasePort :=
  ⟨rfl, rfl, rfl, rfl, fun _ _ => rfl⟩

theorem takeBand_changed {w : State} {u : Sense} (other : u.band ≠ w.sense.band) : w.takeBand u = (bandFor w u).planJobs :=
  if_neg other

/-- A read that has succeeded with another band (R108, R146). -/
theorem answer_withdraws {s t : State} {dt : Nat} {value : Byte} (started : s.started = true)
    (run : exec (.temperatureAnswer dt value) s = .next t) (change : t.sense.band ≠ s.sense.band) :
    CountedOf [.stagedWithdrawn] (withdrawals s) s t ∧
    (s.planner.staged = none ∨ withdrawals s ≠ [] → s.engine.active ≠ none ∨ s.sense.storeLow = true →
      s.planner.energy ≠ .dormant →
      Replans (s.planner.hold = false ∧ t.sense.band.drive = true ∧ s.engine.faulted = false) s t) := by
  obtain ⟨w, hw⟩ : ∃ w, w = (s.advance dt).releasePort.count .temperatureRead := ⟨_, rfl⟩
  obtain ⟨u, hu⟩ : ∃ u, u = w.sense.readSuccess value.toInt := ⟨_, rfl⟩
  have ran : exec (.temperatureAnswer dt value) s = .next ((s.advance dt).whenStarted fun u => u.takeAnswer value) := rfl
  have started' : (s.advance dt).started = true := started
  rw [ran, State.whenStarted, if_pos started', State.takeAnswer] at run
  have ended := (Host.Outcome.next.inj run).symm
  have port : PortOnly s w := by
    rw [hw]
    exact portOnly_count (portOnly_release s dt) (by decide)
  split at ended
  next reading =>
    obtain ⟨q, hq⟩ : ∃ q, q = w.takeBand u := ⟨_, rfl⟩
    have made : t = (State.promoteJobs { q with engine := { q.engine with freshHold := false } }).finish := by
      rw [ended, hq, hu, hw]; rfl
    have sense : t.sense = u := by rw [made, hq]; simp [(takeBand_takes w u).1]
    rw [sense, ← port.sense] at change
    rw [takeBand_changed change] at hq
    rw [sense]
    refine band_withdraws (w := w) (u := u) port (by rw [hu, port.sense]; rfl) ?_ made fun blocked awake => ?_
    · rw [hq]
      exact promoteJobs_movesOnly { (bandFor w u).planJobs with
        engine := { (bandFor w u).planJobs.engine with freshHold := false } }
    · rw [planJobs_blocked awake blocked] at hq
      have stays : Blocked { q with engine := { q.engine with freshHold := false } } := by
        rw [hq]
        simpa [Blocked, plan_awake_engine awake] using blocked
      rw [promoteJobs_blocked stays, hq]
  next => exact absurd (by rw [ended]; rfl) change

/-- A read that has failed for the third time in a row, the band then UNKNOWN (R108, R144). -/
theorem readTimeout_withdraws {s t : State} (started : s.started = true) (run : exec .readTimeout s = .next t)
    (change : t.sense.band ≠ s.sense.band) :
    CountedOf [.stagedWithdrawn] (withdrawals s) s t ∧
    (s.planner.staged = none ∨ withdrawals s ≠ [] → s.engine.active ≠ none ∨ s.sense.storeLow = true →
      s.planner.energy ≠ .dormant →
      Replans (s.planner.hold = false ∧ t.sense.band.drive = true ∧ s.engine.faulted = false) s t) := by
  have ran : exec .readTimeout s = execReadTimeout s := rfl
  rw [ran, execReadTimeout] at run
  unfold State.onTimer at run
  split at run
  · exact absurd (by rw [← Host.Outcome.next.inj run]) change
  next at_ _ =>
    obtain ⟨dt, time⟩ : ∃ dt, s.advanceTo at_ = s.advance dt := ⟨_, rfl⟩
    rw [State.whenStarted, if_pos started, time] at run
    have ended := (Host.Outcome.next.inj run).symm
    dsimp only at ended
    split at ended
    next reading =>
      obtain ⟨w, hw⟩ : ∃ w, w = (s.advance dt).releasePort.count .temperatureReadFailed := ⟨_, rfl⟩
      obtain ⟨u, hu⟩ : ∃ u, u = w.sense.readFailure := ⟨_, rfl⟩
      have port : PortOnly s w := by
        rw [hw]
        exact portOnly_count (portOnly_release s dt) (by decide)
      have made : t = (w.takeBand u).finish := by rw [ended, hu, hw]; rfl
      have sense : t.sense = u := by rw [made]; simp [(takeBand_takes w u).1]
      rw [sense, ← port.sense] at change
      rw [takeBand_changed change] at made
      rw [sense]
      refine band_withdraws (w := w) (u := u) port (by rw [hu, port.sense]; rfl) (movesOnly_of_counters rfl) made
        fun blocked awake => ?_
      rw [planJobs_blocked awake blocked]
    next => exact absurd (by rw [ended]; rfl) change

/-- Settles O47: a changed board, the sweep, a change of the energy state, and a change of the band. -/
theorem stagedJobsAreWithdrawn : Obligations.StagedJobsAreWithdrawn := by
  refine ⟨fun c s t composes started run changed => ⟨fun calm n => composes_lines composes run changed calm n,
    fun apart => ?_⟩, fun s t pass first order started valid run due still stuck => ?_,
    fun s t dt counts started run change => scan_withdraws (scan_changed started run change) change,
    fun c s t read started run change => ?_⟩
  · rcases composes_comes composes run apart with same | ⟨u, quiet, ended⟩
    · exact absurd same changed
    · exact composed_withdraws quiet ended changed
  · rcases countedSecond_comes s pass ⟨first, order⟩ run with ⟨-, idle⟩ | ⟨u, before, tick, quiet, ended⟩
    · exact absurd ⟨started, valid⟩ idle
    · exact sweep_withdraws quiet ended due still stuck
  · rcases read with ⟨dt, value, rfl⟩ | rfl
    · exact answer_withdraws started run change
    · exact readTimeout_withdraws started run change

end Sys2Proof.Proofs
end

section
/-! PROOF. Bytes: numbers written and read most significant byte first, and pages laid out field by field (O59, O60). -/

namespace Sys2Proof.Proofs

open Sys2Proof Sys2Proof.Machine Sys2Proof.Claims

/-! ### Numbers of a body (11) -/

@[simp] theorem bytesOf_length (n v : Nat) : (bytesOf n v).length = n := by
  induction n with
  | zero => rfl
  | succ n ih => simp [bytesOf, ih]

@[simp] theorem bytesOfInt_length (n : Nat) (v : Int) : (bytesOfInt n v).length = n := bytesOf_length n _

theorem be_congr {a b : List Byte} {i j n : Nat} (same : ∀ k < n, a.getD (i + k) 0#8 = b.getD (j + k) 0#8) :
    be a i n = be b j n := by
  unfold be
  refine List.foldl_ext _ _ _ fun acc k mem => ?_
  rw [same k (List.mem_range.1 mem)]

/-- A number that ends before the first bytes do is read from them alone. -/
theorem be_append_left {a b : List Byte} {offset n : Nat} (within : offset + n ≤ a.length) :
    be (a ++ b) offset n = be a offset n :=
  be_congr fun k below => List.getD_append _ _ _ _ (by omega)

/-- A number that begins after the first bytes is read from the rest. -/
theorem be_append_right (a b : List Byte) (offset n : Nat) : be (a ++ b) (a.length + offset) n = be b offset n :=
  be_congr fun k _ => by
    rw [List.getD_append_right _ _ _ _ (by omega)]
    congr 1
    omega

/-- The most significant byte apart. -/
theorem be_cons (x : Byte) (b : List Byte) (n : Nat) : be (x :: b) 0 (n + 1) = x.toNat * 256 ^ n + be b 0 n := by
  have start (l : List Nat) (acc : Nat) (c : Nat → Nat) :
      l.foldl (fun acc i => acc * 256 + c i) acc = acc * 256 ^ l.length + l.foldl (fun acc i => acc * 256 + c i) 0 := by
    induction l generalizing acc with
    | nil => simp
    | cons i l ih =>
      rw [List.foldl_cons, List.foldl_cons, ih, ih (0 * 256 + c i), List.length_cons]
      ring
  unfold be
  rw [List.range_succ_eq_map, List.foldl_cons, List.foldl_map, start]
  simp

/-- A number written in `n` bytes reads as itself, the bits above them lost. -/
theorem be_bytesOf (n v : Nat) : be (bytesOf n v) 0 n = v % 256 ^ n := by
  induction n generalizing v with
  | zero => simp [be, Nat.mod_one]
  | succ n ih =>
    have top : (BitVec.ofNat 8 (v / 256 ^ n)).toNat = v / 256 ^ n % 256 := by simp
    rw [bytesOf, be_cons, ih, top, pow_succ, Nat.mod_mul, Nat.mul_comm, Nat.add_comm]

/-- A field of a body is the number its bytes make. -/
theorem field_eq_be {b : List Byte} {offset n : Nat} (within : offset + n ≤ b.length) : field b offset n = be b offset n := by
  have bytes : slice b offset n = (List.range n).map fun i => b.getD (offset + i) 0#8 := by
    refine List.ext_getElem (by simp [slice]; omega) fun i below _ => ?_
    simp only [slice, List.length_take, List.length_drop] at below
    simp only [slice, List.getElem_take, List.getElem_drop, List.getElem_map, List.getElem_range]
    rw [List.getD_eq_getElem]
  rw [field, valueOf, bytes, List.foldl_map]
  rfl

/-- A number in one of some records of `c` bytes each. -/
theorem be_flatMap {α : Type} {f : α → List Byte} {c : Nat} (size : ∀ x, (f x).length = c) {xs : List α} {j : Nat} {x : α}
    (at_ : xs[j]? = some x) {offset n : Nat} (within : offset + n ≤ c) :
    be (xs.flatMap f) (c * j + offset) n = be (f x) offset n := by
  induction xs generalizing j with
  | nil => simp at at_
  | cons y ys ih =>
    rw [List.flatMap_cons]
    cases j with
    | zero =>
      obtain rfl : y = x := by simpa using at_
      rw [Nat.mul_zero, Nat.zero_add, be_append_left (by rw [size]; exact within)]
    | succ j =>
      have later : c * (j + 1) + offset = (f y).length + (c * j + offset) := by rw [size]; ring
      rw [later, be_append_right, ih (by simpa using at_)]

theorem flatMap_length {α : Type} {f : α → List Byte} {c : Nat} (size : ∀ x, (f x).length = c) (xs : List α) :
    (xs.flatMap f).length = c * xs.length := by
  simp [List.length_flatMap, size, Nat.mul_comm]

/-! ### Sets of bits -/

theorem testBit_sum_two_pow {l : List Nat} (distinct : l.Nodup) (i : Nat) :
    (l.map fun k => 2 ^ k).sum.testBit i = true ↔ i ∈ l := by
  have sum : (l.map fun k => 2 ^ k).sum = ∑ k ∈ l.toFinset, 2 ^ k := (List.sum_toFinset _ distinct).symm
  rw [← Nat.mem_bitIndices, sum, ← List.mem_toFinset, Finset.toFinset_bitIndices_sum_two_pow, List.mem_toFinset]

/-! ### Pages laid out field by field (R176) -/

/-- Some bytes are one field: `n` bytes that hold `v`, the bits above them lost. -/
def Piece (b : List Byte) (n : Nat) (v : Int) : Prop := b.length = n ∧ (be b 0 n : Int) = v % 256 ^ n

/-- Some bytes of a length hold fields. -/
structure Laid (page : List Byte) (length : Nat) (fields : List (Nat × Nat × Int)) : Prop where
  size : page.length = length
  within : ∀ x ∈ fields, x.1 + x.2.1 ≤ length
  holds : Holds page fields

/-- A field some bytes further on. -/
def shifted (by_ : Nat) (x : Nat × Nat × Int) : Nat × Nat × Int := (by_ + x.1, x.2)

theorem Laid.append {a b : List Byte} {m n : Nat} {fs gs : List (Nat × Nat × Int)} (ha : Laid a m fs) (hb : Laid b n gs) :
    Laid (a ++ b) (m + n) (fs ++ gs.map (shifted m)) := by
  refine ⟨by rw [List.length_append, ha.size, hb.size], fun x mem => ?_, fun x mem => ?_⟩
  · rcases List.mem_append.1 mem with first | second
    · exact (ha.within x first).trans (Nat.le_add_right m n)
    · obtain ⟨y, inside, rfl⟩ := List.mem_map.1 second
      have fits := hb.within y inside
      simp only [shifted]
      omega
  · rcases List.mem_append.1 mem with first | second
    · rw [be_append_left (by rw [ha.size]; exact ha.within x first)]
      exact ha.holds x first
    · obtain ⟨y, inside, rfl⟩ := List.mem_map.1 second
      have read := hb.holds y inside
      simp only [shifted]
      rwa [← ha.size, be_append_right]

theorem Piece.laid {b : List Byte} {n : Nat} {v : Int} (h : Piece b n v) : Laid b n [(0, n, v)] := by
  obtain ⟨size, value⟩ := h
  refine ⟨size, by simp, fun x mem => ?_⟩
  rw [List.mem_singleton.1 mem]
  exact value

/-- One more field behind a page. -/
theorem Laid.snoc {page b : List Byte} {m n : Nat} {fs : List (Nat × Nat × Int)} {v : Int} (h : Laid page m fs)
    (piece : Piece b n v) : Laid (page ++ b) (m + n) (fs ++ [(m, n, v)]) := h.append piece.laid

/-- Bytes behind a page of which nothing is said. -/
theorem Laid.skip {page b : List Byte} {m n : Nat} {fs : List (Nat × Nat × Int)} (h : Laid page m fs)
    (size : b.length = n) : Laid (page ++ b) (m + n) fs := by
  have more := h.append (b := b) (gs := []) ⟨size, by simp, by simp [Holds]⟩
  simpa using more

theorem holds_mono {page : List Byte} {fs gs : List (Nat × Nat × Int)} (h : Holds page fs) (sub : gs ⊆ fs) : Holds page gs :=
  fun x mem => h x (sub mem)

/-- The number a laid-out field reads as. -/
theorem Laid.reads {page : List Byte} {m offset n v : Nat} {fs : List (Nat × Nat × Int)} (h : Laid page m fs)
    (listed : (offset, n, (v : Int)) ∈ fs) : be page offset n = v % 256 ^ n := by
  have value := h.holds _ listed
  dsimp only at value
  exact_mod_cast value

theorem piece_bytesOf (n v : Nat) : Piece (bytesOf n v) n v := by
  refine ⟨bytesOf_length n v, ?_⟩
  rw [be_bytesOf]
  push_cast
  rfl

theorem piece_bytesOfInt (n : Nat) (v : Int) : Piece (bytesOfInt n v) n v := by
  obtain ⟨size, value⟩ := piece_bytesOf n (v % (256 ^ n : Nat)).toNat
  refine ⟨size, value.trans ?_⟩
  have pos : (0 : Int) ≤ v % (256 ^ n : Nat) := Int.emod_nonneg _ (by positivity)
  rw [Int.toNat_of_nonneg pos]
  push_cast
  exact Int.emod_emod_of_dvd v dvd_rfl

/-- A code written where the page holds the same number. -/
theorem Piece.of {b : List Byte} {n : Nat} {v w : Int} (h : Piece b n v) (same : v = w) : Piece b n w := same ▸ h

theorem piece_flag (b : Bool) : Piece (flagByte b) 1 (flag b) := by
  cases b <;> exact ⟨rfl, rfl⟩

theorem piece_orOnes (v : Option Nat) : Piece (optBytes 2 v) 2 (orOnes v) := by
  cases v with
  | none => exact ⟨rfl, rfl⟩
  | some v => exact piece_bytesOf 2 v

/-- Whole seconds since an instant, all ones where there is none. -/
def secondsAgo (s : State) : Option Nat → Int
  | none => 4294967295
  | some v => ((s.elapsed - v) / 1000 : Nat)

theorem piece_secondsSince (s : State) (u : Option Nat) : Piece (secondsSince s u) 4 (secondsAgo s u) := by
  cases u with
  | none =>
    have ones : (be (List.replicate 4 0xFF#8) 0 4 : Int) = 4294967295 % 256 ^ 4 := by decide
    exact ⟨rfl, ones⟩
  | some v => exact piece_bytesOf 4 _

end Sys2Proof.Proofs
end

section
/-! PROOF. The pages of the service responder (O59). -/

namespace Sys2Proof.Proofs

open Sys2Proof Sys2Proof.Machine Sys2Proof.Claims

/-! ### STATUS (R176) -/

theorem bandCode_eq (b : Band) : (b.code : Int) = bandCode b := by cases b <;> rfl

theorem energyCode_eq (e : Energy) : (e.code : Int) = match e with
    | .ample => 0
    | .lean => 1
    | .scarce => 2
    | .dormant => 3 := by cases e <;> rfl

theorem receiveModeCode_eq (m : ReceiveMode) : (m.code : Int) = match m with
    | .listen => 0
    | .doze => 1
    | .sniff => 2 := by cases m <;> rfl

theorem sourceCode_eq (c : ConfigSource) : (c.code : Int) = match c with
    | .image => 0
    | .absent => 1
    | .rejected => 2 := by cases c <;> rfl

theorem portCode_eq (p : PanelPort) : (p.code : Int) = match p with
    | .idle => 0
    | .loading => 1
    | .phase => 2
    | .reading => 3
    | .stopping => 4 := by cases p <;> rfl

theorem conditionCode_eq (c : Condition) : (c.code : Int) = match c with
    | .settled => 0
    | .unsettled => 1
    | .unknown => 2 := by cases c <;> rfl

theorem laid_status0 (s : State) : Laid (payload s 1 0) 33
    [(0, 1, flag s.clock.timeValid), (1, 2, s.clock.day.toNat), (3, 3, s.clock.second), (6, 1, s.clock.stratum),
      (7, 4, secondsAgo s s.clock.lastAdoption), (11, 1, s.planner.energy.code),
      (12, 2, orOnes s.planner.voltage), (14, 4, s.planner.available), (18, 4, s.planner.parkThreshold),
      (22, 4, s.planner.leanThreshold), (26, 1, flag s.planner.boardParked), (27, 1, s.rx.mode.code),
      (28, 1, s.loader.source.code), (29, 4, s.counter .configurationClamp)] :=
  ((((((((((((((piece_flag _).laid.snoc (piece_bytesOf 2 _)).snoc (piece_bytesOf 3 _)).snoc (piece_bytesOf 1 _)).snoc
    (piece_secondsSince s _)).snoc (piece_bytesOf 1 _)).snoc (piece_orOnes _)).snoc (piece_bytesOf 4 _)).snoc
      (piece_bytesOf 4 _)).snoc (piece_bytesOf 4 _)).snoc (piece_flag _)).snoc (piece_bytesOf 1 _)).snoc
        (piece_bytesOf 1 _)).snoc (piece_bytesOf 4 _))

theorem laid_status1 (s : State) : Laid (payload s 1 1) 12
    [(0, 1, s.sense.history.length), (1, 2, orOnes s.sense.history[0]?), (3, 2, orOnes s.sense.history[1]?),
      (5, 2, orOnes s.sense.history[2]?), (7, 1, flag s.sense.storeLow), (8, 1, s.sense.temperature.getD 0),
      (9, 1, flag s.sense.temperature.isSome), (10, 1, s.sense.band.code), (11, 1, s.sense.failures)] := by
  have voltages := ((piece_orOnes s.sense.history[0]?).laid.snoc (piece_orOnes s.sense.history[1]?)).snoc
    (piece_orOnes s.sense.history[2]?)
  have page := ((((((piece_bytesOf 1 s.sense.history.length).laid.append voltages).snoc (piece_flag s.sense.storeLow)).snoc
    (piece_bytesOfInt 1 (s.sense.temperature.getD 0))).snoc (piece_flag s.sense.temperature.isSome)).snoc
      (piece_bytesOf 1 s.sense.band.code)).snoc (piece_bytesOf 1 s.sense.failures)
  have listed : ([0, 1, 2].flatMap fun i => optBytes 2 s.sense.history[i]?) = optBytes 2 s.sense.history[0]? ++
      optBytes 2 s.sense.history[1]? ++ optBytes 2 s.sense.history[2]? := by simp
  change Laid (statusPage1 s) 12 _
  rw [statusPage1, listed]
  exact page

theorem laid_job (o : Option Job) : Laid (jobBytes o) 10 (jobFields o) := by
  cases o with
  | none => exact ⟨rfl, by decide, by unfold Holds; decide⟩
  | some j =>
    have kind : (j.kind.code : Int) = if j.kind = .park then 1 else 0 := by cases j.kind <;> rfl
    have mode : (j.mode.code : Int) = if j.mode = .clearing then 1 else 0 := by cases j.mode <;> rfl
    have present : Piece [1#8] 1 1 := ⟨rfl, rfl⟩
    exact (((((present.laid.snoc (piece_bytesOf 1 _)).snoc ((piece_bytesOf 1 _).of kind)).snoc (piece_bytesOf 1 _)).snoc
      (piece_bytesOf 1 _)).snoc ((piece_bytesOf 1 _).of mode)).snoc (piece_bytesOf 4 _)

theorem laid_status2 (s : State) : Laid (payload s 1 2) 16 (jobFields s.planner.staged ++
    [(10, 1, flag s.planner.hold), (11, 1, flag s.planner.halt.isSome),
      (12, 1, ((s.planner.halt.map (·.toNat)).getD 0 : Nat)), (13, 2, sweepBits s.planner.sweep),
      (15, 1, s.planner.nextJob.toNat)]) := by
  have page := (((((laid_job s.planner.staged).snoc (piece_flag s.planner.hold)).snoc (piece_flag s.planner.halt.isSome)).snoc
    (piece_bytesOf 1 ((s.planner.halt.map (·.toNat)).getD 0))).snoc (piece_bytesOf 2 (sweepBits s.planner.sweep))).snoc
      (piece_bytesOf 1 s.planner.nextJob.toNat)
  change Laid (statusPage2 s) 16 _
  simpa only [statusPage2, List.append_assoc, List.cons_append, List.nil_append] using page

/-- The fields of the active job's own quantities (R176). -/
def activeFields : Option ActiveJob → List (Nat × Nat × Int)
  | none => [(10, 1, 0), (11, 1, 0), (12, 1, 0)]
  | some a => [(10, 1, bandCode a.band), (11, 1, (a.job.phaseIndex : Int)), (12, 1, if a.state = .running then 1 else 2)]

theorem laid_active (o : Option ActiveJob) :
    Laid (jobBytes (o.map (·.job)) ++ activeBytes o) 13 (jobFields (o.map (·.job)) ++ activeFields o) := by
  cases o with
  | none =>
    have zeros : Laid (List.replicate 3 0#8) 3 [(0, 1, 0), (1, 1, 0), (2, 1, 0)] :=
      ⟨rfl, by decide, by unfold Holds; decide⟩
    exact (laid_job none).append zeros
  | some a =>
    have state : (a.state.code : Int) = if a.state = .running then 1 else 2 := by cases a.state <;> rfl
    exact (laid_job (some a.job)).append ((((piece_bytesOf 1 _).of (bandCode_eq a.band)).laid.snoc (piece_bytesOf 1 _)).snoc
      ((piece_bytesOf 1 _).of state))

theorem laid_status3 (s : State) : Laid (payload s 1 3) 18 (jobFields (s.engine.active.map (·.job)) ++
    activeFields s.engine.active ++ [(13, 1, (s.engine.port.code : Int)), (14, 1, flag s.engine.freshHold),
      (15, 1, (s.engine.faults : Int)), (16, 1, flag s.engine.faulted), (17, 1, flag s.engine.readRequest)]) := by
  have page := (((((laid_active s.engine.active).snoc (piece_bytesOf 1 s.engine.port.code)).snoc
    (piece_flag s.engine.freshHold)).snoc (piece_bytesOf 1 s.engine.faults)).snoc (piece_flag s.engine.faulted)).snoc
      (piece_flag s.engine.readRequest)
  change Laid (statusPage3 s) 18 _
  simpa only [statusPage3, List.append_assoc, List.cons_append, List.nil_append] using page

theorem sweepBits_eq (v : Vector Bool 10) :
    sweepBits v = (((allLines.filter v.get).map Fin.val).map fun k => 2 ^ k).sum := by
  have sum (l : List (Fin 10)) : (l.map fun n => if v.get n then 2 ^ n.val else 0).sum =
      (((l.filter v.get).map Fin.val).map fun k => 2 ^ k).sum := by
    induction l with
    | nil => rfl
    | cons n l ih =>
      rw [List.map_cons, List.sum_cons, ih, List.filter_cons]
      by_cases on : v.get n = true <;> simp [on]
  exact sum allLines

theorem sweepBits_testBit (v : Vector Bool 10) (n : Fin 10) : (sweepBits v % 256 ^ 2).testBit n.val = v.get n := by
  have listed (k : Fin 10) : k ∈ allLines := by revert k; decide
  have distinct : ((allLines.filter v.get).map Fin.val).Nodup :=
    List.Nodup.map Fin.val_injective (List.Nodup.filter _ (by decide))
  have low : n.val < 16 := by omega
  rw [show 256 ^ 2 = 2 ^ 16 from rfl, Nat.testBit_mod_two_pow, decide_eq_true low, Bool.true_and, sweepBits_eq,
    Bool.eq_iff_iff, testBit_sum_two_pow distinct]
  simp [listed, ← Fin.ext_iff]

/-! ### ENTRIES (R176) -/

/-- The fields of an entry's observation, 0 where it is absent (R176; assumption log 17). -/
def observationFields (o : Option Observation) : List (Nat × Nat × Int) :=
  [(0, 1, match o with
      | none => 0
      | some o => if o.kind = .sight then 1 else 2),
    (1, 1, match o with
      | none => 0
      | some o => (o.stop : Int)),
    (2, 2, match o with
      | none => 0
      | some o => o.delay),
    (4, 4, match o with
      | none => 0
      | some o => o.time)]

theorem laid_observation (o : Option Observation) : Laid (observationBytes o) 8 (observationFields o) := by
  cases o with
  | none => exact ⟨rfl, by decide, by unfold Holds; decide⟩
  | some o =>
    have kind : (o.kind.code : Int) = if o.kind = .sight then 1 else 2 := by cases o.kind <;> rfl
    exact ((((piece_bytesOf 1 _).of kind).laid.snoc (piece_bytesOf 1 _)).snoc (piece_bytesOfInt 2 _)).snoc
      (piece_bytesOfInt 4 _)

theorem piece_optTimeline (v : Option Int) : Piece (optTimeline v) 4 (v.getD 2147483648) := by
  cases v with
  | none =>
    have high : (be [0x80#8, 0#8, 0#8, 0#8] 0 4 : Int) = 2147483648 % 256 ^ 4 := by decide
    exact ⟨rfl, high⟩
  | some v => exact piece_bytesOfInt 4 v

theorem laid_entry (e : Entry) : Laid (entryPage e) 32
    [(0, 1, e.slot.val + 1), (1, 2, e.day.toNat), (3, 2, e.run), (5, 3, e.origin), (8, 1, e.terminal.getD 0),
      (9, 4, e.scheduled),
      (13, 1, match e.observation with
        | none => 0
        | some o => if o.kind = .sight then 1 else 2),
      (14, 1, match e.observation with
        | none => 0
        | some o => (o.stop : Int)),
      (15, 2, match e.observation with
        | none => 0
        | some o => o.delay),
      (17, 4, match e.observation with
        | none => 0
        | some o => o.time),
      (21, 4, e.predicted),
      (25, 1, match e.state with
        | .expected => 0
        | .overdue => 1
        | .atStop => 2),
      (26, 4, e.lastSight.getD 2147483648), (30, 2, orOnes e.shown)] := by
  have slot : ((e.slot.val + 1 : Nat) : Int) = e.slot.val + 1 := by push_cast; rfl
  have state : (e.state.code : Int) = match e.state with
      | .expected => 0
      | .overdue => 1
      | .atStop => 2 := by cases e.state <;> rfl
  exact ((((((((((((piece_bytesOf 1 _).of slot).laid.snoc (piece_bytesOf 2 _)).snoc (piece_bytesOf 2 _)).snoc
    (piece_bytesOf 3 _)).snoc (piece_bytesOf 1 _)).snoc (piece_bytesOfInt 4 _)).append
      (laid_observation e.observation)).snoc (piece_bytesOfInt 4 _)).snoc ((piece_bytesOf 1 _).of state)).snoc
        (piece_optTimeline _)).snoc (piece_orOnes _))

/-! ### LINES, SHEETS and METER (R176) -/

theorem line_page (s : State) (n : Fin 10) : payload s 3 n.val = s.board.targets.get n ∧
    payload s 3 (10 + n.val) = linePage s (s.engine.lines.get n) (s.planner.sweep.get n) := by
  have low := n.isLt
  have back : 10 + n.val - 10 = n.val := by omega
  constructor
  · exact dif_pos low
  · change linesPayload s (10 + n.val) = _
    simp only [linesPayload, back, dif_pos low, dif_neg (show ¬ 10 + n.val < 10 by omega)]

theorem laid_line (s : State) (r : LineRecord) (sweep : Bool) (glass : ∀ g, r.glass = some g → g.length = 32) :
    Laid (linePage s r sweep) 40 [(0, 1, flag r.glass.isSome), (33, 1, r.ghost), (34, 1, r.condition.code),
      (35, 4, secondsAgo s r.dirtySince), (39, 1, flag sweep)] ∧
    ((linePage s r sweep).drop 1).take 32 = r.glass.getD (List.replicate 32 0#8) := by
  have cells : (r.glass.getD (List.replicate 32 0#8)).length = 32 := by
    cases shown : r.glass with
    | none => rfl
    | some g => exact glass g shown
  constructor
  · exact (((((piece_flag r.glass.isSome).laid.skip cells).snoc (piece_bytesOf 1 r.ghost)).snoc
      (piece_bytesOf 1 r.condition.code)).snoc (piece_secondsSince s r.dirtySince)).snoc (piece_flag sweep)
  · have first : (flagByte r.glass.isSome).length = 1 := rfl
    rw [linePage]
    simp only [List.append_assoc]
    rw [List.drop_append_of_le_length (by rw [first]), List.drop_of_length_le (by rw [first]), List.nil_append,
      List.take_append_of_le_length (by rw [cells]), List.take_of_length_le (by rw [cells])]

theorem laid_position (o : Option Sheet) (offset : Nat) :
    Laid (sheetBytes o) 5 (positionFields 0 o) ∧ (positionFields 0 o).map (shifted offset) = positionFields offset o := by
  cases o with
  | none => exact ⟨⟨rfl, by decide, by unfold Holds; decide⟩, rfl⟩
  | some sh => exact ⟨((piece_bytesOf 2 _).laid.snoc (piece_bytesOf 2 _)).snoc (piece_bytesOf 1 _), rfl⟩

/-- The fields of an assembly from its first byte on, with its received set (R176). -/
def assemblyParts : Option Assembly → List (Nat × Nat × Int)
  | none => [(0, 1, 0), (1, 2, 0), (3, 2, 0), (5, 1, 0), (6, 2, 0)]
  | some a => [(0, 1, if a.state = .collecting then 1 else 2), (1, 2, a.day.toNat), (3, 2, a.version.toNat),
      (5, 1, a.count), (6, 2, receivedBits a)]

theorem laid_assembly (o : Option Assembly) : Laid (assemblyBytes o) 8 (assemblyParts o) := by
  cases o with
  | none => exact ⟨rfl, by decide, by unfold Holds; decide⟩
  | some a =>
    have state : (a.state.code : Int) = if a.state = .collecting then 1 else 2 := by cases a.state <;> rfl
    exact (((((piece_bytesOf 1 _).of state).laid.snoc (piece_bytesOf 2 _)).snoc (piece_bytesOf 2 _)).snoc
      (piece_bytesOf 1 _)).snoc (piece_bytesOf 2 _)

theorem assemblyFields_sub (o : Option Assembly) : assemblyFields o ⊆ (assemblyParts o).map (shifted 12) := by
  cases o with
  | none => exact List.Subset.refl _
  | some a =>
    intro x mem
    exact List.mem_append_left [(18, 2, (receivedBits a : Int))] mem

theorem laid_slot (s : State) (i : SlotIx) : let h := s.sheets.slots.get i
    Laid (slotPage s i) 20 ((0, 2, ((s.loader.loaded.slots.get i).tag : Int)) :: positionFields 2 (h.forDay s.clock.day) ++
      positionFields 7 (h.forDay (s.clock.day + 1#16)) ++ (assemblyParts h.assembly).map (shifted 12)) := by
  intro h
  obtain ⟨today, here⟩ := laid_position (h.forDay s.clock.day) 2
  obtain ⟨tomorrow, there⟩ := laid_position (h.forDay (s.clock.day + 1#16)) 7
  have page := (((piece_bytesOf 2 (s.loader.loaded.slots.get i).tag).laid.append today).append tomorrow).append
    (laid_assembly h.assembly)
  rw [here, there] at page
  exact page

theorem slot_page (s : State) (i : SlotIx) :
    payload s 4 i.val = if (s.loader.loaded.slots.get i).enabled then slotPage s i else [] := dif_pos i.isLt

theorem received_testBit {a : Assembly} (distinct : (a.fragments.map (·.1)).Nodup) {index : Nat} (low : index < 12) :
    (receivedBits a % 256 ^ 2).testBit index = true ↔ index ∈ a.fragments.map (·.1) := by
  have sum : receivedBits a = ((a.fragments.map (·.1)).map fun k => 2 ^ k).sum := by
    rw [receivedBits, List.map_map]
    rfl
  rw [show 256 ^ 2 = 2 ^ 16 from rfl, Nat.testBit_mod_two_pow, decide_eq_true (show index < 16 by omega), Bool.true_and,
    sum, testBit_sum_two_pow distinct]

theorem notice_page (s : State) {p : Nat} (place : p < 4) : payload s 4 (6 + p) = match s.board.notices[p]? with
    | some n => noticePage n (s.board.current = some p)
    | none => [] := by
  have back : 6 + p - 6 = p := by omega
  change sheetsPayload s (6 + p) = _
  simp only [sheetsPayload, back, dif_neg (show ¬ 6 + p < 6 by omega), if_pos (show 6 + p < 10 by omega)] <;> rfl

theorem laid_notice (n : Notice) (current : Bool) : ∃ head, noticePage n current = head ++ n.text ∧ Laid head 10
    [(0, 2, n.origin.toNat), (2, 1, n.serial.toNat),
      (3, 1, (match n.scope with
        | .all _ => 0
        | .route _ => 1
        | .stop _ => 2) + 4 * flag n.urgent + 8 * flag current + 16 * ((n.expirySecond / 65536 % 2 : Nat) : Int)),
      (4, 2, match n.scope with
        | .all _ => 65535
        | .route tag => (tag : Int)
        | .stop id => (id.toNat : Int)),
      (6, 2, n.expiryDay.toNat), (8, 2, n.expirySecond)] := by
  have flags : ((n.scope.code + (if n.urgent then 4 else 0) + (if current then 8 else 0) +
      16 * (n.expirySecond / 65536 % 2) : Nat) : Int) = (match n.scope with
        | .all _ => 0
        | .route _ => 1
        | .stop _ => 2) + 4 * flag n.urgent + 8 * flag current + 16 * ((n.expirySecond / 65536 % 2 : Nat) : Int) := by
    cases n.scope <;> cases n.urgent <;> cases current <;> simp [Scope.code, flag]
  have scope : orOnes n.scope.id = match n.scope with
      | .all _ => 65535
      | .route tag => (tag : Int)
      | .stop id => (id.toNat : Int) := by
    cases n.scope <;> rfl
  have seconds : Piece (bytesOf 2 (n.expirySecond % 65536)) 2 n.expirySecond := by
    obtain ⟨size, value⟩ := piece_bytesOf 2 (n.expirySecond % 65536)
    refine ⟨size, value.trans ?_⟩
    push_cast
    omega
  refine ⟨_, rfl, ?_⟩
  exact (((((piece_bytesOf 2 _).laid.snoc (piece_bytesOf 1 _)).snoc ((piece_bytesOf 1 _).of flags)).snoc
    ((piece_orOnes _).of scope)).snoc (piece_bytesOf 2 _)).snoc seconds

theorem meterOrder_place : meterOrder.map (fun k => k.place.val) = List.range 120 := by decide

theorem meter_page (s : State) {p : Nat} (low : p < 12) : (payload s 5 p).length = 40 ∧ ∀ j < 10, ∀ k,
    meterOrder[10 * p + j]? = some k → (be (payload s 5 p) (4 * j) 4 : Int) = (s.counter k : Int) % 256 ^ 4 := by
  have page : payload s 5 p = ((s.counters.toList.drop (10 * p)).take 10).flatMap fun v => bytesOf 4 v := if_pos low
  have size (v : Nat) : (bytesOf 4 v).length = 4 := bytesOf_length 4 v
  have ten : ((s.counters.toList.drop (10 * p)).take 10).length = 10 := by
    simp only [List.length_take, List.length_drop, Vector.length_toList]
    omega
  rw [page]
  refine ⟨by rw [flatMap_length size, ten], fun j small k listed => ?_⟩
  have place : k.place.val = 10 * p + j := by
    have read := congrArg (fun l : List Nat => l[10 * p + j]?) meterOrder_place
    simp only [List.getElem?_map, listed, Option.map_some] at read
    rw [List.getElem?_range (by omega)] at read
    exact Option.some.inj read
  have at_ : ((s.counters.toList.drop (10 * p)).take 10)[j]? = some (s.counter k) := by
    rw [List.getElem?_take, if_pos small, List.getElem?_drop, ← place]
    simp [State.counter, Vector.get_eq_getElem]
  have number := be_flatMap size at_ (offset := 0) (n := 4) le_rfl
  rw [Nat.add_zero] at number
  rw [number, be_bytesOf]
  push_cast
  rfl

/-! ### O59 -/

theorem status2_page (s : State) : (payload s 1 2).length = 16 ∧ Holds (payload s 1 2) (jobFields s.planner.staged ++
    [(10, 1, flag s.planner.hold), (11, 1, flag s.planner.halt.isSome),
      (12, 1, (s.planner.halt.map fun n => (n.toNat : Int)).getD 0), (15, 1, s.planner.nextJob.toNat)]) ∧
    ∀ n : Fin 10, (be (payload s 1 2) 13 2).testBit n.val = s.planner.sweep.get n := by
  have page := laid_status2 s
  have halted : (((s.planner.halt.map (·.toNat)).getD 0 : Nat) : Int) = (s.planner.halt.map fun n => (n.toNat : Int)).getD 0 := by
    cases s.planner.halt <;> rfl
  rw [halted] at page
  refine ⟨page.size, holds_mono page.holds ?_, fun n => ?_⟩
  · intro x mem
    simp only [List.mem_append, List.mem_cons] at mem ⊢
    tauto
  · rw [page.reads (v := sweepBits s.planner.sweep) (by simp)]
    exact sweepBits_testBit _ n

theorem slot_pages (s : State) (i : SlotIx) : let h := s.sheets.slots.get i
    let page := payload s 4 i.val
    ((s.loader.loaded.slots.get i).enabled = false → page = []) ∧
    ((s.loader.loaded.slots.get i).enabled = true → page.length = 20 ∧
      Holds page ((0, 2, ((s.loader.loaded.slots.get i).tag : Int)) :: positionFields 2 (h.forDay s.clock.day) ++
        positionFields 7 (h.forDay (s.clock.day + 1#16)) ++ assemblyFields h.assembly) ∧
      ∀ a, h.assembly = some a → (a.fragments.map (·.1)).Nodup → ∀ index < 12,
        ((be page 18 2).testBit index = true ↔ index ∈ a.fragments.map (·.1))) := by
  intro h page
  have read : page = if (s.loader.loaded.slots.get i).enabled then slotPage s i else [] := slot_page s i
  have laid := laid_slot s i
  refine ⟨fun off => by rw [read, off]; rfl, fun on => ?_⟩
  rw [if_pos on] at read
  rw [read]
  refine ⟨laid.size, holds_mono laid.holds (List.append_subset.2 ⟨List.subset_append_left _ _, fun x mem =>
    List.mem_append_right _ (assemblyFields_sub _ mem)⟩), fun a held distinct index low => ?_⟩
  have bits : be (slotPage s i) 18 2 = receivedBits a % 256 ^ 2 := by
    refine laid.reads (List.mem_append_right _ (List.mem_map.2 ⟨(6, 2, receivedBits a), ?_, rfl⟩))
    rw [held]
    simp [assemblyParts]
  rw [bits, received_testBit distinct low]

/-- Settles O59: each page is laid out piece by piece behind the one before. -/
theorem pagesAreLaidOut : Obligations.PagesAreLaidOut := by
  intro s ago
  have since (u : Option Nat) : ago u = secondsAgo s u := by cases u <;> rfl
  simp only [since]
  refine ⟨⟨(laid_status0 s).size, ?_⟩, ⟨(laid_status1 s).size, ?_⟩, status2_page s, ⟨(laid_status3 s).size, ?_⟩,
    fun p e listed => ?_, fun n => ?_, slot_pages s, fun p place => ?_, fun p low => meter_page s low, ?_, ?_, ?_, ?_, ?_⟩
  · have page := (laid_status0 s).holds
    rwa [energyCode_eq, receiveModeCode_eq, sourceCode_eq] at page
  · have page := (laid_status1 s).holds
    rwa [bandCode_eq] at page
  · have page := (laid_status3 s).holds
    rw [portCode_eq] at page
    exact page
  · have page : payload s 2 p = entryPage e := by
      change (s.table.entries[p]?.map entryPage).getD [] = _
      rw [listed]
      rfl
    rw [page]
    exact ⟨(laid_entry e).size, (laid_entry e).holds⟩
  · obtain ⟨target, page⟩ := line_page s n
    refine ⟨target, fun glass => ?_⟩
    obtain ⟨laid, cells⟩ := laid_line s (s.engine.lines.get n) (s.planner.sweep.get n) glass
    have fields := laid.holds
    rw [conditionCode_eq] at fields
    rw [page]
    exact ⟨laid.size, cells, fields⟩
  · have page := notice_page s place
    cases stored : s.board.notices[p]? with
    | none =>
      rw [stored] at page
      exact page
    | some n =>
      rw [stored] at page
      obtain ⟨head, split, laid⟩ := laid_notice n (s.board.current = some p)
      dsimp only at page ⊢
      rw [page, split]
      exact ⟨by rw [← laid.size, List.drop_left], (laid.skip rfl).holds⟩
  · rintro (_ | _ | _ | _ | p) beyond
    case succ.succ.succ.succ => rfl
    all_goals omega
  · intro p beyond
    change (s.table.entries[p]?.map entryPage).getD [] = _
    rw [List.getElem?_eq_none beyond]
    rfl
  · intro p beyond
    change linesPayload s p = _
    rw [linesPayload, dif_neg (by omega), dif_neg (by omega)]
  · intro p beyond
    change sheetsPayload s p = _
    rw [sheetsPayload, dif_neg (by omega), if_neg (by omega)]
  · intro p beyond
    exact if_neg (by omega)

end Sys2Proof.Proofs
end

section
/-! PROOF. Bodies read as laid out, and read back as written (O60). -/

namespace Sys2Proof.Proofs

open Sys2Proof Sys2Proof.Machine Sys2Proof.Claims

/-! ### Readers against the layouts (11.2) -/

theorem signedOf_eq (bits v : Nat) : signedOf bits v = signed bits v := by
  unfold signedOf signed
  by_cases low : v < 2 ^ (bits - 1)
  · rw [if_pos low, if_neg (by omega)]
  · rw [if_neg low, if_pos (by omega)]
    push_cast
    rfl

theorem offer_length {n : Nat} (fits : n ∈ bodyLengths .offer) : 5 ≤ n := by
  simp only [bodyLengths, List.mem_cons, List.not_mem_nil, or_false] at fits
  omega

theorem sheet_length {n : Nat} (fits : n ∈ bodyLengths .sheet) : 9 ≤ n := by
  simp only [bodyLengths, List.mem_cons, List.not_mem_nil, or_false] at fits
  omega

theorem notice_length {n : Nat} : n ∈ bodyLengths .notice ↔ 14 ≤ n ∧ n ≤ 45 := by
  simp only [bodyLengths, List.mem_map, List.mem_range]
  exact ⟨by rintro ⟨k, low, rfl⟩; omega, fun ⟨low, high⟩ => ⟨n - 14, by omega, by omega⟩⟩

theorem readClock_eq {b : List Byte} (size : b.length = 8) :
    readClock b = ⟨be b 2 1 % 8, BitVec.ofNat 16 (be b 3 2), be b 5 3⟩ := by
  simp (disch := omega) only [readClock, field_eq_be]

theorem readListing_eq {b : List Byte} {offset : Nat} (within : offset + 6 ≤ b.length) : readListing b offset =
    ⟨be b offset 2 % 4096, BitVec.ofNat 16 (be b (offset + 2) 2), BitVec.ofNat 16 (be b (offset + 4) 2)⟩ := by
  simp (disch := omega) only [readListing, field_eq_be]

theorem readOffer_eq {b : List Byte} (size : 5 ≤ b.length) : readOffer b = ⟨BitVec.ofNat 16 (be b 2 2),
    (List.range (min (be b 4 1) ((b.length - 5) / 6))).map fun j =>
      ⟨be b (5 + 6 * j) 2 % 4096, BitVec.ofNat 16 (be b (7 + 6 * j) 2), BitVec.ofNat 16 (be b (9 + 6 * j) 2)⟩⟩ := by
  have listings (j : Nat) (mem : j ∈ List.range (min (be b 4 1) ((b.length - 5) / 6))) : readListing b (5 + 6 * j) =
      ⟨be b (5 + 6 * j) 2 % 4096, BitVec.ofNat 16 (be b (7 + 6 * j) 2), BitVec.ofNat 16 (be b (9 + 6 * j) 2)⟩ := by
    have low := List.mem_range.1 mem
    rw [readListing_eq (by omega), show 5 + 6 * j + 2 = 7 + 6 * j by omega, show 5 + 6 * j + 4 = 9 + 6 * j by omega]
  simp (disch := omega) only [readOffer, field_eq_be]
  rw [List.map_congr_left listings]

theorem readRun_eq {b : List Byte} {offset : Nat} (within : offset + 5 ≤ b.length) : readRun b offset =
    ⟨be b offset 2 / 64, be b (offset + 2) 3, if be b offset 2 % 64 = 0 then none else some (be b offset 2 % 64)⟩ := by
  simp (disch := omega) only [readRun, field_eq_be, terminalOf]

theorem readSheet_eq {b : List Byte} (size : 9 ≤ b.length) : readSheet b = ⟨be b 2 2 % 4096, BitVec.ofNat 16 (be b 4 2),
    BitVec.ofNat 16 (be b 6 2), be b 8 1 / 16, be b 8 1 % 16, (List.range ((b.length - 9) / 5)).map fun j =>
      ⟨be b (9 + 5 * j) 2 / 64, be b (11 + 5 * j) 3,
        if be b (9 + 5 * j) 2 % 64 = 0 then none else some (be b (9 + 5 * j) 2 % 64)⟩⟩ := by
  have runs (j : Nat) (mem : j ∈ List.range ((b.length - 9) / 5)) : readRun b (9 + 5 * j) =
      ⟨be b (9 + 5 * j) 2 / 64, be b (11 + 5 * j) 3,
        if be b (9 + 5 * j) 2 % 64 = 0 then none else some (be b (9 + 5 * j) 2 % 64)⟩ := by
    have low := List.mem_range.1 mem
    rw [readRun_eq (by omega), show 9 + 5 * j + 2 = 11 + 5 * j by omega]
  simp (disch := omega) only [readSheet, field_eq_be]
  rw [List.map_congr_left runs]

theorem readPass_eq {b : List Byte} (size : b.length = 15) : readPass b = ⟨BitVec.ofNat 16 (be b 0 2),
    be b 2 2 % 4096, be b 4 2 % 1024, BitVec.ofNat 16 (be b 6 2), be b 8 1 % 64, signed 16 (be b 9 2),
    signed 24 (be b 11 3), be b 14 1 % 16⟩ := by
  simp (disch := omega) only [readPass, field_eq_be, signedOf_eq]

theorem readSight_eq {b : List Byte} (size : b.length = 8) :
    readSight b = ⟨be b 2 2 % 4096, be b 4 2 % 1024, be b 6 1 % 64, be b 7 1⟩ := by
  simp (disch := omega) only [readSight, field_eq_be]

theorem readNotice_eq {b : List Byte} (size : 14 ≤ b.length) : readNotice b = ⟨BitVec.ofNat 16 (be b 0 2),
    BitVec.ofNat 8 (be b 2 1), be b 3 1, be b 4 2, be b 6 1, BitVec.ofNat 16 (be b 7 2), be b 9 3, be b 12 1,
    (b.drop 14).take (be b 13 1)⟩ := by
  simp (disch := omega) only [readNotice, field_eq_be]

theorem readQuery_eq {b : List Byte} (size : b.length = 6) :
    readQuery b = ⟨BitVec.ofNat 16 (be b 0 2), BitVec.ofNat 16 (be b 2 2), be b 4 1, be b 5 1⟩ := by
  simp (disch := omega) only [readQuery, field_eq_be]

/-! ### What is written reads back (R175) -/

theorem ofNat_word (d : BitVec 16) : BitVec.ofNat 16 (d.toNat % 256 ^ 2) = d := by
  rw [Nat.mod_eq_of_lt (show d.toNat < 256 ^ 2 from d.isLt), BitVec.ofNat_toNat, BitVec.setWidth_eq]

theorem ofNat_byte (d : Byte) : BitVec.ofNat 8 (d.toNat % 256 ^ 1) = d := by
  rw [Nat.mod_eq_of_lt (show d.toNat < 256 ^ 1 from d.isLt), BitVec.ofNat_toNat, BitVec.setWidth_eq]

theorem signed_eq {bits u : Nat} {v : Int} (some_ : 0 < bits) (read : (u : Int) = v % 2 ^ bits) (low : -2 ^ (bits - 1) ≤ v)
    (high : v < 2 ^ (bits - 1)) : signed bits u = v := by
  have twice : (2 : Int) ^ bits = 2 * 2 ^ (bits - 1) := by rw [← pow_succ', Nat.sub_add_cancel some_]
  have half : ((2 ^ (bits - 1) : Nat) : Int) = 2 ^ (bits - 1) := by push_cast; rfl
  unfold signed
  rcases lt_or_ge v 0 with negative | positive
  · have reads : (u : Int) = v + 2 ^ bits := by
      rw [read, ← Int.add_emod_right, Int.emod_eq_of_lt (by omega) (by omega)]
    rw [if_pos (by omega)]
    omega
  · have reads : (u : Int) = v := by rw [read, Int.emod_eq_of_lt positive (by omega)]
    rw [if_neg (by omega), reads]

/-- Records read one by one are the records. -/
theorem map_range_eq {α : Type} {g : Nat → α} {xs : List α} (reads : ∀ j x, xs[j]? = some x → g j = x) :
    (List.range xs.length).map g = xs := by
  refine List.ext_getElem (by simp) fun j _ below => ?_
  rw [List.getElem_map, List.getElem_range]
  exact reads j _ (List.getElem?_eq_getElem below)

/-- A field of one of the records behind a body's head. -/
theorem record_reads {α : Type} {head : List Byte} {m : Nat} {fs : List (Nat × Nat × Int)} (h : Laid head m fs)
    {f : α → List Byte} {c : Nat} {gs : α → List (Nat × Nat × Int)} (laid : ∀ x, Laid (f x) c (gs x)) {xs : List α}
    {j : Nat} {x : α} (at_ : xs[j]? = some x) {offset n v : Nat} (listed : (offset, n, (v : Int)) ∈ gs x) :
    be (head ++ xs.flatMap f) (m + (c * j + offset)) n = v % 256 ^ n := by
  rw [← h.size, be_append_right, be_flatMap (fun y => (laid y).size) at_ ((laid x).within _ listed),
    (laid x).reads listed]

theorem laid_clockBody (id : StopId) (stratum : Nat) (day : Day) (second : Nat) :
    Laid (clockBody id stratum day second) 8 [(0, 2, id.toNat), (2, 1, stratum), (3, 2, day.toNat), (5, 3, second)] :=
  (((piece_bytesOf 2 _).laid.snoc (piece_bytesOf 1 _)).snoc (piece_bytesOf 2 _)).snoc (piece_bytesOf 3 _)

theorem readClock_clockBody (id : StopId) {stratum second : Nat} (day : Day) (few : stratum < 8) (small : second < 2 ^ 24) :
    readClock (clockBody id stratum day second) = ⟨stratum, day, second⟩ := by
  have body := laid_clockBody id stratum day second
  rw [readClock_eq body.size, body.reads (v := stratum) (by simp), body.reads (v := day.toNat) (by simp),
    body.reads (v := second) (by simp), ofNat_word, Nat.mod_eq_of_lt (show second < 256 ^ 3 from small)]
  congr 1
  omega

theorem laid_listing (l : Listing) : Laid (bytesOf 2 l.tag ++ bytesOf 2 l.today.toNat ++ bytesOf 2 l.next.toNat) 6
    [(0, 2, l.tag), (2, 2, l.today.toNat), (4, 2, l.next.toNat)] :=
  ((piece_bytesOf 2 _).laid.snoc (piece_bytesOf 2 _)).snoc (piece_bytesOf 2 _)

theorem laid_offerHead (id : StopId) (day : Day) (n : Nat) :
    Laid (bytesOf 2 id.toNat ++ bytesOf 2 day.toNat ++ bytesOf 1 n) 5 [(0, 2, id.toNat), (2, 2, day.toNat), (4, 1, n)] :=
  ((piece_bytesOf 2 _).laid.snoc (piece_bytesOf 2 _)).snoc (piece_bytesOf 1 _)

theorem offerBody_length (id : StopId) (day : Day) (ls : List Listing) :
    (offerBody id day ls).length = 5 + 6 * ls.length := by
  rw [offerBody, List.length_append, (laid_offerHead id day ls.length).size, flatMap_length fun l => (laid_listing l).size]

theorem readOffer_offerBody (id : StopId) (day : Day) {ls : List Listing} (few : ls.length ≤ 6)
    (tags : ∀ l ∈ ls, l.tag < 4096) : readOffer (offerBody id day ls) = ⟨day, ls⟩ := by
  have size := offerBody_length id day ls
  have head := laid_offerHead id day ls.length
  have whole := head.skip (b := ls.flatMap fun l => bytesOf 2 l.tag ++ bytesOf 2 l.today.toNat ++ bytesOf 2 l.next.toNat) rfl
  have count : be (offerBody id day ls) 4 1 = ls.length % 256 ^ 1 := whole.reads (by simp)
  have dated : be (offerBody id day ls) 2 2 = day.toNat % 256 ^ 2 := whole.reads (by simp)
  rw [readOffer_eq (by omega), count, dated, ofNat_word, size,
    show min (ls.length % 256 ^ 1) ((5 + 6 * ls.length - 5) / 6) = ls.length by omega, map_range_eq]
  intro j l at_
  have small := tags l (List.mem_of_getElem? at_)
  have tag : be (offerBody id day ls) (5 + (6 * j + 0)) 2 = l.tag % 256 ^ 2 := record_reads head laid_listing at_ (by simp)
  have today : be (offerBody id day ls) (5 + (6 * j + 2)) 2 = l.today.toNat % 256 ^ 2 :=
    record_reads head laid_listing at_ (by simp)
  have next : be (offerBody id day ls) (5 + (6 * j + 4)) 2 = l.next.toNat % 256 ^ 2 :=
    record_reads head laid_listing at_ (by simp)
  rw [show 7 + 6 * j = 5 + (6 * j + 2) by omega, show 9 + 6 * j = 5 + (6 * j + 4) by omega,
    show 5 + 6 * j = 5 + (6 * j + 0) by omega, tag, today, next, ofNat_word, ofNat_word,
    show l.tag % 256 ^ 2 % 4096 = l.tag by omega]

theorem offerBody_fits (id : StopId) (day : Day) {ls : List Listing} (few : ls.length ≤ 6) :
    (offerBody id day ls).length ∈ bodyLengths .offer := by
  rw [offerBody_length]
  simp only [bodyLengths, List.mem_cons, List.not_mem_nil, or_false]
  omega

theorem laid_runBytes (r : Run) :
    Laid (runBytes r) 5 [(0, 2, ((r.number * 64 + r.terminal.getD 0 : Nat) : Int)), (2, 3, r.origin)] :=
  (piece_bytesOf 2 _).laid.snoc (piece_bytesOf 3 _)

theorem laid_sheetHead (id : StopId) (tag : Nat) (day : Day) (version : Version) (index count : Nat) :
    Laid (bytesOf 2 id.toNat ++ bytesOf 2 tag ++ bytesOf 2 day.toNat ++ bytesOf 2 version.toNat ++
      bytesOf 1 (index * 16 + count)) 9 [(0, 2, id.toNat), (2, 2, tag), (4, 2, day.toNat), (6, 2, version.toNat),
        (8, 1, ((index * 16 + count : Nat) : Int))] :=
  ((((piece_bytesOf 2 _).laid.snoc (piece_bytesOf 2 _)).snoc (piece_bytesOf 2 _)).snoc (piece_bytesOf 2 _)).snoc
    (piece_bytesOf 1 _)

theorem sheetBody_length (id : StopId) (tag : Nat) (day : Day) (version : Version) (index count : Nat) (rs : List Run) :
    (sheetBody id tag day version index count rs).length = 9 + 5 * rs.length := by
  rw [sheetBody, List.length_append, (laid_sheetHead id tag day version index count).size,
    flatMap_length fun r => (laid_runBytes r).size]

theorem sheetBody_fits (id : StopId) (tag : Nat) (day : Day) (version : Version) (index count : Nat) {rs : List Run}
    (few : rs.length ≤ 7) : (sheetBody id tag day version index count rs).length ∈ bodyLengths .sheet := by
  rw [sheetBody_length]
  simp only [bodyLengths, List.mem_cons, List.not_mem_nil, or_false]
  omega

/-- Whether a run's fields are of the values the layout admits (11.2). -/
def RunAdmitted (r : Run) : Prop :=
  r.number < 1024 ∧ r.origin < 2 ^ 24 ∧ r.terminal ≠ some 0 ∧ ∀ x, r.terminal = some x → x < 64

theorem run_of_numbers {r : Run} (admitted : RunAdmitted r) {v w : Nat}
    (low : v = (r.number * 64 + r.terminal.getD 0) % 256 ^ 2) (high : w = r.origin % 256 ^ 3) :
    (⟨v / 64, w, if v % 64 = 0 then none else some (v % 64)⟩ : Run) = r := by
  obtain ⟨number, origin, terminal⟩ := r
  obtain ⟨small, far, nonzero, below⟩ := admitted
  dsimp only at small far nonzero below low high
  have index : terminal.getD 0 < 64 := by
    cases terminal with
    | none => decide
    | some x => exact below x rfl
  have upper : v / 64 = number := by omega
  have lower : v % 64 = terminal.getD 0 := by omega
  rw [upper, lower, show w = origin by omega]
  cases terminal with
  | none => rfl
  | some x =>
    rw [Option.getD_some, if_neg fun zero => nonzero (congrArg some zero)]

theorem readSheet_sheetBody (id : StopId) {tag : Nat} (day : Day) (version : Version) {index count : Nat} {rs : List Run}
    (few : tag < 4096) (indexed : index < 16) (counted : count < 16) (admitted : ∀ r ∈ rs, RunAdmitted r) :
    readSheet (sheetBody id tag day version index count rs) = ⟨tag, day, version, index, count, rs⟩ := by
  have size := sheetBody_length id tag day version index count rs
  have head := laid_sheetHead id tag day version index count
  have whole := head.skip (b := rs.flatMap runBytes) rfl
  change Laid (sheetBody id tag day version index count rs) _ _ at whole
  rw [readSheet_eq (by omega), whole.reads (v := tag) (by simp), whole.reads (v := day.toNat) (by simp),
    whole.reads (v := version.toNat) (by simp), whole.reads (v := index * 16 + count) (by simp), ofNat_word, ofNat_word,
    size, show (9 + 5 * rs.length - 9) / 5 = rs.length by omega, map_range_eq, show tag % 256 ^ 2 % 4096 = tag by omega,
    show (index * 16 + count) % 256 ^ 1 / 16 = index by omega, show (index * 16 + count) % 256 ^ 1 % 16 = count by omega]
  intro j r at_
  have packed : be (sheetBody id tag day version index count rs) (9 + (5 * j + 0)) 2 =
      (r.number * 64 + r.terminal.getD 0) % 256 ^ 2 := record_reads head laid_runBytes at_ (by simp)
  have origin : be (sheetBody id tag day version index count rs) (9 + (5 * j + 2)) 3 = r.origin % 256 ^ 3 :=
    record_reads head laid_runBytes at_ (by simp)
  rw [show 11 + 5 * j = 9 + (5 * j + 2) by omega]
  exact run_of_numbers (admitted r (List.mem_of_getElem? at_)) packed origin

theorem laid_passBody (p : PassFields) : Laid (passBody p) 15
    [(0, 2, p.sender.toNat), (2, 2, p.tag), (4, 2, p.run), (6, 2, p.day.toNat), (8, 1, p.stop), (9, 2, p.delay),
      (11, 3, p.time), (14, 1, p.hops)] :=
  (((((((piece_bytesOf 2 _).laid.snoc (piece_bytesOf 2 _)).snoc (piece_bytesOf 2 _)).snoc (piece_bytesOf 2 _)).snoc
    (piece_bytesOf 1 _)).snoc (piece_bytesOfInt 2 _)).snoc (piece_bytesOfInt 3 _)).snoc (piece_bytesOf 1 _)

theorem readPass_passBody {p : PassFields} (tagged : p.tag < 4096) (numbered : p.run < 1024) (placed : p.stop < 64)
    (hopped : p.hops < 16) (early : -32768 ≤ p.delay) (late : p.delay < 32768) (before : -8388608 ≤ p.time)
    (after : p.time < 8388608) : readPass (passBody p) = p := by
  have body := laid_passBody p
  have delay : signed 16 (be (passBody p) 9 2) = p.delay :=
    signed_eq (by decide) (body.holds (9, 2, p.delay) (by simp)) early late
  have time : signed 24 (be (passBody p) 11 3) = p.time :=
    signed_eq (by decide) (body.holds (11, 3, p.time) (by simp)) before after
  rw [readPass_eq body.size, delay, time, body.reads (v := p.sender.toNat) (by simp), body.reads (v := p.tag) (by simp),
    body.reads (v := p.run) (by simp), body.reads (v := p.day.toNat) (by simp), body.reads (v := p.stop) (by simp),
    body.reads (v := p.hops) (by simp), ofNat_word, ofNat_word, show p.tag % 256 ^ 2 % 4096 = p.tag by omega,
    show p.run % 256 ^ 2 % 1024 = p.run by omega, show p.stop % 256 ^ 1 % 64 = p.stop by omega,
    show p.hops % 256 ^ 1 % 16 = p.hops by omega]

theorem laid_noticeHead (n : Notice) (hops : Nat) : ∃ head, noticeBody n hops = head ++ n.text ∧ Laid head 14
    [(0, 2, n.origin.toNat), (2, 1, n.serial.toNat), (3, 1, n.scope.code), (4, 2, n.scope.relayedId),
      (6, 1, ((if n.urgent then 1 else 0 : Nat) : Int)), (7, 2, n.expiryDay.toNat), (9, 3, n.expirySecond), (12, 1, hops),
      (13, 1, n.text.length)] :=
  ⟨_, rfl, ((((((((piece_bytesOf 2 _).laid.snoc (piece_bytesOf 1 _)).snoc (piece_bytesOf 1 _)).snoc
    (piece_bytesOf 2 _)).snoc (piece_bytesOf 1 _)).snoc (piece_bytesOf 2 _)).snoc (piece_bytesOf 3 _)).snoc
      (piece_bytesOf 1 _)).snoc (piece_bytesOf 1 _)⟩

theorem noticeBody_length (n : Notice) (hops : Nat) : (noticeBody n hops).length = 14 + n.text.length := by
  obtain ⟨head, split, laid⟩ := laid_noticeHead n hops
  rw [split, List.length_append, laid.size]

theorem readNotice_noticeBody {n : Notice} {hops : Nat} (short : n.text.length ≤ 31) (small : n.expirySecond < 2 ^ 24)
    (few : hops < 256) : readNotice (noticeBody n hops) = ⟨n.origin, n.serial, n.scope.code, n.scope.relayedId % 256 ^ 2,
      if n.urgent then 1 else 0, n.expiryDay, n.expirySecond, hops, n.text⟩ := by
  have size := noticeBody_length n hops
  obtain ⟨head, split, laid⟩ := laid_noticeHead n hops
  have whole := laid.skip (b := n.text) rfl
  have text : (head ++ n.text).drop 14 = n.text := by rw [← laid.size, List.drop_left]
  have scope : n.scope.code < 256 ^ 1 := by cases n.scope <;> simp [Scope.code]
  have priority : (if n.urgent then 1 else 0 : Nat) < 256 ^ 1 := by cases n.urgent <;> decide
  rw [readNotice_eq (by omega), split, text, whole.reads (v := n.origin.toNat) (by simp),
    whole.reads (v := n.serial.toNat) (by simp), whole.reads (v := n.scope.code) (by simp),
    whole.reads (v := n.scope.relayedId) (by simp), whole.reads (v := if n.urgent then 1 else 0) (by simp),
    whole.reads (v := n.expiryDay.toNat) (by simp), whole.reads (v := n.expirySecond) (by simp),
    whole.reads (v := hops) (by simp), whole.reads (v := n.text.length) (by simp), ofNat_word, ofNat_word, ofNat_byte,
    Nat.mod_eq_of_lt scope, Nat.mod_eq_of_lt priority, Nat.mod_eq_of_lt (show n.expirySecond < 256 ^ 3 from small),
    Nat.mod_eq_of_lt (show hops < 256 ^ 1 from few), List.take_of_length_le (by omega)]

/-- Settles O60: a field is the number its bytes make, and a body is laid out piece by piece as it is written. -/
theorem bodiesAreReadAndReadBack : Obligations.BodiesAreReadAndReadBack := by
  refine ⟨fun b => ⟨readClock_eq, fun fits => readOffer_eq (offer_length fits),
    fun fits => readSheet_eq (sheet_length fits), readPass_eq, readSight_eq,
    fun fits => readNotice_eq (notice_length.1 fits).1, readQuery_eq⟩, fun id stratum day second few small => ⟨?_, ?_⟩,
    fun id day ls few tags => ⟨offerBody_fits id day few, readOffer_offerBody id day few tags⟩,
    fun id tag day version index count rs few indexed counted short admitted =>
      ⟨sheetBody_fits id tag day version index count short, readSheet_sheetBody id day version few indexed counted admitted⟩,
    fun p tagged numbered placed hopped early late before after => ⟨?_,
      readPass_passBody tagged numbered placed hopped early late before after⟩,
    fun n hops short small few tagged => ⟨notice_length.2 ?_, ?_⟩⟩
  · exact List.mem_singleton.2 (laid_clockBody id stratum day second).size
  · exact readClock_clockBody id day few small
  · exact List.mem_singleton.2 (laid_passBody p).size
  · rw [noticeBody_length]
    omega
  · rw [readNotice_noticeBody short small few]
    refine ⟨rfl, rfl, rfl, rfl, rfl, rfl, rfl, ?_⟩
    cases scope : n.scope with
    | all received => rfl
    | route tag => exact ⟨rfl, Nat.mod_eq_of_lt ((tagged tag scope).trans (by decide))⟩
    | stop id => exact ⟨rfl, Nat.mod_eq_of_lt id.isLt⟩

end Sys2Proof.Proofs
end
